-- ==== Sys2Proof/Word.lean ====
section
/-! DEFINITION. The words the manual counts in, and the fourfold collection (channels, links and pools are numbered 0 to 3; 0.7.1). -/

namespace Sys2Proof

/-- One byte of a record or of host memory. -/
abbrev Byte := BitVec 8

/-- A 32-bit register of the register window (R165). -/
abbrev Word := BitVec 32

/-- A generation number: 16 bits, wrapping (0.7.3, R30). -/
abbrev Gen := BitVec 16

/-- A frame sequence number: 32 bits, wrapping (0.7.3, R12). -/
abbrev Seq := BitVec 32

/-- A run number: 16 bits, wrapping (0.7.3, R13). -/
abbrev RunNo := BitVec 16

/-- A capture tag: 16 bits, chosen by the host (R97). -/
abbrev Tag := BitVec 16

/-- A raw sample as a ROW message carries it: 0 to 4095 (4.1, R75). -/
abbrev Sample := BitVec 12

/-- A channel, and with it head link n and trigger input n (0.7.1). -/
abbrev ChannelId := Fin 4

/-- A buffer pool (0.7.1). -/
abbrev PoolId := Fin 4

/-- Four like things, numbered 0 to 3. -/
structure Four (α : Type) where
  c0 : α
  c1 : α
  c2 : α
  c3 : α
  deriving DecidableEq, Repr

/-- The thing numbered `i`. -/
def Four.get {α : Type} (v : Four α) (i : Fin 4) : α :=
  match i with
  | 0 => v.c0
  | 1 => v.c1
  | 2 => v.c2
  | 3 => v.c3

/-- `v` with the thing numbered `i` changed by `f`. -/
def Four.modify {α : Type} (v : Four α) (i : Fin 4) (f : α → α) : Four α :=
  match i with
  | 0 => { v with c0 := f v.c0 }
  | 1 => { v with c1 := f v.c1 }
  | 2 => { v with c2 := f v.c2 }
  | 3 => { v with c3 := f v.c3 }

/-- Every one of the four changed by `f`. -/
def Four.map {α : Type} (v : Four α) (f : α → α) : Four α :=
  ⟨f v.c0, f v.c1, f v.c2, f v.c3⟩

/-- The same thing four times. -/
def Four.same {α : Type} (a : α) : Four α :=
  ⟨a, a, a, a⟩

end Sys2Proof
end

