-- ==== Sys2Proof/Syntax.lean ====
section
/-! DEFINITION. The commands the block takes: one constructor of `Instr` for each row of spec/opcode_table.json, with the row's operands. -/

namespace Sys2Proof

/-- The configuration registers (R166). -/
inductive ConfigReg where
  | apertureBase
  | apertureSize
  | cmdBaseLo
  | cmdBaseHi
  | cplBaseLo
  | cplBaseHi
  | ringSizes
  deriving DecidableEq, Repr

/-- What takes a function reset (R173): a CONTROL write with RESET = 1, whatever else it holds, or the host port's function-level reset. -/
inductive ResetCause where
  | controlWrite (enable : Bool) (reserved : BitVec 30)
  | functionLevelReset
  deriving DecidableEq, Repr

/-- How a command fetch read completes (R134): with the 64 bytes of the slot, or with an error from the host port. -/
inductive FetchResult where
  | data (bytes : List Byte)
  | error
  deriving DecidableEq, Repr

/-- The condition of a HEAD_STATUS message (4.1, R70). -/
inductive HeadCondition where
  | ready
  | fault (code : Byte)
  | neither
  deriving DecidableEq, Repr

/-- The fields of a HELLO message, before any check of their ranges (4.1, R67). -/
structure HelloMsg where
  width : Nat
  height : Nat
  depths : List Nat
  maxGain : Nat
  revision : BitVec 16
  deriving DecidableEq, Repr

/-- A claim on the bus writer that it can hand to the host port as a write (R157, R61, R125). -/
inductive WriteClaim where
  | row (c : ChannelId)
  | header (c : ChannelId)
  | record
  deriving DecidableEq, Repr

/-- Which handed read or write of a kind completes: the one its block still waits for, or one that a reset, a configuration or an abort has since withdrawn from its block and that is nevertheless made (R157, R173, R63). -/
inductive Issue where
  | current
  | abandoned
  deriving DecidableEq, Repr

/-- The commands: one constructor for each row of spec/opcode_table.json, in its order.

The nine commands of the command processor (`recordRejected`, `set`, …, `query`) have no operand: they act on the record in hand, which FETCH_COMPLETE brought in (R134, R137; notes/assumptions/2.md). -/
inductive Instr where
  /-- POWER_ON (R173) -/
  | powerOn
  /-- FUNCTION_RESET (R173) -/
  | functionReset (cause : ResetCause)
  /-- ENABLE (R168): CONTROL with ENABLE = 1, RESET = 0 and these reserved bits -/
  | enable (reserved : BitVec 30)
  /-- DISABLE (R169): CONTROL with ENABLE = 0, RESET = 0 and these reserved bits -/
  | disable (reserved : BitVec 30)
  /-- CONFIG_WRITE (R166) -/
  | configWrite (reg : ConfigReg) (value : Word)
  /-- CMD_TAIL_WRITE (R170) -/
  | cmdTailWrite (value : Word)
  /-- CPL_HEAD_WRITE (R159) -/
  | cplHeadWrite (value : Word)
  /-- IF_STATUS_WRITE (R167) -/
  | ifStatusWrite (value : Word)
  /-- INT_CONTROL_WRITE (R172) -/
  | intControlWrite (value : Word)
  /-- REGISTER_WRITE_IGNORED (R165): `bytes` bytes written at `offset` of the window -/
  | registerWriteIgnored (offset bytes : Nat) (value : Word)
  /-- PORT_DOWN (R171) -/
  | portDown
  /-- BUS_MASTERING_CHANGE (R174) -/
  | busMasteringChange (enabled : Bool)
  /-- FETCH_COMPLETE (R134) -/
  | fetchComplete (issue : Issue) (result : FetchResult)
  /-- RECORD_REJECTED (R135) -/
  | recordRejected
  /-- SET (R24) -/
  | set
  /-- START (R82) -/
  | start
  /-- STOP (R85) -/
  | stop
  /-- CAPTURE (R99) -/
  | capture
  /-- CANCEL (R107) -/
  | cancel
  /-- POST_BUFFERS (R115) -/
  | postBuffers
  /-- RECLAIM (R118) -/
  | reclaim
  /-- QUERY (R145) -/
  | query
  /-- COMPLETION_WRITE (R157); `error`: the port reports an error for the write (R174) -/
  | completionWrite (issue : Issue) (error : Bool)
  /-- TRIGGER (R7) -/
  | trigger (c : ChannelId)
  /-- LATCH_POINT (R3) -/
  | latchPoint (c : ChannelId)
  /-- PERIOD_END (R5) -/
  | periodEnd (c : ChannelId)
  /-- HELLO (R67) -/
  | hello (c : ChannelId) (msg : HelloMsg)
  /-- HEAD_STATUS (R70) -/
  | headStatus (c : ChannelId) (condition : HeadCondition)
  /-- CARRIER_LOST (R66) -/
  | carrierLost (c : ChannelId)
  /-- ROW (R54) -/
  | row (c : ChannelId) (seq : Seq) (index : Nat) (samples : List Sample)
  /-- FRAME_END (R76) -/
  | frameEnd (c : ChannelId) (seq : Seq) (rowsSent : Nat)
  /-- ROW_WRITE (R61) -/
  | rowWrite (c : ChannelId) (issue : Issue) (error : Bool)
  /-- HEADER_WRITE (R125) -/
  | headerWrite (c : ChannelId) (issue : Issue) (error : Bool)
  /-- CARRIER_PRESENT (R65) -/
  | carrierPresent (c : ChannelId)
  /-- HOST_PORT_LINK_UP (R174) -/
  | hostPortLinkUp
  /-- MESSAGE_SIGNALLED_INTERRUPTS_CHANGE (R174) -/
  | messageSignalledInterruptsChange (enabled : Bool)
  /-- TRIGGER_INPUT_LOW (R20) -/
  | triggerInputLow (c : ChannelId)
  /-- WRITE_HANDED_TO_HOST_PORT (R157) -/
  | writeHandedToHostPort (claim : WriteClaim)
  deriving DecidableEq, Repr

end Sys2Proof
end

