-- ==== Sys2Proof/Config.lean ====
section
/-! DEFINITION. What one implementation fixes, and the free choices the manual leaves open: constants with no body, so that nothing can be proved of their values. Each choice is taken with the number of choices taken before it (`State.draws`). -/

namespace Sys2Proof

/-- The silicon revision in bits 16 to 23 of IDENT (R165, 11.1): fixed, and not given by the manual (notes/assumptions/24.md). -/
opaque Config.siliconRevision : Byte

/-- R77: at the latch point that reports the head silent, whether the latch and the ORDER are taken before the fault (true) or after it (notes/assumptions/11.md). -/
opaque Config.latchBeforeSilentFault : Nat → Bool

/-- R154: with one credit free, whether the GEN_APPLIED offer of a frame start is taken before the frame's own reservation (notes/assumptions/12.md). -/
opaque Config.offerBeforeFrameCredit : Nat → Bool

/-- R83: whether the CMD_RESULT of an accepted START enters the holding queue before the GEN_APPLIED of the frame 0 it starts at once (notes/assumptions/13.md). -/
opaque Config.startResultFirst : Nat → Bool

/-- R174: of a write for which the host port reports an error, whether byte `k` reached host memory all the same (notes/assumptions/14.md). -/
opaque Config.erroredByteLands : Nat → Nat → Bool

end Sys2Proof
end

