-- ==== Sys2Proof/Machine/State.lean ====
section
/-! DEFINITION. The state of the block as plain data: every item that chapters 1 to 10 give a block, the queue of waiting commands, and the outputs (messages to heads, interrupt messages, bytes written to host memory). -/

namespace Sys2Proof.Machine

/-! ## Why a step can stop -/

/-- The block has no fault that stops it: a channel's fault and the interface state HALTED are states (R91, R171). -/
inductive Fault where
  deriving DecidableEq, Repr

/-- Why a command is turned away. -/
inductive Refusal where
  /-- A row of the table without a meaning. No arm of `exec` answers it. Safe. -/
  | notModelled (mnemonic : String)
  /-- Raised by REGISTER_WRITE_IGNORED alone, for an ill-formed one: the write it names is an aligned 32-bit write to a writable register, so some other row takes it (R165). Safe: no sender presents it. -/
  | writeIsTaken
  deriving DecidableEq, Repr

/-! ## Settings (chapter 2) -/

/-- The readout modes (0.8, R46). -/
inductive Mode where
  | full
  | mean2
  | mean3
  | skip2
  | vbin4
  deriving DecidableEq, Repr

/-- The raw sample depths, in bits (R21). -/
inductive Depth where
  | d10
  | d12
  deriving DecidableEq, Repr

/-- The readout directions (R21, R46). -/
inductive Flip where
  | normal
  | inverted
  deriving DecidableEq, Repr

/-- The start sources (R21, R4). -/
inductive StartSource where
  | timer
  | trigger
  deriving DecidableEq, Repr

/-- A settings record: thirteen fields, each present or absent (R21). -/
structure Settings where
  mode : Option Mode
  depth : Option Depth
  flip : Option Flip
  vStart : Option Nat
  vRows : Option Nat
  hStart : Option Nat
  hWidth : Option Nat
  gain : Option Nat
  lp : Option Nat
  lf : Option Nat
  stretch : Option Nat
  startSource : Option StartSource
  exposure : Option Nat
  deriving DecidableEq, Repr

/-- A complete settings set: every field present except perhaps gain (R21). -/
structure FullSettings where
  mode : Mode
  depth : Depth
  flip : Flip
  vStart : Nat
  vRows : Nat
  hStart : Nat
  hWidth : Nat
  gain : Option Nat
  lp : Nat
  lf : Nat
  stretch : Nat
  startSource : StartSource
  exposure : Nat
  deriving DecidableEq, Repr

/-- The committed set: fields, generation and report-request flag (2.2, R26, R27). -/
structure CommittedSet where
  fields : Settings
  gen : Gen
  report : Bool
  deriving DecidableEq, Repr

/-- A latched or active set: a complete copy of a committed set (2.2, R41). -/
structure GoverningSet where
  fields : FullSettings
  gen : Gen
  report : Bool
  deriving DecidableEq, Repr

/-- The integration record (R38). -/
structure Integration where
  exposure : Nat
  gen : Gen
  deriving DecidableEq, Repr

/-- The settings table of a channel (2.2, R42). -/
structure SettingsTable where
  working : Settings
  committed : Option CommittedSet
  latched : Option GoverningSet
  active : Option GoverningSet
  integration : Option Integration
  genCounter : Gen
  frame0Mark : Bool
  deriving DecidableEq, Repr

/-! ## Frame timer (chapter 1) -/

/-- The frame timer's states (R1). -/
inductive TimerState where
  | idle
  | period
  | waiting
  deriving DecidableEq, Repr

/-- The frame timer of a channel (1.1), with the level at its trigger filter's output (R6). -/
structure FrameTimer where
  state : TimerState
  line : Nat
  /-- 10 ns units elapsed in the line now running (R1; notes/assumptions/18.md). -/
  lineTime : Nat
  periodLength : Nat
  lineLength : Nat
  pending : Option StartSource
  nextSeq : Seq
  run : RunNo
  backlog : Nat
  inputHigh : Bool
  deriving DecidableEq, Repr

/-! ## Buffers, frames and rows (chapters 3 and 7) -/

/-- A buffer descriptor (R114). -/
structure Descriptor where
  addr : BitVec 64
  length : BitVec 32
  id : BitVec 32
  deriving DecidableEq, Repr

/-- The two frame contexts of a channel, context 0 and context 1 (R14). -/
inductive ContextId where
  | ctx0
  | ctx1
  deriving DecidableEq, Repr

/-- The states of a context in use (7.5). -/
inductive Stage where
  | reading
  | draining
  | closing
  deriving DecidableEq, Repr

/-- Why a frame is dropped (R122, R126). -/
inductive DropReason where
  | settling
  | noBuffer
  | bufferSmall
  | aborted
  deriving DecidableEq, Repr

/-- What a frame context holds of host memory (R104, R121): nothing, a short descriptor that is never written, or the frame's buffer. -/
inductive Hold where
  | nothing
  | short (d : Descriptor)
  | buffer (d : Descriptor)
  deriving DecidableEq, Repr

/-- The settings snapshot of a frame (R35 step 4): transition-, readout- and timing-class fields, gain read as 0 where absent. -/
structure Snapshot where
  mode : Mode
  depth : Depth
  flip : Flip
  vStart : Nat
  vRows : Nat
  hStart : Nat
  hWidth : Nat
  gain : Nat
  lp : Nat
  lf : Nat
  stretch : Nat
  startSource : StartSource
  deriving DecidableEq, Repr

/-- The flags of a frame (R14). -/
structure FrameFlags where
  short : Bool
  gap : Bool
  overflow : Bool
  aborted : Bool
  deriving DecidableEq, Repr

/-- A frame context in use (R14, R122). -/
structure Frame where
  ctx : ContextId
  stage : Stage
  seq : Seq
  run : RunNo
  snapshot : Snapshot
  readoutGen : Gen
  exposure : Nat
  exposureGen : Gen
  settling : Bool
  tag : Option Tag
  hold : Hold
  credit : Bool
  dropReason : Option DropReason
  nextRow : Nat
  produced : Nat
  lost : Nat
  flags : FrameFlags
  /-- R129: the frame was aborted, and its header write was not handed to the port, while the interface was or became DISABLED or HALTED: its header is never written, whatever state the interface takes before it closes. -/
  noHeader : Bool
  /-- The channel's lost-event counter as sampled at the close (R125 step 1). -/
  lostEvents : Option Nat
  deriving DecidableEq, Repr

/-- The row combiner of a channel (3.5). DESIGN CHOICE: `group` while no group is open, and after the last group of a frame (notes/assumptions/46.md). -/
structure Combiner where
  serving : Option ContextId
  group : Nat
  rowsInGroup : Nat
  invalid : Bool
  sums : List Nat
  deriving DecidableEq, Repr

/-- A finished output row in the output row queue (3.8): `words = none` is the mark that the row is zeros. -/
structure OutputRow where
  ctx : ContextId
  index : Nat
  words : Option (List Nat)
  deriving DecidableEq, Repr

/-- A read of host memory handed to the host port: `length` bytes from `addr` on (R131, R134). -/
structure BusRead where
  addr : Nat
  length : Nat
  deriving DecidableEq, Repr

/-- A write of host memory handed to the host port (R157). -/
structure BusWrite where
  addr : Nat
  bytes : List Byte
  deriving DecidableEq, Repr

/-! ## Captures (chapter 6) -/

/-- The states of a capture (R98). -/
inductive CaptureState where
  | queued
  | opened
  | draining
  deriving DecidableEq, Repr

/-- The close reasons (R106). -/
inductive CloseReason where
  | complete
  | cancelled
  | stopped
  | fault
  deriving DecidableEq, Repr

/-- A capture record (6.1). Its close credit is held as long as the record stands (R97), so the record is the held credit. -/
structure Capture where
  tag : Tag
  pool : PoolId
  count : Nat
  remaining : Nat
  guardGen : Option Gen
  delivered : Nat
  inFlight : Nat
  state : CaptureState
  reason : Option CloseReason
  deriving DecidableEq, Repr

/-! ## Head link (chapter 4) -/

/-- The head geometry record (4.2). -/
structure Geometry where
  width : Nat
  height : Nat
  depth10 : Bool
  depth12 : Bool
  maxGain : Nat
  revision : BitVec 16
  deriving DecidableEq, Repr

/-- The vertical handling an ORDER names (R73). -/
inductive RowUse where
  | all
  | combined
  | oneInTwo
  deriving DecidableEq, Repr

/-- An ORDER (R73). -/
structure Order where
  seq : Seq
  depth : Depth
  flip : Flip
  vStart : Nat
  vRows : Nat
  vFactor : Nat
  rowUse : RowUse
  gain : Nat
  lp : Nat
  exposure : Nat
  startSource : StartSource
  deriving DecidableEq, Repr

/-- What passes from the part to a head (4.1). -/
inductive LinkMsg where
  | order (o : Order)
  | halt
  | mark
  deriving DecidableEq, Repr

/-- The head link controller of a channel (4.2). The link is UP exactly while the geometry record is present (R65). -/
structure Link where
  carrier : Bool
  geometry : Option Geometry
  headFault : Option Byte
  endMiss : Nat
  stray : Nat
  /-- Everything sent on the link, oldest first: the model's record of an output (notes/assumptions/17.md). -/
  sent : List LinkMsg
  deriving DecidableEq, Repr

/-! ## Channel (chapter 5) -/

/-- The channel states (R81). -/
inductive ChannelState where
  | off
  | starting
  | running
  | stopping
  | faulted
  deriving DecidableEq, Repr

/-- The fault causes (R90). -/
inductive FaultCause where
  | linkLost
  | headFault (code : Byte)
  | headSilent
  deriving DecidableEq, Repr

/-- The stop kinds (R94). -/
inductive StopKind where
  | stop
  | abort
  | halt
  | cleared
  deriving DecidableEq, Repr

/-- What a CHANNEL_EVENT says (R94). -/
inductive ChannelEvent where
  | stopped (kind : StopKind)
  | faulted (cause : FaultCause)
  deriving DecidableEq, Repr

/-- The end of a run by a stop with abort, a fault or HALTED, from the abort of its frames to the close of the last of them (R128): the event it will make, and whether HALTED was entered meanwhile on a channel that has faulted (notes/assumptions/6.md, 8.md). -/
structure Ending where
  event : ChannelEvent
  thenHalt : Bool
  deriving DecidableEq, Repr

/-- A channel with the blocks that exist once per channel (0.3). -/
structure Channel where
  state : ChannelState
  faultCause : Option FaultCause
  standing : Bool
  lostEvents : Nat
  /-- The end of the run under way, if its aborted frames are still in use. The channel keeps its state, its standing credit, its sets and its captures until they have closed (R81, R93, R111; notes/assumptions/6.md). -/
  ending : Option Ending
  timer : FrameTimer
  table : SettingsTable
  link : Link
  /-- The frame contexts in use, the earlier frame first (R124). -/
  frames : List Frame
  /-- The context freed last since the reset, if any frame has been freed (R14). -/
  lastFreed : Option ContextId
  combiner : Combiner
  /-- The output row queue, oldest first (R60). -/
  rows : List OutputRow
  /-- The write of the oldest queued row, once handed to the host port (R61); one at a time (notes/assumptions/42.md). -/
  rowWrite : Option BusWrite
  /-- The header write of the frame in CLOSING, once handed to the host port (R125). -/
  headerWrite : Option BusWrite
  /-- The capture queue, oldest first (R98). -/
  captures : List Capture
  deriving DecidableEq, Repr

/-! ## Completion records (chapter 9, 11.3) -/

/-- The result codes (R135). -/
inductive ResultCode where
  | ok
  | badKind
  | badTarget
  | badField
  | badCombination
  | incomplete
  | headNotReady
  | wrongState
  | queueFull
  | duplicateTag
  | noSuchCapture
  | poolFull
  | badBuffer
  deriving DecidableEq, Repr

/-- A CMD_RESULT (R137): `kind`, `target` and `id` are the record's bytes as read (R177). -/
structure CmdResult where
  slot : Nat
  kind : Byte
  target : Byte
  id : BitVec 16
  code : ResultCode
  gen : Option Gen
  deriving DecidableEq, Repr

/-- A STATUS (R146). -/
structure Status where
  channel : ChannelId
  run : RunNo
  state : ChannelState
  faultCause : Option FaultCause
  geometry : Option Geometry
  headFault : Option Byte
  nextSeq : Seq
  committedGen : Option Gen
  latchedGen : Option Gen
  activeGen : Option Gen
  queueLength : Nat
  lostEvents : Nat
  backlog : Nat
  stray : Nat
  endMiss : Nat
  clear : Bool
  deriving DecidableEq, Repr

/-- A FRAME_DONE (R126). -/
structure FrameDone where
  channel : ChannelId
  run : RunNo
  seq : Seq
  tag : Tag
  buffer : Descriptor
  flags : FrameFlags
  produced : Nat
  lost : Nat
  deriving DecidableEq, Repr

/-- A FRAME_DROPPED (R126). -/
structure FrameDropped where
  channel : ChannelId
  run : RunNo
  seq : Seq
  tag : Tag
  reason : DropReason
  buffer : Option Descriptor
  deriving DecidableEq, Repr

/-- A CAPTURE_CLOSED (R106). -/
structure CaptureClosed where
  channel : ChannelId
  run : RunNo
  tag : Tag
  pool : PoolId
  reason : CloseReason
  delivered : Nat
  deriving DecidableEq, Repr

/-- A completion record, without the phase, which it takes when it is written (R158). -/
inductive Completion where
  | cmdResult (r : CmdResult)
  | status (r : Status)
  | bufferReturned (pool : PoolId) (d : Descriptor)
  | frameDone (r : FrameDone)
  | frameDropped (r : FrameDropped)
  | captureClosed (r : CaptureClosed)
  | channelEvent (c : ChannelId) (run : RunNo) (event : ChannelEvent) (nextSeq : Seq)
  | genApplied (c : ChannelId) (run : RunNo) (gen : Gen) (seq : Seq) (settling : Bool)
  | triggerMissed (c : ChannelId) (run : RunNo) (seq : Seq)
  deriving DecidableEq, Repr

/-- The completion writer (9.1). -/
structure CompletionWriter where
  queue : List Completion
  reserved : Nat
  tail : Nat
  phase : Bool
  armed : Bool
  /-- The write of the oldest record, once handed to the host port (R157). -/
  write : Option BusWrite
  deriving DecidableEq, Repr

/-! ## Command processor (chapter 8) -/

/-- The command processor's states (R132). -/
inductive ProcState where
  | idle
  | fetching
  | waitCredit
  | executing
  deriving DecidableEq, Repr

/-- The record in hand (R134): its slot, its bytes as read, and the credits reserved for it. `taken`: it is a STOP with ABORT that the channel has taken and whose CMD_RESULT waits for the closes (R128); HALTED does not discard such a record (R149; notes/assumptions/41.md). -/
structure Hand where
  slot : Nat
  bytes : List Byte
  credits : Nat
  taken : Bool
  deriving DecidableEq, Repr

/-- The command processor (0.3, 8.2). -/
structure Processor where
  state : ProcState
  hand : Option Hand
  /-- The fetch read, once handed to the host port (R131, R174). -/
  read : Option BusRead
  deriving DecidableEq, Repr

/-! ## Register window and host port (chapter 10) -/

/-- The interface states (R167). -/
inductive IfState where
  | disabled
  | active
  | quiescing
  | halted
  deriving DecidableEq, Repr

/-- The halt causes (R167, R171). -/
inductive HaltCause where
  | none
  | ringIndex
  | fetchError
  | portDown
  deriving DecidableEq, Repr

/-- The registers of the window and the interface state (R165). -/
structure Registers where
  iface : IfState
  haltCause : HaltCause
  configIgnored : Bool
  enableRefused : Bool
  intEnable : Bool
  apertureBase : Word
  apertureSize : Word
  cmdBaseLo : Word
  cmdBaseHi : Word
  cplBaseLo : Word
  cplBaseHi : Word
  cmdSize : BitVec 13
  cplSize : BitVec 13
  cmdTail : Nat
  cmdHead : Nat
  cplHead : Nat
  deriving DecidableEq, Repr

/-- The two interrupt messages (9.6). -/
inductive Interrupt where
  | completion
  | error
  deriving DecidableEq, Repr

/-- The host port (R174). -/
structure Port where
  linkUp : Bool
  busMastering : Bool
  msiEnabled : Bool
  /-- Writes handed to the port that no block waits for any more, oldest first (R157, R173, R63). -/
  abandonedWrites : List (WriteClaim × BusWrite)
  /-- Fetch reads handed to the port for which no processor waits any more, oldest first (R149, R173). -/
  abandonedReads : List BusRead
  /-- The interrupt messages the port delivered, oldest first: the model's record of an output (notes/assumptions/17.md). -/
  messages : List Interrupt
  deriving DecidableEq, Repr

/-- The bytes the part has written to host memory: cells with addresses strictly rising (notes/assumptions/16.md). -/
abbrev Memory := List Host.Cell

/-! ## The whole block -/

/-- The state of the FC-4 as its host port, its head links and its trigger inputs see it. -/
structure State where
  regs : Registers
  proc : Processor
  cpl : CompletionWriter
  pools : Four (List Descriptor)
  chans : Four Channel
  port : Port
  mem : Memory
  /-- The commands that are waiting, first in, first out. -/
  pending : List Instr
  /-- The number of free choices taken so far: the argument of the constants of Config (notes/assumptions/38.md). -/
  draws : Nat
  deriving DecidableEq, Repr

/-! ## Reset values -/

/-- A settings set with every field absent (R44). -/
def Settings.absent : Settings :=
  { mode := none, depth := none, flip := none, vStart := none, vRows := none, hStart := none, hWidth := none, gain := none,
    lp := none, lf := none, stretch := none, startSource := none, exposure := none }

/-- R44. -/
def SettingsTable.reset : SettingsTable :=
  { working := Settings.absent, committed := none, latched := none, active := none, integration := none, genCounter := 0, frame0Mark := false }

/-- R20, with the trigger input low (notes/assumptions/21.md) and the undefined lengths 0 (notes/assumptions/20.md). -/
def FrameTimer.reset : FrameTimer :=
  { state := .idle, line := 0, lineTime := 0, periodLength := 0, lineLength := 0, pending := none, nextSeq := 0, run := 0, backlog := 0,
    inputHigh := false }

/-- R53: serving no frame, with an empty accumulator. DESIGN CHOICE: the group output index is then 0, and there is no column sum, there being no out_width (notes/assumptions/46.md). -/
def Combiner.empty : Combiner :=
  { serving := none, group := 0, rowsInGroup := 0, invalid := false, sums := [] }

/-- R80 after power-on, with carrier present (notes/assumptions/22.md). -/
def Link.reset : Link :=
  { carrier := true, geometry := none, headFault := none, endMiss := 0, stray := 0, sent := [] }

/-- R96, R20, R44, R113, R130, R63 after power-on. -/
def Channel.reset : Channel :=
  { state := .off, faultCause := none, standing := false, lostEvents := 0, ending := none, timer := FrameTimer.reset,
    table := SettingsTable.reset, link := Link.reset, frames := [], lastFreed := none, combiner := Combiner.empty, rows := [],
    rowWrite := none, headerWrite := none, captures := [] }

/-- R164. -/
def CompletionWriter.reset : CompletionWriter :=
  { queue := [], reserved := 0, tail := 0, phase := true, armed := false, write := none }

/-- R149. -/
def Processor.reset : Processor :=
  { state := .idle, hand := none, read := none }

/-- R165. -/
def Registers.reset : Registers :=
  { iface := .disabled, haltCause := .none, configIgnored := false, enableRefused := false, intEnable := false, apertureBase := 0,
    apertureSize := 0, cmdBaseLo := 0, cmdBaseHi := 0, cplBaseLo := 0, cplBaseHi := 0, cmdSize := 0, cplSize := 0, cmdTail := 0,
    cmdHead := 0, cplHead := 0 }

/-- The host port right after power-on: link down, bus mastering and message-signalled interrupts disabled (notes/assumptions/23.md). -/
def Port.reset : Port :=
  { linkUp := false, busMastering := false, msiEnabled := false, abandonedWrites := [], abandonedReads := [], messages := [] }

/-- The block right after power-on (R173), with no command waiting. -/
def State.reset : State :=
  { regs := Registers.reset, proc := Processor.reset, cpl := CompletionWriter.reset, pools := Four.same [], chans := Four.same Channel.reset,
    port := Port.reset, mem := [], pending := [], draws := 0 }

end Sys2Proof.Machine
end

