-- ==== Sys2Proof/Machine/Memory.lean ====
section
/-! DEFINITION. Host memory as the part has written it: a canonical list of cells, byte order little-endian (0.7.4). -/

namespace Sys2Proof.Machine

/-- The canonical form: addresses strictly rising. (No listed cell equals what an unlisted address reads as, since that is no byte at all.) -/
abbrev Memory.wf (m : Memory) : Prop :=
  m.Pairwise (fun x y => x.1 < y.1)

/-- The byte the part last wrote at address `a`; none where it has written nothing (notes/assumptions/16.md). -/
def Memory.read (m : Memory) (a : Nat) : Option Byte :=
  match m with
  | [] => none
  | (b, x) :: rest => if a = b then some x else Memory.read rest a

/-- The memory after byte `x` is written at address `a`. -/
def Memory.write (m : Memory) (a : Nat) (x : Byte) : Memory :=
  match m with
  | [] => [(a, x)]
  | (b, y) :: rest =>
    if a < b then (a, x) :: (b, y) :: rest
    else if a = b then (a, x) :: rest
    else (b, y) :: Memory.write rest a x

/-- The memory after `bytes` are written from address `a` on. -/
def Memory.writeBytes (m : Memory) (a : Nat) (bytes : List Byte) : Memory :=
  match bytes with
  | [] => m
  | x :: rest => Memory.writeBytes (m.write a x) (a + 1) rest

/-- The memory after a write that the port reports an error for: each byte lands or not, by a free choice (R174; notes/assumptions/14.md). `k` numbers the bytes. -/
def Memory.writeErrored (draw k : Nat) (m : Memory) (a : Nat) (bytes : List Byte) : Memory :=
  match bytes with
  | [] => m
  | x :: rest => Memory.writeErrored draw (k + 1) (if Config.erroredByteLands draw k then m.write a x else m) (a + 1) rest

/-- The `k` bytes of the number `n`, low byte first (0.7.4). -/
def leBytes (k n : Nat) : List Byte :=
  match k with
  | 0 => []
  | k + 1 => BitVec.ofNat 8 n :: leBytes k (n / 256)

/-- The number in the `k` bytes from offset `off` on, low byte first. -/
def leNumber (bytes : List Byte) (off k : Nat) : Nat :=
  match k with
  | 0 => 0
  | k + 1 => (bytes.getD off 0).toNat + 256 * leNumber bytes (off + 1) k

end Sys2Proof.Machine
end

