-- ==== Sys2Proof/Machine/Operands.lean ====
section
/-! DEFINITION. The operands of the command processor's commands: the 64-byte command record in hand, read as chapter 11 lays it out (11.2, R176), with the processor's record checks (R135). -/

namespace Sys2Proof.Machine

/-- The value slots of a SET record whose mask bit is set, as raw numbers; the others absent (R24, R176). -/
structure RawEdits where
  mode : Option Nat
  depth : Option Nat
  flip : Option Nat
  vStart : Option Nat
  vRows : Option Nat
  hStart : Option Nat
  hWidth : Option Nat
  gain : Option Nat
  lp : Option Nat
  lf : Option Nat
  stretch : Option Nat
  startSource : Option Nat
  exposure : Option Nat
  deriving DecidableEq, Repr

/-- The flags of a SET record (11.2). -/
structure SetFlags where
  hold : Bool
  revert : Bool
  report : Bool
  deriving DecidableEq, Repr

/-- A command record as the processor sees it after its own checks (R135). -/
inductive Command where
  | set (c : ChannelId) (flags : SetFlags) (edits : RawEdits)
  | start (c : ChannelId)
  | stop (c : ChannelId) (abort : Bool)
  | capture (c : ChannelId) (pool : PoolId) (tag : Tag) (count : Nat) (guardGen : Option Gen)
  | cancel (c : ChannelId) (tag : Tag)
  | postBuffers (pool : PoolId) (descs : List Descriptor)
  | reclaim (pool : PoolId)
  | query (c : ChannelId) (clear : Bool)
  | rejected (code : ResultCode)
  deriving DecidableEq, Repr

/-- A channel or pool number from a byte read whole; none above 3 (R176). -/
def fourOf (b : Byte) : Option (Fin 4) :=
  if h : b.toNat < 4 then some ⟨b.toNat, h⟩ else none

/-- Byte `off` of a record. -/
def byteAt (bytes : List Byte) (off : Nat) : Byte :=
  bytes.getD off 0

/-- A two-byte field of a record. -/
def halfAt (bytes : List Byte) (off : Nat) : BitVec 16 :=
  BitVec.ofNat 16 (leNumber bytes off 2)

/-- The value slot at `off`, `k` bytes wide, if bit `bit` of the presence mask marks it (11.2). -/
def slotIf (bytes : List Byte) (bit off k : Nat) : Option Nat :=
  if (leNumber bytes 8 2).testBit bit then some (leNumber bytes off k) else none

/-- The body of a SET record (11.2). -/
def editsOf (bytes : List Byte) : RawEdits :=
  { mode := slotIf bytes 0 10 1
    depth := slotIf bytes 1 11 1
    flip := slotIf bytes 2 12 1
    vStart := slotIf bytes 3 16 2
    vRows := slotIf bytes 4 18 2
    hStart := slotIf bytes 5 20 2
    hWidth := slotIf bytes 6 22 2
    gain := slotIf bytes 7 15 1
    lp := slotIf bytes 8 24 2
    lf := slotIf bytes 9 26 2
    stretch := slotIf bytes 10 14 1
    startSource := slotIf bytes 11 13 1
    exposure := slotIf bytes 12 28 2 }

/-- The descriptor at `off` of a POST_BUFFERS record (11.2). -/
def descriptorAt (bytes : List Byte) (off : Nat) : Descriptor :=
  { addr := BitVec.ofNat 64 (leNumber bytes off 8)
    length := BitVec.ofNat 32 (leNumber bytes (off + 8) 4)
    id := BitVec.ofNat 32 (leNumber bytes (off + 12) 4) }

/-- The first `count` descriptors of a POST_BUFFERS record; the slots beyond are not read (R176). -/
def descriptorsOf (bytes : List Byte) (count : Nat) : List Descriptor :=
  ([16, 32, 48].take count).map (descriptorAt bytes)

/-- The flag bit `i` of a record (11.2). -/
def flagAt (bytes : List Byte) (i : Nat) : Bool :=
  (byteAt bytes 2).getLsbD i

/-- `k` on the record's target, or BAD_TARGET above 3 (R135 check 2). -/
def onTarget (bytes : List Byte) (k : Fin 4 → Command) : Command :=
  match fourOf (byteAt bytes 1) with
  | none => .rejected .badTarget
  | some t => k t

/-- The command of a record with its target known to be 0 to 3; the checks 3 and 4 of R135 are made here. -/
def captureOf (bytes : List Byte) (c : ChannelId) : Command :=
  match fourOf (byteAt bytes 8) with
  | none => .rejected .badTarget
  | some pool =>
    .capture c pool (halfAt bytes 10) (leNumber bytes 12 2) (if flagAt bytes 0 then some (halfAt bytes 14) else none)

/-- A POST_BUFFERS with its pool known to be 0 to 3: a count of 0 or above 3 is BAD_FIELD (R135 check 4). -/
def postBuffersOf (bytes : List Byte) (pool : PoolId) : Command :=
  let count := (byteAt bytes 8).toNat
  if count = 0 ∨ 3 < count then .rejected .badField else .postBuffers pool (descriptorsOf bytes count)

/-- The record in hand after the record checks (R135), in their order: kind, target, CAPTURE pool, descriptor count. -/
def commandOf (bytes : List Byte) : Command :=
  match (byteAt bytes 0).toNat with
  | 1 => onTarget bytes fun c => .set c ⟨flagAt bytes 0, flagAt bytes 1, flagAt bytes 2⟩ (editsOf bytes)
  | 2 => onTarget bytes fun c => .start c
  | 3 => onTarget bytes fun c => .stop c (flagAt bytes 0)
  | 4 => onTarget bytes (captureOf bytes)
  | 5 => onTarget bytes fun c => .cancel c (halfAt bytes 8)
  | 6 => onTarget bytes (postBuffersOf bytes)
  | 7 => onTarget bytes fun p => .reclaim p
  | 8 => onTarget bytes fun c => .query c (flagAt bytes 0)
  | _ => .rejected .badKind

end Sys2Proof.Machine
end

