-- ==== Sys2Proof/Machine/Validation.lean ====
section
/-! DEFINITION. The settings record: the range check (R21, R24), the combination rules (R28, R29), completeness (R21), and what is built from a complete set: snapshot, output geometry (R49) and ORDER (R73). -/

namespace Sys2Proof.Machine

/-! ## Codes and ranges (R21, R176) -/

/-- The mode of a mode code (11.2). -/
def modeOfCode : Nat → Option Mode
  | 0 => some .full
  | 1 => some .mean2
  | 2 => some .mean3
  | 3 => some .skip2
  | 4 => some .vbin4
  | _ => none

/-- The depth of a depth byte: the number 10 or 12 itself (11.2). -/
def depthOfCode : Nat → Option Depth
  | 10 => some .d10
  | 12 => some .d12
  | _ => none

/-- The flip of a flip code (11.2). -/
def flipOfCode : Nat → Option Flip
  | 0 => some .normal
  | 1 => some .inverted
  | _ => none

/-- The start source of a start source code (11.2). -/
def startSourceOfCode : Nat → Option StartSource
  | 0 => some .timer
  | 1 => some .trigger
  | _ => none

/-- A number inside `lo` to `hi`. -/
def numberIn (lo hi n : Nat) : Option Nat :=
  if lo ≤ n ∧ n ≤ hi then some n else none

/-- The range check of one field: an absent field passes. -/
def fieldOk {α : Type} (parse : Nat → Option α) (raw : Option Nat) : Bool :=
  match raw with
  | none => true
  | some n => (parse n).isSome

/-- Step 2 of R24: every field the mask marks present is range-checked against R21. -/
def RawEdits.inRange (e : RawEdits) : Bool :=
  fieldOk modeOfCode e.mode && fieldOk depthOfCode e.depth && fieldOk flipOfCode e.flip && fieldOk (numberIn 0 3071) e.vStart &&
    fieldOk (numberIn 16 3072) e.vRows && fieldOk (numberIn 0 4095) e.hStart && fieldOk (numberIn 64 4096) e.hWidth &&
    fieldOk (numberIn 0 255) e.gain && fieldOk (numberIn 400 65535) e.lp && fieldOk (numberIn 40 65535) e.lf &&
    fieldOk (numberIn 0 15) e.stretch && fieldOk startSourceOfCode e.startSource && fieldOk (numberIn 1 65535) e.exposure

/-- Step 3 of R24: every present field is written into the set, the others are left as they stand. -/
def Settings.edited (s : Settings) (e : RawEdits) : Settings :=
  { mode := (e.mode.bind modeOfCode).or s.mode
    depth := (e.depth.bind depthOfCode).or s.depth
    flip := (e.flip.bind flipOfCode).or s.flip
    vStart := (e.vStart.bind (numberIn 0 3071)).or s.vStart
    vRows := (e.vRows.bind (numberIn 16 3072)).or s.vRows
    hStart := (e.hStart.bind (numberIn 0 4095)).or s.hStart
    hWidth := (e.hWidth.bind (numberIn 64 4096)).or s.hWidth
    gain := (e.gain.bind (numberIn 0 255)).or s.gain
    lp := (e.lp.bind (numberIn 400 65535)).or s.lp
    lf := (e.lf.bind (numberIn 40 65535)).or s.lf
    stretch := (e.stretch.bind (numberIn 0 15)).or s.stretch
    startSource := (e.startSource.bind startSourceOfCode).or s.startSource
    exposure := (e.exposure.bind (numberIn 1 65535)).or s.exposure }

/-! ## Modes (R46, R51, R73) -/

/-- The vertical factor v (R46). -/
def Mode.v : Mode → Nat
  | .full => 1
  | .mean2 => 2
  | .mean3 => 3
  | .skip2 => 2
  | .vbin4 => 4

/-- The horizontal factor h (R46). -/
def Mode.h : Mode → Nat
  | .full => 1
  | .mean2 => 2
  | .mean3 => 3
  | .skip2 => 2
  | .vbin4 => 1

/-- The number N of samples combined into one output word (R46). -/
def Mode.samples : Mode → Nat
  | .full => 1
  | .mean2 => 4
  | .mean3 => 9
  | .skip2 => 2
  | .vbin4 => 4

/-- The fraction bits of the mode's words (R52). -/
def Mode.fraction : Mode → Nat
  | .full => 0
  | .mean2 => 2
  | .mean3 => 2
  | .skip2 => 2
  | .vbin4 => 2

/-- Which rows the part will use (R73). -/
def Mode.rowUse : Mode → RowUse
  | .full => .all
  | .mean2 => .combined
  | .mean3 => .combined
  | .skip2 => .oneInTwo
  | .vbin4 => .combined

/-- The number of bits of a depth. -/
def Depth.bits : Depth → Nat
  | .d10 => 10
  | .d12 => 12

/-! ## The combination rules (R28)

Each check is passed over (true) when a field it names is absent, or, for a geometry check, when there is no head geometry (link DOWN). -/

/-- C1: v_start + v_rows ≤ H. -/
def checkC1 (s : Settings) (g : Option Geometry) : Bool :=
  match g, s.vStart, s.vRows with
  | some g, some a, some n => a + n ≤ g.height
  | _, _, _ => true

/-- C2: v_rows is a multiple of v. -/
def checkC2 (s : Settings) : Bool :=
  match s.mode, s.vRows with
  | some m, some n => n % m.v == 0
  | _, _ => true

/-- C3: h_start is a multiple of 8·h. -/
def checkC3 (s : Settings) : Bool :=
  match s.mode, s.hStart with
  | some m, some n => n % (8 * m.h) == 0
  | _, _ => true

/-- C4: h_width is a multiple of 8·h. -/
def checkC4 (s : Settings) : Bool :=
  match s.mode, s.hWidth with
  | some m, some n => n % (8 * m.h) == 0
  | _, _ => true

/-- C5: h_start + h_width ≤ W. -/
def checkC5 (s : Settings) (g : Option Geometry) : Bool :=
  match g, s.hStart, s.hWidth with
  | some g, some a, some n => a + n ≤ g.width
  | _, _, _ => true

/-- Whether a head supports a depth. -/
def Geometry.supports (g : Geometry) : Depth → Bool
  | .d10 => g.depth10
  | .d12 => g.depth12

/-- C6: depth is a member of D. -/
def checkC6 (s : Settings) (g : Option Geometry) : Bool :=
  match g, s.depth with
  | some g, some d => g.supports d
  | _, _ => true

/-- C7: gain ≤ the head's maximum gain code. -/
def checkC7 (s : Settings) (g : Option Geometry) : Bool :=
  match g, s.gain with
  | some g, some n => n ≤ g.maxGain
  | _, _ => true

/-- The shortest line of a head at a depth, in 10 ns units (C8): 120 + ⌈W/4⌉ at depth 12, 120 + ⌈W/8⌉ at depth 10. -/
def Geometry.shortestLine (g : Geometry) : Depth → Nat
  | .d12 => 120 + (g.width + 3) / 4
  | .d10 => 120 + (g.width + 7) / 8

/-- C8: Lp is at least the shortest line. -/
def checkC8 (s : Settings) (g : Option Geometry) : Bool :=
  match g, s.lp, s.depth with
  | some g, some lp, some d => g.shortestLine d ≤ lp
  | _, _, _ => true

/-- C9: Lf ≥ v_rows + 24. -/
def checkC9 (s : Settings) : Bool :=
  match s.lf, s.vRows with
  | some lf, some n => n + 24 ≤ lf
  | _, _ => true

/-- C10: E ≤ Lf·(S+1) − 4. -/
def checkC10 (s : Settings) : Bool :=
  match s.exposure, s.lf, s.stretch with
  | some e, some lf, some st => e + 4 ≤ lf * (st + 1)
  | _, _, _ => true

/-- R28: the ten checks, each applied where its fields are present and, for a geometry check, a geometry is held. -/
def Settings.combinationOk (s : Settings) (g : Option Geometry) : Bool :=
  checkC1 s g && checkC2 s && checkC3 s && checkC4 s && checkC5 s g && checkC6 s g && checkC7 s g && checkC8 s g && checkC9 s && checkC10 s

/-! ## Complete sets -/

/-- The complete set of a settings record; none while a field other than gain is absent (R21). -/
def Settings.complete (s : Settings) : Option FullSettings := do
  let mode ← s.mode
  let depth ← s.depth
  let flip ← s.flip
  let vStart ← s.vStart
  let vRows ← s.vRows
  let hStart ← s.hStart
  let hWidth ← s.hWidth
  let lp ← s.lp
  let lf ← s.lf
  let stretch ← s.stretch
  let startSource ← s.startSource
  let exposure ← s.exposure
  some ⟨mode, depth, flip, vStart, vRows, hStart, hWidth, s.gain, lp, lf, stretch, startSource, exposure⟩

/-- The complete copy of a committed set, with its generation and report-request flag (R32, R41). -/
def CommittedSet.governing (k : CommittedSet) : Option GoverningSet :=
  match k.fields.complete with
  | none => none
  | some f => some ⟨f, k.gen, k.report⟩

/-- The gain a governing set is used with: absent is read as 0 (R21). -/
def FullSettings.gainUsed (f : FullSettings) : Nat :=
  f.gain.getD 0

/-- The period length Lf·(S+1), in lines (R2). -/
def FullSettings.periodLength (f : FullSettings) : Nat :=
  f.lf * (f.stretch + 1)

/-- The settings snapshot of a frame (R35 step 4). -/
def FullSettings.snapshot (f : FullSettings) : Snapshot :=
  { mode := f.mode, depth := f.depth, flip := f.flip, vStart := f.vStart, vRows := f.vRows, hStart := f.hStart, hWidth := f.hWidth,
    gain := f.gainUsed, lp := f.lp, lf := f.lf, stretch := f.stretch, startSource := f.startSource }

/-- R36: whether two sets differ in a transition-class field (mode, depth, flip, v_start, v_rows). -/
def FullSettings.transitionDiffers (a b : FullSettings) : Bool :=
  a.mode != b.mode || a.depth != b.depth || a.flip != b.flip || a.vStart != b.vStart || a.vRows != b.vRows

/-- The ORDER built from a governing set for the frame numbered `seq` (R73). -/
def GoverningSet.order (k : GoverningSet) (seq : Seq) : Order :=
  { seq := seq, depth := k.fields.depth, flip := k.fields.flip, vStart := k.fields.vStart, vRows := k.fields.vRows,
    vFactor := k.fields.mode.v, rowUse := k.fields.mode.rowUse, gain := k.fields.gainUsed, lp := k.fields.lp,
    exposure := k.fields.exposure, startSource := k.fields.startSource }

/-! ## Output geometry (R49) -/

/-- out_width = h_width / h. -/
def Snapshot.outWidth (p : Snapshot) : Nat :=
  p.hWidth / p.mode.h

/-- out_rows = v_rows / v. -/
def Snapshot.outRows (p : Snapshot) : Nat :=
  p.vRows / p.mode.v

/-- The row pitch ⌈2·out_width / 64⌉ · 64. -/
def Snapshot.pitch (p : Snapshot) : Nat :=
  (2 * p.outWidth + 63) / 64 * 64

/-- The frame size needed: 64 + out_rows · pitch. -/
def Snapshot.frameSize (p : Snapshot) : Nat :=
  64 + p.outRows * p.pitch

/-! ## Generations (0.7.3, R30) -/

/-- "a is older than b": (a − b) mod 65536 is 32768 or more. -/
def genOlder (a b : Gen) : Bool :=
  32768 ≤ (a - b).toNat

end Sys2Proof.Machine
end

