-- ==== Sys2Proof/Machine/Formats.lean ====
section
/-! DEFINITION. The byte layouts the part writes (chapter 11): output rows (R50), the frame header (11.4, R127), completion records (11.3, R177) and the values the registers read (11.1, R165). -/

namespace Sys2Proof.Machine

/-- `k` reserved bytes, written as 0 (R177). -/
def zeroBytes (k : Nat) : List Byte :=
  List.replicate k 0

/-- One byte holding the number `n`. -/
def byteOf (n : Nat) : Byte :=
  BitVec.ofNat 8 n

/-- A bit as a number. -/
def bitNat (b : Bool) : Nat :=
  if b then 1 else 0

/-! ## Codes (11.2, 11.3) -/

/-- The mode codes. -/
def Mode.code : Mode → Nat
  | .full => 0
  | .mean2 => 1
  | .mean3 => 2
  | .skip2 => 3
  | .vbin4 => 4

/-- The flip codes. -/
def Flip.code : Flip → Nat
  | .normal => 0
  | .inverted => 1

/-- The result codes. -/
def ResultCode.code : ResultCode → Nat
  | .ok => 0
  | .badKind => 1
  | .badTarget => 2
  | .badField => 3
  | .badCombination => 4
  | .incomplete => 5
  | .headNotReady => 6
  | .wrongState => 7
  | .queueFull => 8
  | .duplicateTag => 9
  | .noSuchCapture => 10
  | .poolFull => 11
  | .badBuffer => 12

/-- The channel state codes of STATUS. -/
def ChannelState.code : ChannelState → Nat
  | .off => 0
  | .starting => 1
  | .running => 2
  | .stopping => 3
  | .faulted => 4

/-- The fault cause codes. -/
def FaultCause.code : FaultCause → Nat
  | .linkLost => 1
  | .headFault _ => 2
  | .headSilent => 3

/-- The fault code carried beside a fault cause: the head's for HEAD_FAULT, else 0. -/
def FaultCause.faultCode : FaultCause → Byte
  | .linkLost => 0
  | .headFault code => code
  | .headSilent => 0

/-- The drop reason codes. -/
def DropReason.code : DropReason → Nat
  | .settling => 1
  | .noBuffer => 2
  | .bufferSmall => 3
  | .aborted => 4

/-- The close reason codes. -/
def CloseReason.code : CloseReason → Nat
  | .complete => 1
  | .cancelled => 2
  | .stopped => 3
  | .fault => 4

/-- The stop kind codes. -/
def StopKind.code : StopKind → Nat
  | .stop => 1
  | .abort => 2
  | .halt => 3
  | .cleared => 4

/-- The flags byte of FRAME_DONE and of the frame header. -/
def FrameFlags.byte (f : FrameFlags) : Byte :=
  byteOf (bitNat f.short + 2 * bitNat f.gap + 4 * bitNat f.overflow + 8 * bitNat f.aborted)

/-! ## Output rows (R50) -/

/-- The words of an output row, each little-endian, in order of output column. -/
def wordBytes (words : List Nat) : List Byte :=
  words.flatMap (leBytes 2)

/-- The bytes of one output row write: the whole pitch, the words first and zeros after them; an invalid row is zeros. -/
def OutputRow.bytes (r : OutputRow) (pitch : Nat) : List Byte :=
  match r.words with
  | none => zeroBytes pitch
  | some ws => wordBytes ws ++ zeroBytes (pitch - 2 * ws.length)

/-! ## The frame header (11.4) -/

/-- The 64 bytes of the header of frame `f` of channel `c` in the buffer with id `id`. -/
def headerBytes (c : ChannelId) (f : Frame) (id : BitVec 32) : List Byte :=
  let p := f.snapshot
  [byteOf c.val, byteOf p.mode.code, byteOf p.depth.bits, byteOf p.flip.code]
    ++ leBytes 2 f.run.toNat ++ leBytes 2 (f.tag.getD 0).toNat ++ leBytes 4 f.seq.toNat ++ leBytes 4 id.toNat
    ++ leBytes 2 f.readoutGen.toNat ++ leBytes 2 f.exposureGen.toNat ++ leBytes 2 p.vStart ++ leBytes 2 p.vRows
    ++ leBytes 2 p.hStart ++ leBytes 2 p.hWidth ++ [byteOf p.gain, byteOf p.stretch, byteOf p.mode.fraction, f.flags.byte]
    ++ leBytes 2 p.lp ++ leBytes 2 p.lf ++ leBytes 2 f.exposure ++ leBytes 2 p.outWidth ++ leBytes 2 p.outRows ++ leBytes 2 p.pitch
    ++ leBytes 2 f.lost ++ leBytes 2 (f.lostEvents.getD 0) ++ zeroBytes 16

/-! ## Completion records (11.3) -/

/-- The common part of a completion record. -/
def commonPart (kind : Nat) (phase : Bool) (third code : Byte) : List Byte :=
  [byteOf kind, byteOf (bitNat phase), third, code]

/-- An optional generation as a two-byte field, 0 where absent (R177). -/
def genBytes (g : Option Gen) : List Byte :=
  leBytes 2 (g.getD 0).toNat

/-- Bytes 4 and 5 of STATUS. -/
def Status.stateBits (r : Status) : Nat :=
  r.state.code + 8 * bitNat r.geometry.isSome + 16 * bitNat r.clear + 32 * r.queueLength
    + 256 * (match r.faultCause with | none => 0 | some k => k.code) + 1024 * r.endMiss
    + 4096 * bitNat r.committedGen.isSome + 8192 * bitNat r.latchedGen.isSome + 16384 * bitNat r.activeGen.isSome

/-- The W and depth field of STATUS, 0 while the geometry is absent. -/
def geometryBits (g : Option Geometry) : Nat :=
  match g with
  | none => 0
  | some g => g.width + 16384 * bitNat g.depth10 + 32768 * bitNat g.depth12

/-- The 32 bytes of STATUS. -/
def Status.bytes (r : Status) (phase : Bool) : List Byte :=
  commonPart 2 phase (byteOf r.channel.val) (match r.faultCause with | none => 0 | some k => k.faultCode)
    ++ leBytes 2 r.stateBits ++ [r.headFault.getD 0, byteOf (match r.geometry with | none => 0 | some g => g.maxGain)]
    ++ leBytes 2 r.run.toNat ++ leBytes 4 r.nextSeq.toNat ++ genBytes r.committedGen ++ genBytes r.latchedGen ++ genBytes r.activeGen
    ++ leBytes 2 r.lostEvents ++ leBytes 2 r.backlog ++ leBytes 2 r.stray ++ leBytes 2 (geometryBits r.geometry)
    ++ leBytes 2 (match r.geometry with | none => 0 | some g => g.height)
    ++ leBytes 2 (match r.geometry with | none => 0 | some g => g.revision.toNat)

/-- Bytes 4 to 27 of FRAME_DONE and of FRAME_DROPPED. -/
def frameResultBytes (run : RunNo) (tag : Tag) (seq : Seq) (d : Option Descriptor) : List Byte :=
  leBytes 2 run.toNat ++ leBytes 2 tag.toNat ++ leBytes 4 seq.toNat ++
    match d with
    | none => zeroBytes 16
    | some d => leBytes 4 d.id.toNat ++ leBytes 8 d.addr.toNat ++ leBytes 4 d.length.toNat

/-- The event code, the byte at 6 and the byte at 7 of CHANNEL_EVENT. -/
def ChannelEvent.codes : ChannelEvent → Nat × Nat × Byte
  | .stopped k => (1, k.code, 0)
  | .faulted k => (2, k.code, k.faultCode)

/-- The 32 bytes of a completion record as it is written with the writer's phase (11.3, R158, R177). -/
def Completion.bytes (r : Completion) (phase : Bool) : List Byte :=
  match r with
  | .cmdResult r =>
    commonPart 1 phase r.target (byteOf r.code.code) ++ leBytes 2 r.slot ++ [r.kind, byteOf (bitNat r.gen.isSome)] ++ leBytes 2 r.id.toNat
      ++ genBytes r.gen ++ zeroBytes 20
  | .status r => r.bytes phase
  | .bufferReturned pool d =>
    commonPart 3 phase (byteOf pool.val) 1 ++ zeroBytes 4 ++ leBytes 8 d.addr.toNat ++ leBytes 4 d.length.toNat ++ leBytes 4 d.id.toNat
      ++ zeroBytes 8
  | .frameDone r =>
    commonPart 4 phase (byteOf r.channel.val) r.flags.byte ++ frameResultBytes r.run r.tag r.seq (some r.buffer)
      ++ leBytes 2 r.produced ++ leBytes 2 r.lost
  | .frameDropped r =>
    commonPart 5 phase (byteOf r.channel.val) (byteOf r.reason.code) ++ frameResultBytes r.run r.tag r.seq r.buffer
      ++ [byteOf (bitNat r.buffer.isSome)] ++ zeroBytes 3
  | .captureClosed r =>
    commonPart 6 phase (byteOf r.channel.val) (byteOf r.reason.code) ++ leBytes 2 r.run.toNat ++ leBytes 2 r.tag.toNat
      ++ [byteOf r.pool.val] ++ zeroBytes 3 ++ leBytes 4 r.delivered ++ zeroBytes 16
  | .channelEvent c run event nextSeq =>
    commonPart 7 phase (byteOf c.val) (byteOf event.codes.1) ++ leBytes 2 run.toNat ++ [byteOf event.codes.2.1, event.codes.2.2]
      ++ leBytes 4 nextSeq.toNat ++ zeroBytes 20
  | .genApplied c run gen seq settling =>
    commonPart 8 phase (byteOf c.val) 0 ++ leBytes 2 run.toNat ++ leBytes 2 gen.toNat ++ leBytes 4 seq.toNat
      ++ [byteOf (bitNat settling)] ++ zeroBytes 19
  | .triggerMissed c run seq =>
    commonPart 9 phase (byteOf c.val) 0 ++ leBytes 2 run.toNat ++ zeroBytes 2 ++ leBytes 4 seq.toNat ++ zeroBytes 20

/-! ## Register reads (11.1, R165, R175) -/

/-- The interface state codes of IF_STATUS. -/
def IfState.code : IfState → Nat
  | .disabled => 0
  | .active => 1
  | .quiescing => 2
  | .halted => 3

/-- The halt cause codes of IF_STATUS. -/
def HaltCause.code : HaltCause → Nat
  | .none => 0
  | .ringIndex => 1
  | .fetchError => 2
  | .portDown => 3

/-- The value of IF_STATUS. -/
def Registers.ifStatus (r : Registers) : Word :=
  BitVec.ofNat 32 (r.iface.code + 16 * r.haltCause.code + 256 * bitNat r.configIgnored + 512 * bitNat r.enableRefused)

/-- The value of RING_SIZES. -/
def Registers.ringSizes (r : Registers) : Word :=
  BitVec.ofNat 32 (r.cmdSize.toNat + 65536 * r.cplSize.toNat)

/-- The value of IDENT: part code 0xF4C4 and the silicon revision. -/
def identValue : Word :=
  BitVec.ofNat 32 (0xF4C4 + 65536 * Config.siliconRevision.toNat)

/-- An aligned 32-bit read of the register window at `offset`; 0 outside the fourteen registers. It has no side effect (R165). -/
def State.readRegister (s : State) (offset : Nat) : Word :=
  match offset with
  | 0x00 => identValue
  | 0x04 => BitVec.ofNat 32 (bitNat (s.regs.iface == .active))
  | 0x08 => s.regs.ifStatus
  | 0x0C => BitVec.ofNat 32 (bitNat s.regs.intEnable)
  | 0x10 => s.regs.apertureBase
  | 0x14 => s.regs.apertureSize
  | 0x18 => s.regs.cmdBaseLo
  | 0x1C => s.regs.cmdBaseHi
  | 0x20 => s.regs.cplBaseLo
  | 0x24 => s.regs.cplBaseHi
  | 0x28 => s.regs.ringSizes
  | 0x2C => BitVec.ofNat 32 s.regs.cmdTail
  | 0x30 => BitVec.ofNat 32 s.regs.cmdHead
  | 0x34 => BitVec.ofNat 32 s.regs.cplHead
  | _ => 0

/-- A narrower read: the requested `k` bytes of the register, the first at `offset` (R165). DESIGN CHOICE for an unaligned or wider read, which R165 calls not supported without saying what it returns: it is cut at the register's end (notes/assumptions/40.md). -/
def State.readRegisterBytes (s : State) (offset k : Nat) : List Byte :=
  (leBytes 4 (s.readRegister (offset / 4 * 4)).toNat).drop (offset % 4) |>.take k

end Sys2Proof.Machine
end

