-- ==== Sys2Proof/Machine/Flags.lean ====
section
/-! DEFINITION. Counters that saturate, the sticky flags of IF_STATUS, and the interrupt messages with their armed flag (R16, R79, R155, R97, R162, R163, R167). -/

namespace Sys2Proof.Machine

/-- One more on a counter that saturates at 65535 (R16, R79, R155). -/
def satAdd (n : Nat) : Nat :=
  min (n + 1) 65535

/-- One more on the frames delivered of a capture, which saturates at 4,294,967,295 (R97). -/
def satDelivered (n : Nat) : Nat :=
  min (n + 1) 4294967295

/-- A ring size the enable checks accept: a power of two from 16 to 4096 (R168). -/
def ringSizeOk (n : Nat) : Bool :=
  [16, 32, 64, 128, 256, 512, 1024, 2048, 4096].contains n

/-- R167: IF_STATUS written with `value`: a one in a flag's place clears that flag. -/
def Registers.clearFlags (r : Registers) (value : Word) : Registers :=
  { r with configIgnored := r.configIgnored && !value.getLsbD 8, enableRefused := r.enableRefused && !value.getLsbD 9 }

/-- A message handed to the host port: delivered while the port's link is up and message-signalled interrupts are enabled, else lost (R162, R174). -/
def State.deliver (s : State) (m : Interrupt) : State :=
  if s.port.linkUp && s.port.msiEnabled then { s with port := { s.port with messages := s.port.messages ++ [m] } } else s

/-- R162: if the armed flag and the interrupt enable are set and the interface is not HALTED, one completion message is sent and the flag cleared, delivered or not. -/
def State.announce (s : State) : State :=
  if s.cpl.armed && s.regs.intEnable && s.regs.iface != .halted then
    ({ s with cpl := { s.cpl with armed := false } }).deliver .completion
  else s

/-- R162: the armed flag is set (a head write, or a write that leaves the interrupt enable set); if the head differs from the tail, the message is sent at once. -/
def State.arm (s : State) : State :=
  let s := { s with cpl := { s.cpl with armed := true } }
  if s.regs.cplHead != s.cpl.tail then s.announce else s

/-- R163: the error message of an entry to HALTED, if the interrupt enable is set. -/
def State.announceHalt (s : State) : State :=
  if s.regs.intEnable then s.deliver .error else s

end Sys2Proof.Machine
end

