-- ==== Sys2Proof/Machine/Ops.lean ====
section
/-! DEFINITION. The operations every family shares: access to a channel, credits and the holding queue (chapter 9), messages to a head (R64), capture queues (chapter 6), the close of frames in order (R124, R125), the end of a run (R87, R88, R91, R128), the command processor's passages (chapter 8), and the entries to DISABLED and HALTED (R169, R171). -/

namespace Sys2Proof.Machine

/-! ## Channels -/

/-- Channel `c`. -/
def State.ch (s : State) (c : ChannelId) : Channel :=
  s.chans.get c

/-- `s` with channel `c` changed by `f`. -/
def State.upd (s : State) (c : ChannelId) (f : Channel → Channel) : State :=
  { s with chans := s.chans.modify c f }

/-- `f` for channels 0, 1, 2 and 3, in that order (notes/assumptions/15.md). -/
def State.eachChannel (s : State) (f : ChannelId → State → State) : State :=
  f 3 (f 2 (f 1 (f 0 s)))

/-- STARTING or RUNNING: the states in which the channel latches, starts frames and has an OPEN capture (R23, R98). -/
def ChannelState.runs : ChannelState → Bool
  | .starting => true
  | .running => true
  | .off => false
  | .stopping => false
  | .faulted => false

/-- STARTING, RUNNING or STOPPING: the span of a run (R81). -/
def ChannelState.inRun : ChannelState → Bool
  | .starting => true
  | .running => true
  | .stopping => true
  | .off => false
  | .faulted => false

/-- The interface states in which the bus writer writes (R61, R125, R157). -/
def IfState.busWrites : IfState → Bool
  | .active => true
  | .quiescing => true
  | .disabled => false
  | .halted => false

/-! ## Credits and the holding queue (R150, R151, R154, R155) -/

/-- The credits free: 64 less the entries occupied and the credits reserved (R151). -/
def State.creditsFree (s : State) : Nat :=
  64 - (s.cpl.queue.length + s.cpl.reserved)

/-- Reserves `n` credits; used where `n` are free. -/
def State.reserve (s : State) (n : Nat) : State :=
  { s with cpl := { s.cpl with reserved := s.cpl.reserved + n } }

/-- Returns `n` reserved credits unused. -/
def State.giveBack (s : State) (n : Nat) : State :=
  { s with cpl := { s.cpl with reserved := s.cpl.reserved - n } }

/-- Places a record at the tail of the holding queue, using one reserved credit (R150, R151). -/
def State.place (s : State) (r : Completion) : State :=
  { s with cpl := { s.cpl with queue := s.cpl.queue ++ [r], reserved := s.cpl.reserved - 1 } }

/-- The channel counts one report it could not make (R155). -/
def State.loseEvent (s : State) (c : ChannelId) : State :=
  s.upd c fun ch => { ch with lostEvents := satAdd ch.lostEvents }

/-- A best-effort offer (R154): with a credit free the record enters the queue at once, else the channel's lost-event counter counts it. -/
def State.offer (s : State) (c : ChannelId) (r : Completion) : State :=
  if 1 ≤ s.creditsFree then (s.reserve 1).place r else s.loseEvent c

/-- A free choice, and the state with one more choice taken. -/
def State.drawn (s : State) : State :=
  { s with draws := s.draws + 1 }

/-! ## Head link (R64, R65) -/

/-- The link is UP exactly while the geometry record is present (4.2). -/
def Link.up (l : Link) : Bool :=
  l.geometry.isSome

/-- Sends on the link if it is UP; else the message is not sent and not kept (R64). -/
def Link.send (l : Link) (m : LinkMsg) : Link :=
  if l.up then { l with sent := l.sent ++ [m] } else l

/-- Sends to the head of channel `c`. -/
def State.send (s : State) (c : ChannelId) (m : LinkMsg) : State :=
  s.upd c fun ch => { ch with link := ch.link.send m }

/-! ## Captures (chapter 6) -/

/-- R98: while the channel runs, the first capture that is not DRAINING is OPEN. -/
def openFirst (caps : List Capture) : List Capture :=
  match caps with
  | [] => []
  | k :: rest =>
    match k.state with
    | .draining => k :: openFirst rest
    | .queued => { k with state := .opened } :: rest
    | .opened => k :: rest

/-- R100 on channel `c`, which opens a capture only while the channel is STARTING or RUNNING. -/
def Channel.opening (ch : Channel) : Channel :=
  if ch.state.runs then { ch with captures := openFirst ch.captures } else ch

/-- A QUEUED or OPEN capture becomes DRAINING with a close reason; a DRAINING one keeps its own (R111, R112). -/
def Capture.drain (k : Capture) (r : CloseReason) : Capture :=
  if k.state = .draining then k else { k with state := .draining, reason := some r }

/-- DRAINING with no frame in flight: to be closed (R105). -/
def Capture.drained (k : Capture) : Bool :=
  k.state == .draining && k.inFlight == 0

/-- The CAPTURE_CLOSED of a capture (R106). -/
def closedRecord (c : ChannelId) (run : RunNo) (k : Capture) : Completion :=
  .captureClosed { channel := c, run := run, tag := k.tag, pool := k.pool, reason := k.reason.getD .cancelled, delivered := k.delivered }

/-- Places the CAPTURE_CLOSED of each of `caps`, in order. -/
def State.placeClosed (s : State) (c : ChannelId) (caps : List Capture) : State :=
  match caps with
  | [] => s
  | k :: rest => State.placeClosed (s.place (closedRecord c (s.ch c).timer.run k)) c rest

/-- Closes every capture of channel `c` that `p` picks, in queue order: each CAPTURE_CLOSED enters the holding queue with the capture's close credit, and the captures leave the queue (R105, R106). -/
def State.closeCaptures (s : State) (c : ChannelId) (p : Capture → Bool) : State :=
  let caps := (s.ch c).captures
  (s.placeClosed c (caps.filter p)).upd c fun ch => { ch with captures := caps.filter fun k => !p k }

/-- R105 for a posted frame that carries `tag`: its capture has one frame in flight less, one delivered more if the frame was delivered whole, and closes if it was the last of a DRAINING capture. -/
def State.framePosted (s : State) (c : ChannelId) (tag : Tag) (whole : Bool) : State :=
  (s.upd c fun ch => { ch with captures := ch.captures.map fun k =>
    if k.tag = tag then { k with inFlight := k.inFlight - 1, delivered := if whole then satDelivered k.delivered else k.delivered } else k
  }).closeCaptures c fun k => k.tag == tag && k.drained

/-! ## Frame contexts (7.5) -/

/-- The descriptor a context holds, as buffer or as short descriptor (R121). -/
def Hold.descriptor : Hold → Option Descriptor
  | .nothing => none
  | .short d => some d
  | .buffer d => some d

/-- A delivered frame: one that holds a frame buffer (R122). -/
def Hold.isBuffer : Hold → Bool
  | .nothing => false
  | .short _ => false
  | .buffer _ => true

/-- A row of context `k` stands in the output row queue (R59). -/
def Channel.rowsRemain (ch : Channel) (k : ContextId) : Bool :=
  ch.rows.any fun r => r.ctx == k

/-- The FRAME_DONE of a frame (R126). -/
def frameDoneRecord (c : ChannelId) (f : Frame) (d : Descriptor) : Completion :=
  .frameDone { channel := c, run := f.run, seq := f.seq, tag := f.tag.getD 0, buffer := d, flags := f.flags, produced := f.produced,
               lost := f.lost }

/-- The FRAME_DROPPED of a frame: an abort replaces its drop reason by ABORTED, and a held descriptor goes back (R126, R128, R129). -/
def frameDroppedRecord (c : ChannelId) (f : Frame) : Completion :=
  .frameDropped { channel := c, run := f.run, seq := f.seq, tag := f.tag.getD 0,
                  reason := if f.flags.aborted then .aborted else f.dropReason.getD .aborted, buffer := f.hold.descriptor }

/-- Steps 4 and 5 of R125 for the earliest frame in use: its capture acts, and its context is freed. -/
def State.release (s : State) (c : ChannelId) (f : Frame) (whole : Bool) : State :=
  let s := match f.tag with
    | none => s
    | some t => s.framePosted c t whole
  s.upd c fun ch => { ch with frames := ch.frames.tail, lastFreed := some f.ctx }

/-- The close of the earliest frame in use without a header (R125 steps 3 to 5): FRAME_DROPPED if it holds a credit, nothing if it does not. -/
def State.closeUnwritten (s : State) (c : ChannelId) (f : Frame) : State :=
  let s := if f.credit then s.place (frameDroppedRecord c f) else s
  s.release c f false

/-- R129 for one frame: an aborted frame whose header write the port does not hold gives its header up for good. -/
def Frame.giveUpHeader (f : Frame) (headerHanded : Bool) : Frame :=
  if f.flags.aborted && !(f.stage == .closing && headerHanded) then { f with noHeader := true } else f

/-- R129: while the interface is DISABLED or HALTED every aborted frame of channel `c` whose header write the port does not hold gives its header up. -/
def State.giveUpHeaders (s : State) (c : ChannelId) : State :=
  if s.regs.iface.busWrites then s
  else s.upd c fun ch => { ch with frames := ch.frames.map fun f => f.giveUpHeader ch.headerWrite.isSome }

/-- The frame with the channel's lost-event counter sampled (R125 step 1). -/
def Frame.sampled (f : Frame) (lostEvents : Nat) : Frame :=
  { f with lostEvents := some lostEvents }

/-- The earliest frame in use replaced by `f`. -/
def Channel.withHead (ch : Channel) (f : Frame) : Channel :=
  { ch with frames := f :: ch.frames.tail }

/-- The frames of channel `c` go on as far as they can, the earlier first (R123, R124, R125, R128, R129): a frame whose rows are done, those included that the port held at an abort (notes/assumptions/27.md), enters CLOSING when no earlier frame is in use; it closes at once if it has no header to write or has given its header up, and else waits for its header. `fuel` bounds the frames closed. -/
def State.advanceFrames (s : State) (c : ChannelId) (fuel : Nat) : State :=
  match fuel with
  | 0 => s
  | fuel + 1 =>
    match (s.ch c).frames with
    | [] => s
    | f :: _ =>
      let closed := f.sampled (s.ch c).lostEvents
      match f.stage with
      | .reading => s
      | .draining =>
        if (s.ch c).rowsRemain f.ctx then s
        else if f.hold.isBuffer && !f.noHeader then s.upd c fun ch => ch.withHead { closed with stage := .closing }
        else (s.closeUnwritten c closed).advanceFrames c fuel
      | .closing => if f.noHeader then (s.closeUnwritten c f).advanceFrames c fuel else s

/-! ## The end of a run (chapter 5) -/

/-- The CHANNEL_EVENT of channel `c` (R94). -/
def channelEventRecord (c : ChannelId) (ch : Channel) (event : ChannelEvent) : Completion :=
  .channelEvent c ch.timer.run event ch.timer.nextSeq

/-- The channel's event is placed with its standing credit, which is then no longer held (R93). -/
def State.spendStanding (s : State) (c : ChannelId) (event : ChannelEvent) : State :=
  (s.place (channelEventRecord c (s.ch c) event)).upd c fun ch => { ch with standing := false }

/-- Latched and active sets absent, integration record empty, no frame-0 mark (R43). -/
def SettingsTable.cleared (t : SettingsTable) : SettingsTable :=
  { t with latched := none, active := none, integration := none, frame0Mark := false }

/-- The timer IDLE, with line position 0 and no pending start source (R5, R18, R19). -/
def FrameTimer.idled (t : FrameTimer) : FrameTimer :=
  { t with state := .idle, line := 0, lineTime := 0, pending := none }

/-- The best-effort STOPPED (HALT) of a channel that was FAULTED at the entry to HALTED (R95). -/
def State.offerHaltStop (s : State) (c : ChannelId) : State :=
  s.offer c (channelEventRecord c (s.ch c) (.stopped .halt))

/-- The channel state a run ends in: FAULTED by a fault, OFF by a stop (R88, R91, R95). -/
def ChannelEvent.endState : ChannelEvent → ChannelState
  | .stopped _ => .off
  | .faulted _ => .faulted

/-- The close reason of the captures that the end of a run closes (R111, R112). -/
def ChannelEvent.closeReason : ChannelEvent → CloseReason
  | .stopped _ => .stopped
  | .faulted _ => .fault

/-- R128: once every aborted context has closed, the channel goes on with its stop or fault. Its QUEUED and OPEN captures become DRAINING and close in queue order (R111, R112), its sets become absent (R43), and it makes its event with the standing credit and takes the state the run ends in. A channel that HALTED found faulted goes on to OFF (R95; notes/assumptions/8.md). -/
def State.finishEnding (s : State) (c : ChannelId) (e : Ending) : State :=
  let s := (s.upd c fun ch => { ch with captures := ch.captures.map fun k => k.drain e.event.closeReason }).closeCaptures c Capture.drained
  let s := (s.spendStanding c e.event).upd c fun ch => { ch with state := e.event.endState, table := ch.table.cleared, ending := none }
  if e.thenHalt then (s.upd c fun ch => { ch with state := .off }).offerHaltStop c else s

/-- R87: a STOPPING channel with its timer IDLE and both contexts free goes to OFF. -/
def State.finishStopping (s : State) (c : ChannelId) : State :=
  (s.spendStanding c (.stopped .stop)).upd c fun ch => { ch with state := .off, table := ch.table.cleared }

/-- What a channel does once no context of it is in use: the waiting end of its run, or the passage from STOPPING to OFF. -/
def State.checkEnd (s : State) (c : ChannelId) : State :=
  match (s.ch c).frames, (s.ch c).ending with
  | [], some e => s.finishEnding c e
  | [], none => if (s.ch c).state = .stopping ∧ (s.ch c).timer.state = .idle then s.finishStopping c else s
  | _, _ => s

/-- The channel's frames and then its run go on as far as they can. -/
def State.settle (s : State) (c : ChannelId) : State :=
  ((s.giveUpHeaders c).advanceFrames c (s.ch c).frames.length).checkEnd c

/-- What an abort does to one frame context (R128): a frame in CLOSING whose header write the port holds is left alone, every other frame is aborted and stops reading. `now` is the lost-event counter, sampled anew for a frame already in CLOSING. -/
def Frame.abort (f : Frame) (headerHanded : Bool) (now : Nat) : Frame :=
  match f.stage with
  | .closing => if headerHanded then f else { f with flags := { f.flags with aborted := true }, lostEvents := some now }
  | .reading => { f with flags := { f.flags with aborted := true }, stage := .draining }
  | .draining => { f with flags := { f.flags with aborted := true } }

/-- The abort of every context in use (R128, R63): the queued rows are removed but for one the port holds, and the combiner serves no frame. -/
def Channel.abortFrames (ch : Channel) : Channel :=
  { ch with
    frames := ch.frames.map fun f => f.abort ch.headerWrite.isSome ch.lostEvents
    rows := if ch.rowWrite.isSome then ch.rows.take 1 else []
    combiner := Combiner.empty }

/-- The end of a run at once (R88, R91, R95): timer IDLE, frames aborted, HALT sent if the link is UP (R74). What follows the closes, at once where no frame stays in use, is `finishEnding` (R128; notes/assumptions/6.md). -/
def State.abortRun (s : State) (c : ChannelId) (event : ChannelEvent) : State :=
  ((s.upd c fun ch => { ch.abortFrames with timer := ch.timer.idled, ending := some ⟨event, false⟩ }).send c .halt).settle c

/-- A run that no stop or fault is ending yet: STARTING, RUNNING or STOPPING, with no aborted frame waited for. -/
def Channel.inFreeRun (ch : Channel) : Bool :=
  ch.state.inRun && ch.ending.isNone

/-- R90, R91: a fault reported to channel `c`; it changes nothing in a channel that is OFF or FAULTED, or whose run a stop or a fault taken before is ending (R92). -/
def State.faultChannel (s : State) (c : ChannelId) (cause : FaultCause) : State :=
  if (s.ch c).inFreeRun then (s.upd c fun ch => { ch with faultCause := some cause }).abortRun c (.faulted cause) else s

/-! ## The command processor (chapter 8) -/

/-- The command ring base, high half above low (R175). -/
def Registers.cmdBase (r : Registers) : Nat :=
  r.cmdBaseHi.toNat * 4294967296 + r.cmdBaseLo.toNat

/-- R131, R134: the read of the 64 bytes of the slot the command head names, slot k being at base + 64·k. -/
def Registers.slotRead (r : Registers) : BusRead :=
  { addr := r.cmdBase + 64 * r.cmdHead, length := 64 }

/-- The fetch read as the port takes it: handed if bus mastering is enabled, else it waits (R174; notes/assumptions/26.md). -/
def State.handedRead (s : State) : Option BusRead :=
  if s.port.busMastering then some s.regs.slotRead else none

/-- R133: an IDLE processor begins a fetch when the interface is ACTIVE and the head differs from the tail. -/
def State.tryFetch (s : State) : State :=
  if s.regs.iface = .active ∧ s.proc.state = .idle ∧ s.regs.cmdHead ≠ s.regs.cmdTail then
    { s with proc := { state := .fetching, hand := none, read := s.handedRead } }
  else s

/-- The interface goes from ACTIVE or QUIESCING to DISABLED (R169); an aborted frame whose header the port does not hold gives up its header, and may close (R129). -/
def State.enterDisabled (s : State) : State :=
  ({ s with regs := { s.regs with iface := .disabled } }).eachChannel fun c s => s.settle c

/-- The record in hand, while it is EXECUTING and not yet taken, as a command. -/
def State.presented (s : State) : Option Command :=
  if s.proc.state = .executing then
    match s.proc.hand with
    | some h => if h.taken then none else some (commandOf h.bytes)
    | none => none
  else none

/-- The CMD_RESULT of a record in hand (R137, R177). -/
def cmdResultRecord (h : Hand) (code : ResultCode) (gen : Option Gen) : Completion :=
  .cmdResult { slot := h.slot, kind := byteAt h.bytes 0, target := byteAt h.bytes 1, id := halfAt h.bytes 4, code := code, gen := gen }

/-- R137: the CMD_RESULT of the record in hand is placed with its result credit, unused credits go back, and the head advances by one slot; then a QUIESCING interface goes to DISABLED (R169), and an ACTIVE one may begin the next fetch (R133). -/
def State.finishCommand (s : State) (code : ResultCode) (gen : Option Gen) : State :=
  match s.proc.hand with
  | none => s
  | some h =>
    let s := (s.place (cmdResultRecord h code gen)).giveBack (h.credits - 1)
    let s := { s with proc := Processor.reset, regs := { s.regs with cmdHead := (s.regs.cmdHead + 1) % s.regs.cmdSize.toNat } }
    if s.regs.iface = .quiescing then s.enterDisabled else s.tryFetch

/-- One credit of the record in hand passes to another holder, or is used for a record other than its CMD_RESULT (R153). -/
def State.handSpends (s : State) : State :=
  match s.proc.hand with
  | none => s
  | some h => { s with proc := { s.proc with hand := some { h with credits := h.credits - 1 } } }

/-- R128: the CMD_RESULT of a STOP with ABORT that waited for its channel's closes. -/
def State.finishWaitingStop (s : State) : State :=
  match s.proc.hand with
  | none => s
  | some h =>
    if h.taken then
      match commandOf h.bytes with
      | .stop c _ => if (s.ch c).ending.isNone then s.finishCommand .ok none else s
      | _ => s
    else s

/-- The credits a record needs before its owning block takes it (R136): for STOP, two if the channel is FAULTED at the moment of reservation. -/
def State.creditNeed (s : State) (cmd : Command) : Nat :=
  match cmd with
  | .set _ _ _ => 1
  | .start _ => 2
  | .stop c _ => if (s.ch c).state = .faulted then 2 else 1
  | .capture _ _ _ _ _ => 2
  | .cancel _ _ => 1
  | .postBuffers _ _ => 1
  | .reclaim _ => 1
  | .query _ _ => 2
  | .rejected _ => 1

/-- The processor asks for the credits it waits for (R136): a record's whole need, or one more for a STOP handed back short (R140) and for a RECLAIM step (R118). -/
def State.askCredits (s : State) : State :=
  if s.proc.state = .waitCredit then
    match s.proc.hand with
    | none => s
    | some h =>
      let want := if h.credits = 0 then s.creditNeed (commandOf h.bytes) else 1
      if want ≤ s.creditsFree then
        let s := s.reserve want
        { s with proc := { s.proc with state := .executing, hand := some { h with credits := h.credits + want } } }
      else s
  else s

/-- A record already in hand waits for more credits (R118, R140), or has them at once. -/
def State.waitCredit (s : State) : State :=
  ({ s with proc := { s.proc with state := .waitCredit } }).askCredits

/-! ## HALTED (R171) -/

/-- The fetch read the port holds for the processor, as a list. -/
def Processor.heldReads (p : Processor) : List BusRead :=
  match p.read with
  | none => []
  | some r => [r]

/-- The hand after HALTED has discarded the record in hand (R149): empty, but for a STOP with ABORT that its channel has taken, which is not discarded; its CMD_RESULT waits for the closes of R128. DESIGN CHOICE: the manual does not say what becomes of such a record at HALTED (R88, R149; notes/assumptions/41.md). -/
def Hand.keptByHalt (h : Hand) : Option Hand :=
  if h.taken then some h else none

/-- R149, R120: the processor goes to IDLE. The record in hand is discarded and its credits go back, but for a STOP with ABORT already taken (`Hand.keptByHalt`); a fetch read the port holds will complete for nobody. -/
def State.discardHand (s : State) : State :=
  let kept := s.proc.hand.bind Hand.keptByHalt
  let s := match s.proc.hand with
    | none => s
    | some h => if h.taken then s else s.giveBack h.credits
  { s with
    port := { s.port with abandonedReads := s.port.abandonedReads ++ s.proc.heldReads }
    proc := { state := .idle, hand := kept, read := none } }

/-- What HALTED does to the end of a run that is under way: one by a fault becomes a FAULTED channel's, which HALTED then stops (R95; notes/assumptions/8.md); one by a STOP with ABORT goes on as it is (notes/assumptions/41.md). -/
def Ending.halted (e : Ending) : Ending :=
  match e.event with
  | .faulted _ => { e with thenHalt := true }
  | .stopped _ => e

/-- R95: the stop of channel `c` that entry to HALTED performs. -/
def State.haltChannel (c : ChannelId) (s : State) : State :=
  match (s.ch c).ending, (s.ch c).state with
  | some e, _ => (s.upd c fun ch => { ch with ending := some e.halted }).settle c
  | none, .off => s
  | none, .starting => s.abortRun c (.stopped .halt)
  | none, .running => s.abortRun c (.stopped .halt)
  | none, .stopping => s.abortRun c (.stopped .halt)
  | none, .faulted => (s.upd c fun ch => { ch with state := .off }).offerHaltStop c

/-- R171: entry to HALTED. While it is HALTED already, a further cause changes nothing. The credits of the record in hand go back before the channels are stopped, so the best-effort STOPPED (HALT) of a FAULTED channel may take one of them, and the CMD_RESULT of a STOP that was taken follows the channels' stops. DESIGN CHOICE: R95, R149, R161 and R171 order neither (notes/assumptions/39.md, 41.md). -/
def State.enterHalted (s : State) (cause : HaltCause) : State :=
  if s.regs.iface = .halted then s
  else
    let s := { s with regs := { s.regs with iface := .halted, haltCause := cause } }
    (s.discardHand.eachChannel State.haltChannel).finishWaitingStop.announceHalt

end Sys2Proof.Machine
end

