-- ==== Sys2Proof/WellFormed.lean ====
section
/-! DEFINITION. Which commands a sender can present: the field ranges of 4.1, the 64 bytes of a command slot (0.7.4), and register writes that their row is about (R165). -/

namespace Sys2Proof

/-- The offsets at which an aligned 32-bit write is another row's: every writable register of 11.1. -/
def writableOffsets : List Nat :=
  [0x04, 0x08, 0x0C, 0x10, 0x14, 0x18, 0x1C, 0x20, 0x24, 0x28, 0x2C, 0x34]

/-- R165: a write is ignored when it is to a read-only register or an unused offset, or is not one aligned 32-bit access. DESIGN CHOICE for an unaligned or wider access, which R165 calls not supported without an effect: it is ignored as a narrower one is (notes/assumptions/40.md). -/
def writeIsIgnored (offset bytes : Nat) : Bool :=
  bytes != 4 || offset % 4 != 0 || !writableOffsets.contains offset

/-- A register access is of 1, 2 or 4 bytes. DESIGN CHOICE: the manual lists no access widths; a command of another width is not well-formed, and is ignored all the same (R165; notes/assumptions/44.md). -/
def accessWidthOk (bytes : Nat) : Bool :=
  bytes == 1 || bytes == 2 || bytes == 4

/-- A command slot is 64 bytes (0.7.4). -/
def FetchResult.wellFormed : FetchResult → Bool
  | .data bytes => bytes.length == 64
  | .error => true

/-- The check of one command's operands. -/
def Instr.wellFormed : Instr → Bool
  | .registerWriteIgnored offset bytes _ => accessWidthOk bytes && writeIsIgnored offset bytes
  | .fetchComplete _ result => result.wellFormed
  | .row _ _ index _ => index ≤ 3071
  | .frameEnd _ _ rowsSent => rowsSent ≤ 3072
  | .powerOn => true
  | .functionReset _ => true
  | .enable _ => true
  | .disable _ => true
  | .configWrite _ _ => true
  | .cmdTailWrite _ => true
  | .cplHeadWrite _ => true
  | .ifStatusWrite _ => true
  | .intControlWrite _ => true
  | .portDown => true
  | .busMasteringChange _ => true
  | .recordRejected => true
  | .set => true
  | .start => true
  | .stop => true
  | .capture => true
  | .cancel => true
  | .postBuffers => true
  | .reclaim => true
  | .query => true
  | .completionWrite _ _ => true
  | .trigger _ => true
  | .latchPoint _ => true
  | .periodEnd _ => true
  | .hello _ _ => true
  | .headStatus _ _ => true
  | .carrierLost _ => true
  | .rowWrite _ _ _ => true
  | .headerWrite _ _ _ => true
  | .carrierPresent _ => true
  | .hostPortLinkUp => true
  | .messageSignalledInterruptsChange _ => true
  | .triggerInputLow _ => true
  | .writeHandedToHostPort _ => true

end Sys2Proof
end

