-- ==== Sys2Proof/Machine/Interface.lean ====
section
/-! DEFINITION. The host's register writes (chapter 10): ENABLE, DISABLE, CONFIG_WRITE, CMD_TAIL_WRITE, CPL_HEAD_WRITE, IF_STATUS_WRITE, INT_CONTROL_WRITE, REGISTER_WRITE_IGNORED. -/

namespace Sys2Proof.Machine

/-! ## Aperture and ring addresses (R116, R131, R156, R165, R168) -/

/-- `length` bytes at `addr` lie inside the aperture (R116). -/
def Registers.inAperture (r : Registers) (addr length : Nat) : Bool :=
  r.apertureBase.toNat * 1048576 ≤ addr && addr + length ≤ (r.apertureBase.toNat + r.apertureSize.toNat) * 1048576

/-- The completion ring base, high half above low (R175). -/
def Registers.cplBase (r : Registers) : Nat :=
  r.cplBaseHi.toNat * 4294967296 + r.cplBaseLo.toNat

/-- The four enable checks (R168). -/
def Registers.enableOk (r : Registers) : Bool :=
  ringSizeOk r.cmdSize.toNat && ringSizeOk r.cplSize.toNat
    && (r.cmdBase % 64 == 0 && r.inAperture r.cmdBase (64 * r.cmdSize.toNat))
    && (r.cplBase % 64 == 0 && r.inAperture r.cplBase (32 * r.cplSize.toNat))

/-! ## ENABLE and DISABLE -/

/-- The interface enters ACTIVE, and the processor may begin a fetch (R168, R133). -/
def State.enterActive (s : State) : State :=
  ({ s with regs := { s.regs with iface := .active } }).tryFetch

/-- ENABLE (R168, R169). -/
def execEnable (_reserved : BitVec 30) (s : State) : Host.Outcome State Fault Refusal :=
  match s.regs.iface with
  | .disabled =>
    if s.regs.enableOk then .next s.enterActive else .next { s with regs := { s.regs with enableRefused := true } }
  | .quiescing => .next s.enterActive
  | .active => .next s
  | .halted => .next s

/-- DISABLE (R169): from ACTIVE to QUIESCING, or straight to DISABLED if the processor is IDLE. -/
def execDisable (_reserved : BitVec 30) (s : State) : Host.Outcome State Fault Refusal :=
  match s.regs.iface with
  | .active =>
    if s.proc.state = .idle then .next s.enterDisabled else .next { s with regs := { s.regs with iface := .quiescing } }
  | .disabled => .next s
  | .quiescing => .next s
  | .halted => .next s

/-! ## Configuration (R166) -/

/-- The command ring is configured: head and tail become 0. -/
def State.configureCmd (s : State) : State :=
  { s with regs := { s.regs with cmdHead := 0, cmdTail := 0 } }

/-- The completion ring is configured: tail and head become 0 and the phase 1; a record write the port holds is made, but changes nothing in the writer (R157). -/
def State.configureCpl (s : State) : State :=
  { s with
    regs := { s.regs with cplHead := 0 }
    cpl := { s.cpl with tail := 0, phase := true, write := none }
    port := { s.port with abandonedWrites := s.port.abandonedWrites ++
      match s.cpl.write with
      | none => []
      | some w => [(.record, w)] } }

/-- A configuration register takes the value written (R166, R175), and the rings it belongs to are configured. -/
def State.configure (s : State) (reg : ConfigReg) (value : Word) : State :=
  match reg with
  | .apertureBase => { s with regs := { s.regs with apertureBase := value } }
  | .apertureSize => { s with regs := { s.regs with apertureSize := value } }
  | .cmdBaseLo => ({ s with regs := { s.regs with cmdBaseLo := value } }).configureCmd
  | .cmdBaseHi => ({ s with regs := { s.regs with cmdBaseHi := value } }).configureCmd
  | .cplBaseLo => ({ s with regs := { s.regs with cplBaseLo := value } }).configureCpl
  | .cplBaseHi => ({ s with regs := { s.regs with cplBaseHi := value } }).configureCpl
  | .ringSizes =>
    ({ s with regs := { s.regs with cmdSize := value.extractLsb' 0 13, cplSize := value.extractLsb' 16 13 } }).configureCmd.configureCpl

/-- CONFIG_WRITE (R166). -/
def execConfigWrite (reg : ConfigReg) (value : Word) (s : State) : Host.Outcome State Fault Refusal :=
  if s.regs.iface = .disabled then .next (s.configure reg value)
  else .next { s with regs := { s.regs with configIgnored := true } }

/-! ## Index registers, flags and interrupt enable -/

/-- CMD_TAIL_WRITE (R170, R133, R175): without a valid ring size the tail is left at 0. -/
def execCmdTailWrite (value : Word) (s : State) : Host.Outcome State Fault Refusal :=
  if s.regs.iface = .halted then .next s
  else if ringSizeOk s.regs.cmdSize.toNat then
    if value.toNat < s.regs.cmdSize.toNat then .next ({ s with regs := { s.regs with cmdTail := value.toNat } }).tryFetch
    else .next (s.enterHalted .ringIndex)
  else .next { s with regs := { s.regs with cmdTail := 0 } }

/-- CPL_HEAD_WRITE (R159, R162, R175). -/
def execCplHeadWrite (value : Word) (s : State) : Host.Outcome State Fault Refusal :=
  let head := if ringSizeOk s.regs.cplSize.toNat then value.toNat % s.regs.cplSize.toNat else 0
  .next ({ s with regs := { s.regs with cplHead := head } }).arm

/-- IF_STATUS_WRITE (R167). -/
def execIfStatusWrite (value : Word) (s : State) : Host.Outcome State Fault Refusal :=
  .next { s with regs := s.regs.clearFlags value }

/-- INT_CONTROL_WRITE (R172). -/
def execIntControlWrite (value : Word) (s : State) : Host.Outcome State Fault Refusal :=
  if value.getLsbD 0 then .next ({ s with regs := { s.regs with intEnable := true } }).arm
  else .next { s with regs := { s.regs with intEnable := false } }

/-- REGISTER_WRITE_IGNORED (R165): nothing changes. A write that some other row takes is refused by name (notes/assumptions/34.md). -/
def execRegisterWriteIgnored (offset bytes : Nat) (_value : Word) (s : State) : Host.Outcome State Fault Refusal :=
  if writeIsIgnored offset bytes then .next s else .refused .writeIsTaken

end Sys2Proof.Machine
end

