-- ==== Sys2Proof/Machine/BufferCommands.lean ====
section
/-! DEFINITION. POST_BUFFERS (R115, R116, R143) and RECLAIM (R118, R119, R144). -/

namespace Sys2Proof.Machine

/-- R115 check 1: alignment, length and aperture of one descriptor. -/
def Registers.descriptorOk (r : Registers) (d : Descriptor) : Bool :=
  d.addr.toNat % 64 == 0 && d.length.toNat % 64 == 0 && 64 ≤ d.length.toNat && d.length.toNat ≤ 67108864
    && r.inAperture d.addr.toNat d.length.toNat

/-- A POST_BUFFERS taken by the allocator (R115): all of its descriptors join the pool's tail, or none. -/
def State.postCommand (s : State) (pool : PoolId) (descs : List Descriptor) : State :=
  if descs.all s.regs.descriptorOk then
    if (s.pools.get pool).length + descs.length ≤ 64 then
      ({ s with pools := s.pools.modify pool fun ds => ds ++ descs }).finishCommand .ok none
    else s.finishCommand .poolFull none
  else s.finishCommand .badBuffer none

/-- POST_BUFFERS (R115). -/
def execPostBuffers (s : State) : Host.Outcome State Fault Refusal :=
  match s.presented with
  | some (.postBuffers pool descs) => .next (s.postCommand pool descs)
  | _ => .next s

/-- Steps 3 and 4 of R118, with the step's credit reserved: the pool's oldest descriptor goes back in a BUFFER_RETURNED, or, with the pool empty, the RECLAIM ends and the step's credit goes back unused (R119). -/
def State.reclaimClaim (s : State) (pool : PoolId) : State :=
  match s.pools.get pool with
  | [] => s.finishCommand .ok none
  | d :: rest => (({ s with pools := s.pools.modify pool fun _ => rest }).place (.bufferReturned pool d)).handSpends

/-- One more credit is reserved for the record in hand. -/
def State.handReserve (s : State) : State :=
  match s.proc.hand with
  | none => s
  | some h => { s.reserve 1 with proc := { s.proc with hand := some { h with credits := h.credits + 1 } } }

/-- The number of credits reserved for the record in hand tells whether its RECLAIM step's credit is reserved. -/
def State.stepCreditHeld (s : State) : Bool :=
  match s.proc.hand with
  | none => false
  | some h => 2 ≤ h.credits

/-- One removal step of a RECLAIM (R118; notes/assumptions/3.md): the look at the pool, the step's credit or the wait for it, and the claim. -/
def State.reclaimStep (s : State) (pool : PoolId) : State :=
  if s.stepCreditHeld then s.reclaimClaim pool
  else
    match s.pools.get pool with
    | [] => s.finishCommand .ok none
    | _ :: _ => if 1 ≤ s.creditsFree then s.handReserve.reclaimClaim pool else s.waitCredit

/-- RECLAIM (R118). -/
def execReclaim (s : State) : Host.Outcome State Fault Refusal :=
  match s.presented with
  | some (.reclaim pool) => .next (s.reclaimStep pool)
  | _ => .next s

end Sys2Proof.Machine
end

