-- ==== Sys2Proof/Machine/CaptureCommands.lean ====
section
/-! DEFINITION. CAPTURE (R97 to R100, R141) and CANCEL (R107 to R110, R142). -/

namespace Sys2Proof.Machine

/-- A capture record as its acceptance makes it (R97). -/
def newCapture (pool : PoolId) (tag : Tag) (count : Nat) (guardGen : Option Gen) : Capture :=
  { tag := tag, pool := pool, count := count, remaining := count, guardGen := guardGen, delivered := 0, inFlight := 0, state := .queued,
    reason := none }

/-- The channel's queue holds a capture with tag `t`. -/
def Channel.hasTag (ch : Channel) (t : Tag) : Bool :=
  ch.captures.any fun k => k.tag == t

/-- A CAPTURE presented to channel `c` (R99): QUEUE_FULL, then DUPLICATE_TAG, else the capture joins the queue, keeps the second credit, and opens at once if the channel runs with no OPEN capture. -/
def State.captureCommand (s : State) (c : ChannelId) (k : Capture) : State :=
  if (s.ch c).captures.length < 4 then
    if (s.ch c).hasTag k.tag then s.finishCommand .duplicateTag none
    else ((s.upd c fun ch => ({ ch with captures := ch.captures ++ [k] }).opening).handSpends).finishCommand .ok none
  else s.finishCommand .queueFull none

/-- CAPTURE (R99). A channel whose aborted frames still close takes it when it has gone on with its stop or fault (notes/assumptions/7.md). -/
def execCapture (s : State) : Host.Outcome State Fault Refusal :=
  match s.presented with
  | some (.capture c pool tag count guardGen) =>
    if (s.ch c).ending.isSome then .next s else .next (s.captureCommand c (newCapture pool tag count guardGen))
  | _ => .next s

/-- What a CANCEL does to the capture it names (R107 to R109): a QUEUED or OPEN capture becomes DRAINING with CANCELLED, a DRAINING one changes COMPLETE to CANCELLED. -/
def Capture.cancel (k : Capture) : Capture :=
  match k.state with
  | .queued => k.drain .cancelled
  | .opened => k.drain .cancelled
  | .draining => if k.reason = some .complete then { k with reason := some .cancelled } else k

/-- A CANCEL presented to channel `c` (R107 to R109): a capture cancelled while QUEUED or OPEN closes at once if it has no frame in flight, and the next QUEUED capture opens. -/
def State.cancelCommand (s : State) (c : ChannelId) (t : Tag) : State :=
  match (s.ch c).captures.find? (fun k => k.tag == t) with
  | none => s.finishCommand .noSuchCapture none
  | some k =>
    let s := s.upd c fun ch => { ch with captures := ch.captures.map fun k => if k.tag = t then k.cancel else k }
    let s := if k.state = .draining then s else s.closeCaptures c fun k => k.tag == t && k.drained
    (s.upd c Channel.opening).finishCommand .ok none

/-- The end of the run under way is about to close the capture with tag `t`: it is QUEUED or OPEN while aborted frames still close (R111, R112). -/
def Channel.closesSoon (ch : Channel) (t : Tag) : Bool :=
  ch.ending.isSome && ch.captures.any fun k => k.tag == t && k.state != .draining

/-- CANCEL (R107), in any channel state. While aborted frames still close, a CANCEL of a DRAINING capture or of an unknown tag is taken (R109); one of a QUEUED or OPEN capture is taken when that capture has closed with the run, and then finds it closed (R91; notes/assumptions/7.md). -/
def execCancel (s : State) : Host.Outcome State Fault Refusal :=
  match s.presented with
  | some (.cancel c t) => if (s.ch c).closesSoon t then .next s else .next (s.cancelCommand c t)
  | _ => .next s

end Sys2Proof.Machine
end

