-- ==== Sys2Proof/Machine/Rows.lean ====
section
/-! DEFINITION. The row combiner (chapter 3): row acceptance, gaps, groups, output words, the output row queue, and the flush at the end of READING. -/

namespace Sys2Proof.Machine

/-! ## Output words (R46, R48, R51) -/

/-- The samples of the horizontal window: h_width columns from h_start on (R48). -/
def Snapshot.window (p : Snapshot) (samples : List Sample) : List Nat :=
  ((samples.drop p.hStart).take p.hWidth).map BitVec.toNat

/-- The sums of `n` successive blocks of `h` numbers. -/
def blockSums (h n : Nat) (xs : List Nat) : List Nat :=
  match n with
  | 0 => []
  | n + 1 => (xs.take h).sum :: blockSums h n (xs.drop h)

/-- What one input row adds to the column sums: per output column the sum of its h samples; nothing for an odd row of SKIP2 (R56, R47). -/
def Snapshot.rowSums (p : Snapshot) (index : Nat) (samples : List Sample) : List Nat :=
  if p.mode = .skip2 ∧ index % 2 = 1 then List.replicate p.outWidth 0 else blockSums p.mode.h p.outWidth (p.window samples)

/-- The output word of a block with this sum (R51): the sample itself in FULL, else ⌊(4·sum + ⌊N/2⌋) / N⌋. -/
def Mode.word (m : Mode) (sum : Nat) : Nat :=
  match m with
  | .full => sum
  | .mean2 => (4 * sum + m.samples / 2) / m.samples
  | .mean3 => (4 * sum + m.samples / 2) / m.samples
  | .skip2 => (4 * sum + m.samples / 2) / m.samples
  | .vbin4 => (4 * sum + m.samples / 2) / m.samples

/-! ## Finished output rows (R57, R60, R62) -/

/-- A channel with the frame of context `k` changed by `f`. -/
def Channel.onFrame (ch : Channel) (k : ContextId) (f : Frame → Frame) : Channel :=
  { ch with frames := ch.frames.map fun x => if x.ctx = k then f x else x }

/-- A valid output row lost to a full queue (R62). -/
def Frame.overflowValid (f : Frame) : Frame :=
  { f with flags := { f.flags with overflow := true }, lost := f.lost + 1 }

/-- An invalid output row that finds the queue full: it was counted lost when it was marked (R62, R57). -/
def Frame.overflowInvalid (f : Frame) : Frame :=
  { f with flags := { f.flags with overflow := true } }

/-- One more valid output row that reached its end (R57). -/
def Frame.oneProduced (f : Frame) : Frame :=
  { f with produced := f.produced + 1 }

/-- A finished output row is handed on (R60, R62): to the queue of at most eight if its frame holds a buffer, else it is discarded at once. -/
def Channel.handOn (ch : Channel) (hasBuffer : Bool) (r : OutputRow) : Channel :=
  if hasBuffer then
    if ch.rows.length < 8 then { ch with rows := ch.rows ++ [r] }
    else ch.onFrame r.ctx (if r.words.isSome then Frame.overflowValid else Frame.overflowInvalid)
  else if r.words.isSome then ch.onFrame r.ctx Frame.oneProduced
  else ch

/-- Invalid output rows `i`, `i+1`, … (`n` of them) are handed on in that order (R55). -/
def Channel.handOnInvalid (ch : Channel) (hasBuffer : Bool) (k : ContextId) (i n : Nat) : Channel :=
  match n with
  | 0 => ch
  | n + 1 => (ch.handOn hasBuffer ⟨k, i, none⟩).handOnInvalid hasBuffer k (i + 1) n

/-! ## Taking a row (R54, R55, R56) -/

/-- The combiner with an empty open group numbered `g`, for the frame of context `k` (R56). At a frame start, where R53 has no group open, `g` is 0: DESIGN CHOICE (notes/assumptions/46.md). -/
def Combiner.fresh (k : ContextId) (g width : Nat) : Combiner :=
  { serving := some k, group := g, rowsInGroup := 0, invalid := false, sums := List.replicate width 0 }

/-- R54: whether a ROW is accepted for frame `f` with `w` columns. -/
def Frame.accepts (f : Frame) (w : Nat) (seq : Seq) (index samples : Nat) : Bool :=
  f.stage == .reading && f.seq == seq && f.nextRow ≤ index && index < f.snapshot.vRows && samples == w

/-- R55: the rows from `e` to `k − 1` are missing. Each output row they belong to is marked invalid and counted lost once (the open group may have been marked before), GAP is set, every group that row `k` has passed finishes invalid, and the group of row `k` is open, invalid if one of its rows is missing. -/
def Channel.gap (ch : Channel) (f : Frame) (k : Nat) : Channel :=
  let v := f.snapshot.mode.v
  let first := f.nextRow / v
  let last := (k - 1) / v
  let marked := last + 1 - first - (if ch.combiner.invalid then 1 else 0)
  let ch := ch.onFrame f.ctx fun x => { x with flags := { x.flags with gap := true }, lost := x.lost + marked }
  let passed := k / v - first
  let ch := ch.handOnInvalid f.hold.isBuffer f.ctx first passed
  if passed = 0 then { ch with combiner := { ch.combiner with invalid := true } }
  else { ch with combiner := { Combiner.fresh f.ctx (k / v) f.snapshot.outWidth with invalid := k % v != 0 } }

/-- R56: row `k` is taken into its group; the last row of the group finishes it, valid or invalid, and the next group is opened. DESIGN CHOICE: after the last group of the frame the group output index is out_rows, one past the range 3.5 gives it (notes/assumptions/46.md). -/
def Channel.takeRow (ch : Channel) (f : Frame) (k : Nat) (samples : List Sample) : Channel :=
  let p := f.snapshot
  let sums := List.zipWith (· + ·) ch.combiner.sums (p.rowSums k samples)
  let rows := ch.combiner.rowsInGroup + 1
  let ch := ch.onFrame f.ctx fun x => { x with nextRow := k + 1 }
  if (k + 1) % p.mode.v = 0 then
    let valid := !ch.combiner.invalid && rows == p.mode.v
    let ch := ch.handOn f.hold.isBuffer ⟨f.ctx, k / p.mode.v, if valid then some (sums.map p.mode.word) else none⟩
    { ch with combiner := Combiner.fresh f.ctx (k / p.mode.v + 1) p.outWidth }
  else { ch with combiner := { ch.combiner with rowsInGroup := rows, sums := sums } }

/-- A ROW accepted with row index `k` (R55, R56). -/
def Channel.combine (ch : Channel) (f : Frame) (k : Nat) (samples : List Sample) : Channel :=
  (if f.nextRow < k then ch.gap f k else ch).takeRow f k samples

/-- The context that is READING, if there is one (3.5). -/
def Channel.reading (ch : Channel) : Option Frame :=
  ch.frames.find? fun f => f.stage == .reading

/-! ## The flush (R58) -/

/-- The output rows of `f` never finished at the end of its reading, but for an open group already counted when it was marked invalid (R58). -/
def Frame.unfinished (f : Frame) (openInvalid : Bool) : Nat :=
  f.snapshot.outRows - f.nextRow / f.snapshot.mode.v - (if openInvalid then 1 else 0)

/-- R58: the end of READING, by FRAME_END or (`missed`) at the latch point. -/
def Channel.flush (ch : Channel) (f : Frame) (missed : Bool) : Channel :=
  { ch.onFrame f.ctx fun x =>
      { x with stage := .draining
               lost := x.lost + f.unfinished ch.combiner.invalid
               flags := { x.flags with short := x.flags.short || missed || decide (f.nextRow < f.snapshot.vRows) } }
    with combiner := Combiner.empty }

end Sys2Proof.Machine
end

