-- ==== Sys2Proof/Machine/FrameStart.lean ====
section
/-! DEFINITION. The frame start (R11 to R16, R35, R36, R40, R42) and the taking of a frame by a capture (R101 to R104). -/

namespace Sys2Proof.Machine

/-! ## Taking a frame (6.3) -/

/-- The capture that is OPEN, if there is one (R101). -/
def Channel.openCapture (ch : Channel) : Option Capture :=
  ch.captures.find? fun k => k.state == .opened

/-- R101: the guard is satisfied: there is none, or the readout generation is not older than it. -/
def Capture.wants (k : Capture) (readoutGen : Gen) : Bool :=
  match k.guardGen with
  | none => true
  | some g => !genOlder readoutGen g

/-- A channel with the capture tagged `t` changed by `f`. -/
def Channel.onCapture (ch : Channel) (t : Tag) (f : Capture → Capture) : Channel :=
  { ch with captures := ch.captures.map fun k => if k.tag = t then f k else k }

/-- R104: a buffer taken for a capture with a count lowers the remaining count, and at 0 the capture becomes DRAINING with COMPLETE. -/
def Capture.bufferTaken (k : Capture) : Capture :=
  if k.count = 0 then k
  else
    let k := { k with remaining := k.remaining - 1 }
    if k.remaining = 0 then { k with state := .draining, reason := some .complete } else k

/-- R104, R117: the buffer take of a frame that holds a credit and is not settling. -/
def State.bufferTake (s : State) (c : ChannelId) (k : Capture) (f : Frame) : State × Frame :=
  match s.pools.get k.pool with
  | [] => (s, { f with dropReason := some .noBuffer })
  | d :: rest =>
    let s := { s with pools := s.pools.modify k.pool fun _ => rest }
    if d.length.toNat < f.snapshot.frameSize then (s, { f with hold := .short d, dropReason := some .bufferSmall })
    else (s.upd c fun ch => (ch.onCapture k.tag Capture.bufferTaken).opening, { f with hold := .buffer d })

/-- R101 to R104: the capture table settles whether the frame is wanted, whether it can be reported, and which buffer it receives. -/
def State.assign (s : State) (c : ChannelId) (f : Frame) : State × Frame :=
  match (s.ch c).openCapture with
  | none => (s, f)
  | some k =>
    if k.wants f.readoutGen then
      if 1 ≤ s.creditsFree then
        let s := (s.reserve 1).upd c fun ch => ch.onCapture k.tag fun k => { k with inFlight := k.inFlight + 1 }
        let f := { f with credit := true, tag := some k.tag }
        if f.settling then (s, { f with dropReason := some .settling }) else s.bufferTake c k f
      else (s.loseEvent c, f)
    else (s, f)

/-! ## Frame contexts (R14, R15) -/

/-- R14: the context that takes a frame: the free one, or, with both free, the one whose last frame was freed earlier, context 0 first after a reset. -/
def Channel.freeContext (ch : Channel) : ContextId :=
  match ch.frames with
  | f :: _ => if f.ctx = .ctx0 then .ctx1 else .ctx0
  | [] => if ch.lastFreed = some .ctx0 then .ctx1 else .ctx0

/-- The fields of a context at its frame start (R14, R35), with `seq` and `settling` of this frame and the exposure the integration record held. -/
def newFrame (ctx : ContextId) (seq : Seq) (run : RunNo) (k : GoverningSet) (exposure : Integration) (settling : Bool) : Frame :=
  { ctx := ctx, stage := .reading, seq := seq, run := run, snapshot := k.fields.snapshot, readoutGen := k.gen,
    exposure := exposure.exposure, exposureGen := exposure.gen, settling := settling, tag := none, hold := .nothing, credit := false,
    dropReason := none, nextRow := 0, produced := 0, lost := 0, flags := ⟨false, false, false, false⟩, noHeader := false,
    lostEvents := none }

/-- R14, R53: the context takes the frame, the capture table decides on it, and the combiner begins to serve it. -/
def State.takeFrame (s : State) (c : ChannelId) (f : Frame) : State :=
  let r := s.assign c f
  r.1.upd c fun ch => { ch with frames := ch.frames ++ [r.2], combiner := Combiner.fresh f.ctx 0 f.snapshot.outWidth }

/-- The frame asks for a credit (R102). -/
def State.frameAsks (s : State) (c : ChannelId) (f : Frame) : Bool :=
  match (s.ch c).openCapture with
  | none => false
  | some k => k.wants f.readoutGen

/-! ## The frame start (R11) -/

/-- R36, R42: settling against the previous active set; with none (frame 0) always. -/
def settlingAfter (prev : Option GoverningSet) (k : GoverningSet) : Bool :=
  match prev with
  | none => true
  | some p => p.fields.transitionDiffers k.fields

/-- R35 step 6, R42: GEN_APPLIED is due when the report-request flag is set and the generation is newly active. -/
def genAppliedDue (prev : Option GoverningSet) (k : GoverningSet) : Bool :=
  k.report &&
    match prev with
    | none => true
    | some p => p.gen != k.gen

/-- The previous active set of a frame start: taken to be absent at frame 0 (R42). -/
def SettingsTable.previous (t : SettingsTable) : Option GoverningSet :=
  if t.frame0Mark then none else t.active

/-- R35 steps 2 and 5: the latched set becomes active, and the integration record is reloaded from it. -/
def SettingsTable.frameStarted (t : SettingsTable) (k : GoverningSet) : SettingsTable :=
  { t with active := some k, integration := some ⟨k.fields.exposure, k.gen⟩, frame0Mark := false }

/-- R11, R12: line position 0, line and period length from the set now active, one sequence number consumed, PERIOD. -/
def FrameTimer.frameStarted (t : FrameTimer) (k : GoverningSet) : FrameTimer :=
  { t with state := .period, line := 0, lineTime := 0, periodLength := k.fields.periodLength, lineLength := k.fields.lp,
           nextSeq := t.nextSeq + 1 }

/-- R84: a STARTING channel becomes RUNNING at the start of frame 1. -/
def ChannelState.frameStarted (st : ChannelState) (seq : Seq) : ChannelState :=
  if st = .starting ∧ seq = 1 then .running else st

/-- R15, R16: a frame that finds no free context is backlogged. -/
def State.backlog (s : State) (c : ChannelId) : State :=
  s.upd c fun ch => { ch with timer := { ch.timer with backlog := satAdd ch.timer.backlog } }

/-- The GEN_APPLIED of a frame start (R40). -/
def genAppliedRecord (c : ChannelId) (run : RunNo) (k : GoverningSet) (seq : Seq) (settling : Bool) : Completion :=
  .genApplied c run k.gen seq settling

/-- A frame start of channel `c` (R11, R14, R15, R35, R42). Where a GEN_APPLIED is due and the frame asks for the one free credit, which of the two is taken first is a free choice (R154; notes/assumptions/12.md). A latched set is present in every run (R23). -/
def State.frameStart (s : State) (c : ChannelId) : State :=
  match (s.ch c).table.latched with
  | none => s
  | some k =>
    let ch := s.ch c
    let prev := ch.table.previous
    let settling := settlingAfter prev k
    let seq := ch.timer.nextSeq
    let exposure := ch.table.integration.getD ⟨k.fields.exposure, k.gen⟩
    let report := genAppliedRecord c ch.timer.run k seq settling
    let due := genAppliedDue prev k
    let s := (s.upd c fun ch =>
      { ch with state := ch.state.frameStarted seq, timer := ch.timer.frameStarted k, table := ch.table.frameStarted k }).send c .mark
    if ch.frames.length < 2 then
      let f := newFrame ch.freeContext seq ch.timer.run k exposure settling
      if due then
        if s.creditsFree = 1 ∧ s.frameAsks c f then
          if Config.offerBeforeFrameCredit s.draws then (s.drawn.offer c report).takeFrame c f
          else (s.drawn.takeFrame c f).offer c report
        else (s.offer c report).takeFrame c f
      else s.takeFrame c f
    else
      let s := s.backlog c
      if due then s.offer c report else s

end Sys2Proof.Machine
end

