-- ==== Sys2Proof/Machine/ChannelCommands.lean ====
section
/-! DEFINITION. START (R82, R83, R139), STOP (R85 to R89, R140) and QUERY (R145 to R147). -/

namespace Sys2Proof.Machine

/-! ## START -/

/-- R82: the checks of a START, in order; the code of the first that fails, or the complete set it starts. -/
def Channel.startCheck (ch : Channel) : ResultCode ⊕ GoverningSet :=
  if ch.state = .off then
    if ch.link.up ∧ ch.link.headFault = none then
      match ch.table.committed with
      | none => .inl .incomplete
      | some k =>
        match k.governing with
        | none => .inl .incomplete
        | some g => if k.fields.combinationOk ch.link.geometry then .inr g else .inl .badCombination
    else .inl .headNotReady
  else .inl .wrongState

/-- R41: the committed set becomes latched and active, its exposure is loaded, and the next frame start is frame 0. -/
def SettingsTable.started (t : SettingsTable) (k : GoverningSet) : SettingsTable :=
  { t with latched := some k, active := some k, integration := some ⟨k.fields.exposure, k.gen⟩, frame0Mark := true }

/-- R17: run number advanced, next sequence and backlog counter 0, pending start source from the set; WAITING until frame 0 starts. -/
def FrameTimer.started (t : FrameTimer) (k : GoverningSet) : FrameTimer :=
  { t with state := .waiting, line := 0, lineTime := 0, pending := some k.fields.startSource, nextSeq := 0, run := t.run + 1, backlog := 0 }

/-- R83 steps 1 to 4: what an accepted START does to the channel and its neighbours. -/
def Channel.started (ch : Channel) (k : GoverningSet) : Channel :=
  ({ ch with
      state := .starting, standing := true, faultCause := none, lostEvents := 0
      table := ch.table.started k
      timer := ch.timer.started k
      link := ({ ch.link with endMiss := 0, stray := 0 }).send (.order (k.order 0)) }).opening

/-- R83: an accepted START. With the TIMER source frame 0 starts at once; whether its GEN_APPLIED or the CMD_RESULT enters the holding queue first is a free choice (notes/assumptions/13.md). DESIGN CHOICE: in QUIESCING, with the CMD_RESULT first or without a report, the entry to DISABLED and the records it brings in other channels come before frame 0 and its GEN_APPLIED (R83, R169; notes/assumptions/47.md). -/
def State.startAccepted (s : State) (c : ChannelId) (k : GoverningSet) : State :=
  let s := (s.upd c fun ch => ch.started k).handSpends
  match k.fields.startSource with
  | .trigger => s.finishCommand .ok (some k.gen)
  | .timer =>
    if k.report then
      if Config.startResultFirst s.draws then (s.drawn.finishCommand .ok (some k.gen)).frameStart c
      else (s.drawn.frameStart c).finishCommand .ok (some k.gen)
    else (s.finishCommand .ok (some k.gen)).frameStart c

/-- A START presented to channel `c` (R82, R139): a rejected one returns its second credit with its CMD_RESULT. -/
def State.startCommand (s : State) (c : ChannelId) : State :=
  match (s.ch c).startCheck with
  | .inl code => s.finishCommand code none
  | .inr k => s.startAccepted c k

/-- START (R82). -/
def execStart (s : State) : Host.Outcome State Fault Refusal :=
  match s.presented with
  | some (.start c) => .next (s.startCommand c)
  | _ => .next s

/-! ## STOP -/

/-- The current frame's latch point, line Lf·(S+1) − 16, has been taken (R3). -/
def FrameTimer.latchTaken (t : FrameTimer) : Bool :=
  t.periodLength ≤ t.line + 16

/-- R86, R74: an ORDER has been sent for a frame that has not started. -/
def FrameTimer.orderOutstanding (t : FrameTimer) : Bool :=
  match t.state with
  | .idle => false
  | .period => t.latchTaken
  | .waiting => true

/-- R18: a STOP without ABORT withdraws the frame waiting for its trigger, and lets a running period go on. -/
def FrameTimer.stopped (t : FrameTimer) : FrameTimer :=
  match t.state with
  | .waiting => t.idled
  | .period => t
  | .idle => t

/-- R86, R111: a STOP without ABORT on a STARTING or RUNNING channel; if nothing is left to end, it goes on to OFF (R87). -/
def State.stopRun (s : State) (c : ChannelId) : State :=
  let s := if (s.ch c).timer.orderOutstanding then s.send c .halt else s
  let s := s.upd c fun ch =>
    { ch with state := .stopping, timer := ch.timer.stopped, captures := ch.captures.map fun k => k.drain .stopped }
  (s.closeCaptures c Capture.drained).settle c

/-- The STOP in hand is taken, and its CMD_RESULT waits for the closes (R128). -/
def State.handTaken (s : State) : State :=
  match s.proc.hand with
  | none => s
  | some h => { s with proc := { s.proc with hand := some { h with taken := true } } }

/-- The credits reserved for the record in hand. -/
def State.handCredits (s : State) : Nat :=
  match s.proc.hand with
  | none => 0
  | some h => h.credits

/-- R89: a STOP of a FAULTED channel, handed back short with one credit (R85, R140). -/
def State.stopFaulted (s : State) (c : ChannelId) : State :=
  if s.handCredits < 2 then s.waitCredit
  else
    ((((s.place (channelEventRecord c (s.ch c) (.stopped .cleared))).handSpends).upd c fun ch => { ch with state := .off }).finishCommand
      .ok none)

/-- R88: a STOP with ABORT of a channel in a run: it is taken, and its CMD_RESULT follows the channel event, which waits for the closes (R128). -/
def State.stopWithAbort (s : State) (c : ChannelId) : State :=
  (s.handTaken.abortRun c (.stopped .abort)).finishWaitingStop

/-- A STOP presented to channel `c` (R85, R140). -/
def State.stopCommand (s : State) (c : ChannelId) (abort : Bool) : State :=
  match (s.ch c).state with
  | .off => s.finishCommand .wrongState none
  | .faulted => s.stopFaulted c
  | .starting => if abort then s.stopWithAbort c else (s.stopRun c).finishCommand .ok none
  | .running => if abort then s.stopWithAbort c else (s.stopRun c).finishCommand .ok none
  | .stopping => if abort then s.stopWithAbort c else s.finishCommand .wrongState none

/-- STOP (R85). A channel whose aborted frames still close takes it when it has gone on with its stop or fault (notes/assumptions/7.md). -/
def execStop (s : State) : Host.Outcome State Fault Refusal :=
  match s.presented with
  | some (.stop c abort) => if (s.ch c).ending.isSome then .next s else .next (s.stopCommand c abort)
  | _ => .next s

/-! ## QUERY -/

/-- The generation of a committed set, absent where the set is (R45). -/
def committedGen (k : Option CommittedSet) : Option Gen :=
  k.map CommittedSet.gen

/-- The generation of a latched or active set, absent where the set is (R45). -/
def governingGen (k : Option GoverningSet) : Option Gen :=
  k.map GoverningSet.gen

/-- The STATUS of a channel (R146). -/
def Channel.status (ch : Channel) (c : ChannelId) (clear : Bool) : Status :=
  { channel := c, run := ch.timer.run, state := ch.state, faultCause := ch.faultCause, geometry := ch.link.geometry,
    headFault := ch.link.headFault, nextSeq := ch.timer.nextSeq, committedGen := committedGen ch.table.committed,
    latchedGen := governingGen ch.table.latched, activeGen := governingGen ch.table.active, queueLength := ch.captures.length,
    lostEvents := ch.lostEvents, backlog := ch.timer.backlog, stray := ch.link.stray, endMiss := ch.link.endMiss, clear := clear }

/-- R147: the three counters a QUERY with CLEAR clears. -/
def Channel.clearCounters (ch : Channel) : Channel :=
  { ch with lostEvents := 0, timer := { ch.timer with backlog := 0 }, link := { ch.link with stray := 0 } }

/-- A QUERY of channel `c` (R145, R147): STATUS with the values before clearing, then the clearing, then the CMD_RESULT. -/
def State.queryCommand (s : State) (c : ChannelId) (clear : Bool) : State :=
  let s := (s.place (.status ((s.ch c).status c clear))).handSpends
  let s := if clear then s.upd c Channel.clearCounters else s
  s.finishCommand .ok none

/-- QUERY (R145). A channel whose aborted frames still close takes it when it has gone on with its stop or fault (notes/assumptions/7.md). -/
def execQuery (s : State) : Host.Outcome State Fault Refusal :=
  match s.presented with
  | some (.query c clear) => if (s.ch c).ending.isSome then .next s else .next (s.queryCommand c clear)
  | _ => .next s

end Sys2Proof.Machine
end

