-- ==== Sys2Proof/Machine/HeadEvents.lean ====
section
/-! DEFINITION. What a head and its link's physical layer send (chapter 4): HELLO, HEAD_STATUS, CARRIER_LOST, CARRIER_PRESENT, ROW, FRAME_END. A message is taken only while carrier is present (R64, R69; notes/assumptions/29.md). -/

namespace Sys2Proof.Machine

/-! ## The link (R65 to R69) -/

/-- R66: the link goes DOWN: geometry absent, head fault flag clear, and a channel in a run faults with LINK_LOST. -/
def State.linkDown (s : State) (c : ChannelId) : State :=
  (s.upd c fun ch => { ch with link := { ch.link with geometry := none, headFault := none } }).faultChannel c .linkLost

/-- R67: the geometry of a HELLO whose fields are all in range. -/
def helloGeometry (m : HelloMsg) : Option Geometry :=
  if 256 ≤ m.width ∧ m.width ≤ 4096 ∧ 64 ≤ m.height ∧ m.height ≤ 3072 ∧ m.depths ≠ [] ∧ m.depths.all (fun d => d == 10 || d == 12)
      ∧ m.maxGain ≤ 255 then
    some { width := m.width, height := m.height, depth10 := m.depths.contains 10, depth12 := m.depths.contains 12, maxGain := m.maxGain,
           revision := m.revision }
  else none

/-- R67: a HELLO taken while the link is DOWN. -/
def Link.hello (l : Link) (m : HelloMsg) : Link :=
  match helloGeometry m with
  | none => l
  | some g => { l with geometry := some g, headFault := none, endMiss := 0 }

/-- HELLO (R67); on an UP link a head restart (R68). -/
def execHello (c : ChannelId) (m : HelloMsg) (s : State) : Host.Outcome State Fault Refusal :=
  if (s.ch c).link.carrier then
    let s := if (s.ch c).link.up then s.linkDown c else s
    .next (s.upd c fun ch => { ch with link := ch.link.hello m })
  else .next s

/-- CARRIER_LOST (R66). -/
def execCarrierLost (c : ChannelId) (s : State) : Host.Outcome State Fault Refusal :=
  let up := (s.ch c).link.up
  let s := s.upd c fun ch => { ch with link := { ch.link with carrier := false } }
  if up then .next (s.linkDown c) else .next s

/-- CARRIER_PRESENT (R65): the link stays DOWN and waits for a HELLO. -/
def execCarrierPresent (c : ChannelId) (s : State) : Host.Outcome State Fault Refusal :=
  .next (s.upd c fun ch => { ch with link := { ch.link with carrier := true } })

/-! ## Head faults (R70, R71) -/

/-- The head fault flag of channel `c` becomes `v`. -/
def State.setHeadFault (s : State) (c : ChannelId) (v : Option Byte) : State :=
  s.upd c fun ch => { ch with link := { ch.link with headFault := v } }

/-- HEAD_STATUS (R70, R71, R69): discarded while the link is DOWN, with a condition that is neither, and for a fault code of 0. -/
def execHeadStatus (c : ChannelId) (condition : HeadCondition) (s : State) : Host.Outcome State Fault Refusal :=
  if (s.ch c).link.carrier ∧ (s.ch c).link.up then
    match condition with
    | .ready => .next (s.setHeadFault c none)
    | .fault code => if code = 0 then .next s else .next ((s.setHeadFault c (some code)).faultChannel c (.headFault code))
    | .neither => .next s
  else .next s

/-! ## Rows and frame ends (R54, R75, R76, R79) -/

/-- R79: one more stray row. -/
def Channel.strayRow (ch : Channel) : Channel :=
  { ch with link := { ch.link with stray := satAdd ch.link.stray } }

/-- The READING frame that accepts a ROW, if there is one (R54). -/
def Channel.rowAccepted (ch : Channel) (seq : Seq) (index samples : Nat) : Option Frame :=
  match ch.link.geometry, ch.reading with
  | some g, some f => if f.accepts g.width seq index samples then some f else none
  | _, _ => none

/-- ROW (R54, R75): combined if a READING frame accepts it, else stray. -/
def execRow (c : ChannelId) (seq : Seq) (index : Nat) (samples : List Sample) (s : State) : Host.Outcome State Fault Refusal :=
  if (s.ch c).link.carrier then
    match (s.ch c).rowAccepted seq index samples.length with
    | some f => .next (s.upd c fun ch => ch.combine f index samples)
    | none => .next (s.upd c Channel.strayRow)
  else .next s

/-- The READING frame whose FRAME_END this is, on time, if there is one (R76). -/
def Channel.frameEnded (ch : Channel) (seq : Seq) (rowsSent : Nat) : Option Frame :=
  match ch.reading with
  | none => none
  | some f => if f.seq = seq ∧ rowsSent ≤ f.snapshot.vRows then some f else none

/-- FRAME_END (R76, R78): on time it ends the frame's READING and sets the end-miss counter to 0; else it is discarded. -/
def execFrameEnd (c : ChannelId) (seq : Seq) (rowsSent : Nat) (s : State) : Host.Outcome State Fault Refusal :=
  if (s.ch c).link.carrier ∧ (s.ch c).link.up then
    match (s.ch c).frameEnded seq rowsSent with
    | some f => .next ((s.upd c fun ch => { ch.flush f false with link := { ch.link with endMiss := 0 } }).settle c)
    | none => .next s
  else .next s

end Sys2Proof.Machine
end

