-- ==== Sys2Proof/Machine/HostPort.lean ====
section
/-! DEFINITION. The host port (R171, R174) and the bus writer's writes: handed to the port, and made (R50, R61, R125, R127, R157, R158). -/

namespace Sys2Proof.Machine

/-! ## The port itself -/

/-- PORT_DOWN (R171): the link, once up, has gone down. DESIGN CHOICE: bus mastering and message-signalled interrupts stay as they are, of which R174 says nothing (notes/assumptions/45.md). -/
def execPortDown (s : State) : Host.Outcome State Fault Refusal :=
  if s.port.linkUp then .next (({ s with port := { s.port with linkUp := false } }).enterHalted .portDown) else .next s

/-- HOST_PORT_LINK_UP (R174). DESIGN CHOICE: the two enables stay as they are (notes/assumptions/45.md). -/
def execHostPortLinkUp (s : State) : Host.Outcome State Fault Refusal :=
  .next { s with port := { s.port with linkUp := true } }

/-- BUS_MASTERING_CHANGE (R174): a fetch read that waited for bus mastering is handed when it is enabled. -/
def execBusMasteringChange (enabled : Bool) (s : State) : Host.Outcome State Fault Refusal :=
  .next { s with
    port := { s.port with busMastering := enabled }
    proc := if enabled ∧ s.proc.state = .fetching ∧ s.proc.read = none then { s.proc with read := some s.regs.slotRead } else s.proc }

/-- MESSAGE_SIGNALLED_INTERRUPTS_CHANGE (R174). -/
def execMessageSignalledInterruptsChange (enabled : Bool) (s : State) : Host.Outcome State Fault Refusal :=
  .next { s with port := { s.port with msiEnabled := enabled } }

/-! ## Handing a write (R61, R125, R157, R174) -/

/-- The bus writer hands writes while the interface is ACTIVE or QUIESCING and bus mastering is enabled. -/
def State.mayHand (s : State) : Bool :=
  s.regs.iface.busWrites && s.port.busMastering

/-- The frame in use in context `k`. -/
def Channel.frameOf (ch : Channel) (k : ContextId) : Option Frame :=
  ch.frames.find? fun f => f.ctx == k

/-- The write of output row `r` of frame `f`: the whole pitch at offset 64 + i·pitch of the frame's buffer (R50). -/
def rowBusWrite (f : Frame) (r : OutputRow) (d : Descriptor) : BusWrite :=
  { addr := d.addr.toNat + 64 + r.index * f.snapshot.pitch, bytes := r.bytes f.snapshot.pitch }

/-- The write of the oldest queued row, where a row is queued for a frame with a buffer. -/
def Channel.oldestRowWrite (ch : Channel) : Option BusWrite :=
  match ch.rows with
  | [] => none
  | r :: _ =>
    match ch.frameOf r.ctx with
    | none => none
    | some f =>
      match f.hold with
      | .buffer d => some (rowBusWrite f r d)
      | .nothing => none
      | .short _ => none

/-- The bus writer hands the oldest row of channel `c`, if it may and no row write of the channel is out. DESIGN CHOICE: R61 does not say whether a second row of a channel may be handed before the first is made; here it is not (notes/assumptions/42.md). -/
def State.handRow (s : State) (c : ChannelId) : State :=
  if s.mayHand && (s.ch c).rowWrite.isNone then s.upd c fun ch => { ch with rowWrite := ch.oldestRowWrite } else s

/-- The header write of the earliest frame, where it is CLOSING with a buffer (R125 step 2, R127). -/
def Channel.closingHeaderWrite (ch : Channel) (c : ChannelId) : Option BusWrite :=
  match ch.frames with
  | [] => none
  | f :: _ =>
    match f.stage, f.hold with
    | .closing, .buffer d => some { addr := d.addr.toNat, bytes := headerBytes c f d.id }
    | _, _ => none

/-- The bus writer hands the header of the frame of channel `c` in CLOSING, if it may and it is not handed yet. -/
def State.handHeader (s : State) (c : ChannelId) : State :=
  if s.mayHand && (s.ch c).headerWrite.isNone then s.upd c fun ch => { ch with headerWrite := ch.closingHeaderWrite c } else s

/-- The completion ring is full: (tail + 1) mod size equals the head (R156). -/
def State.ringFull (s : State) : Bool :=
  (s.cpl.tail + 1) % s.regs.cplSize.toNat == s.regs.cplHead

/-- The write of the oldest record at the slot the completion tail names, with the current phase (R157, R158). -/
def State.oldestRecordWrite (s : State) : Option BusWrite :=
  match s.cpl.queue with
  | [] => none
  | r :: _ => some { addr := s.regs.cplBase + 32 * s.cpl.tail, bytes := r.bytes s.cpl.phase }

/-- The completion writer hands its oldest record, under the three conditions of R157, one at a time. -/
def State.handRecord (s : State) : State :=
  if s.mayHand && !s.ringFull && s.cpl.write.isNone then { s with cpl := { s.cpl with write := s.oldestRecordWrite } } else s

/-- WRITE_HANDED_TO_HOST_PORT (R157, R61, R125). -/
def execWriteHandedToHostPort (claim : WriteClaim) (s : State) : Host.Outcome State Fault Refusal :=
  match claim with
  | .row c => .next (s.handRow c)
  | .header c => .next (s.handHeader c)
  | .record => .next s.handRecord

/-! ## A write is made -/

/-- The bytes of a write made reach host memory; of a write the port reports an error for, each byte does or does not (R174; notes/assumptions/14.md). -/
def State.land (s : State) (w : BusWrite) (error : Bool) : State :=
  if error then { s.drawn with mem := Memory.writeErrored s.draws 0 s.mem w.addr w.bytes }
  else { s with mem := s.mem.writeBytes w.addr w.bytes }

/-- The first abandoned write of a kind. -/
def Port.abandoned (p : Port) (k : WriteClaim) : Option (WriteClaim × BusWrite) :=
  p.abandonedWrites.find? fun x => x.1 == k

/-- An abandoned write is made at the port: it reaches host memory and changes nothing else (R157, R173). -/
def State.landAbandoned (s : State) (k : WriteClaim) (error : Bool) : State :=
  match s.port.abandoned k with
  | none => s
  | some x => ({ s with port := { s.port with abandonedWrites := s.port.abandonedWrites.erase x } }).land x.2 error

/-- The oldest row of a channel leaves its queue written; a valid one counts as produced (R57, R61). -/
def Channel.rowWritten (ch : Channel) : Channel :=
  match ch.rows with
  | [] => { ch with rowWrite := none }
  | r :: rest =>
    let ch := { ch with rows := rest, rowWrite := none }
    if r.words.isSome then ch.onFrame r.ctx Frame.oneProduced else ch

/-- A write of an output row of channel `c` is made (R61): the row leaves the queue, and its frame may go on. -/
def State.rowMade (s : State) (c : ChannelId) (w : BusWrite) (error : Bool) : State :=
  (((s.land w error).upd c Channel.rowWritten).settle c).finishWaitingStop

/-- ROW_WRITE (R61). A row not yet handed is handed and written in one step (notes/assumptions/4.md). -/
def execRowWrite (c : ChannelId) (issue : Issue) (error : Bool) (s : State) : Host.Outcome State Fault Refusal :=
  match issue with
  | .abandoned => .next (s.landAbandoned (.row c) error)
  | .current =>
    let t := s.handRow c
    match (t.ch c).rowWrite with
    | none => .next s
    | some w => .next (t.rowMade c w error)

/-- The header of the frame in CLOSING is written (R125 steps 3 to 5): FRAME_DONE is placed with the frame's credit, its capture acts, and its context is freed. -/
def State.headerMade (s : State) (c : ChannelId) (f : Frame) (d : Descriptor) (w : BusWrite) (error : Bool) : State :=
  let s := (s.land w error).upd c fun ch => { ch with headerWrite := none }
  ((((s.place (frameDoneRecord c f d)).release c f (!f.flags.aborted))).settle c).finishWaitingStop

/-- HEADER_WRITE (R125). A header not yet handed is handed and written in one step (notes/assumptions/4.md). -/
def execHeaderWrite (c : ChannelId) (issue : Issue) (error : Bool) (s : State) : Host.Outcome State Fault Refusal :=
  match issue with
  | .abandoned => .next (s.landAbandoned (.header c) error)
  | .current =>
    let t := s.handHeader c
    match (t.ch c).headerWrite, (t.ch c).frames with
    | some w, f :: _ =>
      match f.hold with
      | .buffer d => .next (t.headerMade c f d w error)
      | .nothing => .next s
      | .short _ => .next s
    | _, _ => .next s

/-- The completion tail advances by one, and the phase changes when it wraps (R157, R158). -/
def CompletionWriter.recordWritten (k : CompletionWriter) (size : Nat) : CompletionWriter :=
  let tail := (k.tail + 1) % size
  { k with queue := k.queue.tail, tail := tail, phase := if tail = 0 then !k.phase else k.phase, write := none }

/-- A completion record write is made (R157, R162, R136): the record leaves the queue, its entry is freed, the message may be sent, and a waiting processor asks again. DESIGN CHOICE: it asks in the same step, before any frame start or offer, which R151 and R152 leave open (notes/assumptions/43.md). -/
def State.recordMade (s : State) (w : BusWrite) (error : Bool) : State :=
  let s := s.land w error
  ({ s with cpl := s.cpl.recordWritten s.regs.cplSize.toNat }).announce.askCredits

/-- COMPLETION_WRITE (R157). A record not yet handed is handed and written in one step (notes/assumptions/4.md). -/
def execCompletionWrite (issue : Issue) (error : Bool) (s : State) : Host.Outcome State Fault Refusal :=
  match issue with
  | .abandoned => .next (s.landAbandoned .record error)
  | .current =>
    let t := s.handRecord
    match t.cpl.write with
    | none => .next s
    | some w => .next (t.recordMade w error)

end Sys2Proof.Machine
end

