-- ==== Sys2Proof/Machine/Processor.lean ====
section
/-! DEFINITION. FETCH_COMPLETE (R134, R135, R136) and RECORD_REJECTED (R135). -/

namespace Sys2Proof.Machine

/-- R134, R136: the bytes read are the record in hand, and its credits are reserved if they are free. -/
def State.recordArrives (s : State) (bytes : List Byte) : State :=
  ({ s with proc :=
    { state := .waitCredit, hand := some ⟨s.regs.cmdHead, bytes, 0, false⟩, read := none } }).askCredits

/-- FETCH_COMPLETE (R134) of the read the port holds for the processor, or of the oldest abandoned one, whose data are discarded (R173, R149). -/
def execFetchComplete (issue : Issue) (result : FetchResult) (s : State) : Host.Outcome State Fault Refusal :=
  match issue with
  | .abandoned => .next { s with port := { s.port with abandonedReads := s.port.abandonedReads.tail } }
  | .current =>
    match s.proc.read, result with
    | none, _ => .next s
    | some _, .data bytes => .next (s.recordArrives bytes)
    | some _, .error => .next (({ s with proc := Processor.reset }).enterHalted .fetchError)

/-- RECORD_REJECTED (R135): the CMD_RESULT of a record that fails the record checks. -/
def execRecordRejected (s : State) : Host.Outcome State Fault Refusal :=
  match s.presented with
  | some (.rejected code) => .next (s.finishCommand code none)
  | _ => .next s

end Sys2Proof.Machine
end

