-- ==== Sys2Proof/Machine/Resets.lean ====
section
/-! DEFINITION. POWER_ON and FUNCTION_RESET (R173, R20, R44, R80, R96, R113, R130, R149, R164, R165). -/

namespace Sys2Proof.Machine

/-- A write the port holds for claim `k`, as an abandoned write (R157, R173). -/
def abandonedOf (k : WriteClaim) (w : Option BusWrite) : List (WriteClaim × BusWrite) :=
  match w with
  | none => []
  | some w => [(k, w)]

/-- The row and header writes the port holds for channel `c`. -/
def State.heldWrites (s : State) (c : ChannelId) : List (WriteClaim × BusWrite) :=
  abandonedOf (.row c) (s.ch c).rowWrite ++ abandonedOf (.header c) (s.ch c).headerWrite

/-- The port after a reset: what it holds completes there, for no block (R173). -/
def State.resetPort (s : State) : Port :=
  { s.port with
    abandonedWrites := s.port.abandonedWrites ++ s.heldWrites 0 ++ s.heldWrites 1 ++ s.heldWrites 2 ++ s.heldWrites 3
      ++ abandonedOf .record s.cpl.write
    abandonedReads := s.port.abandonedReads ++ s.proc.heldReads }

/-- A channel after a reset that leaves its link as `l`: every block at its reset values, the trigger filter beginning from the level its input holds (R20). -/
def Channel.resetWith (ch : Channel) (l : Link) : Channel :=
  { Channel.reset with link := l, timer := { FrameTimer.reset with inputHigh := ch.timer.inputHigh } }

/-- Every block at its reset values, the links as `f` leaves them, the port as `p`. -/
def State.resetBlocks (s : State) (f : Link → Link) (p : Port) : State :=
  { s with regs := Registers.reset, proc := Processor.reset, cpl := CompletionWriter.reset, pools := Four.same [],
           chans := s.chans.map fun ch => ch.resetWith (f ch.link), port := p }

/-- R80: a function reset keeps link state, geometry and head fault flag, clears both counters, and sends HALT if the link is UP. -/
def Link.functionReset (l : Link) : Link :=
  ({ l with endMiss := 0, stray := 0 }).send .halt

/-- R80: power-on sets the link DOWN with both counters 0 and sends nothing; the carrier is the line's own level. -/
def Link.powerOn (l : Link) : Link :=
  { Link.reset with carrier := l.carrier, sent := l.sent }

/-- POWER_ON (R173, R80): all that a function reset does, with every link DOWN and no HALT; the host port comes up afresh (notes/assumptions/23.md, 28.md). -/
def execPowerOn (s : State) : Host.Outcome State Fault Refusal :=
  .next (s.resetBlocks Link.powerOn { s.resetPort with linkUp := false, busMastering := false, msiEnabled := false })

/-- FUNCTION_RESET (R173), whatever took it. -/
def execFunctionReset (_cause : ResetCause) (s : State) : Host.Outcome State Fault Refusal :=
  .next (s.resetBlocks Link.functionReset s.resetPort)

end Sys2Proof.Machine
end

