-- ==== Sys2Proof/Machine/SettingsCommands.lean ====
section
/-! DEFINITION. SET (R24 to R27, R138). -/

namespace Sys2Proof.Machine

/-- Step 1 of R24: the trial copy, the committed set with REVERT (every field absent where there is none), else the working set. -/
def SettingsTable.trial (t : SettingsTable) (revert : Bool) : Settings :=
  if revert then
    match t.committed with
    | none => Settings.absent
    | some k => k.fields
  else t.working

/-- R26: the commit of a trial copy that satisfies every applicable rule. -/
def SettingsTable.commit (t : SettingsTable) (trial : Settings) (report : Bool) : SettingsTable :=
  { t with working := trial, genCounter := t.genCounter + 1, committed := some ⟨trial, t.genCounter + 1, report⟩ }

/-- A SET taken by the settings table of channel `c`, and its CMD_RESULT (R138). -/
def State.setCommand (s : State) (c : ChannelId) (flags : SetFlags) (edits : RawEdits) : State :=
  let ch := s.ch c
  let trial := (ch.table.trial flags.revert).edited edits
  if edits.inRange then
    if flags.hold then
      (s.upd c fun ch => { ch with table := { ch.table with working := trial } }).finishCommand .ok none
    else if trial.combinationOk ch.link.geometry then
      (s.upd c fun ch => { ch with table := ch.table.commit trial flags.report }).finishCommand .ok (some (ch.table.genCounter + 1))
    else s.finishCommand .badCombination none
  else s.finishCommand .badField none

/-- SET (R24), taken in every channel state. -/
def execSet (s : State) : Host.Outcome State Fault Refusal :=
  match s.presented with
  | some (.set c flags edits) => .next (s.setCommand c flags edits)
  | _ => .next s

end Sys2Proof.Machine
end

