-- ==== Sys2Proof/Machine/TimerEvents.lean ====
section
/-! DEFINITION. The frame timer's events (chapter 1): TRIGGER, TRIGGER_INPUT_LOW, LATCH_POINT, PERIOD_END, and the passing of time. -/

namespace Sys2Proof.Machine

/-! ## Triggers (R6 to R10) -/

/-- The TRIGGER_MISSED of a channel: it names the frame whose period is running (R9). -/
def triggerMissedRecord (c : ChannelId) (ch : Channel) : Completion :=
  .triggerMissed c ch.timer.run (ch.timer.nextSeq - 1)

/-- A trigger taken by the frame timer (R8 to R10). -/
def State.triggerTaken (s : State) (c : ChannelId) : State :=
  let ch := s.ch c
  if ch.state.runs then
    match ch.timer.state with
    | .waiting => s.frameStart c
    | .period => if ch.timer.pending = some .trigger then s.offer c (triggerMissedRecord c ch) else s
    | .idle => s
  else s

/-- TRIGGER (R6, R7): a rising edge at the filter's output, where the output was low; the output is then high. -/
def execTrigger (c : ChannelId) (s : State) : Host.Outcome State Fault Refusal :=
  if (s.ch c).timer.inputHigh then .next s
  else .next ((s.upd c fun ch => { ch with timer := { ch.timer with inputHigh := true } }).triggerTaken c)

/-- TRIGGER_INPUT_LOW (R6, R20): the filter's output is low, and the next rising edge is a trigger. -/
def execTriggerInputLow (c : ChannelId) (s : State) : Host.Outcome State Fault Refusal :=
  .next (s.upd c fun ch => { ch with timer := { ch.timer with inputHigh := false } })

/-! ## The latch point (R3, R4, R32, R73, R77) -/

/-- R32, R4, R73: with the channel STARTING or RUNNING, the committed set is latched, its start source becomes the pending one, and the ORDER for the next frame is sent. The committed set of a run is complete (R41). -/
def State.latch (s : State) (c : ChannelId) : State :=
  if (s.ch c).state.runs then
    match (s.ch c).table.committed with
    | none => s
    | some k =>
      match k.governing with
      | none => s
      | some g =>
        (s.upd c fun ch =>
          { ch with table := { ch.table with latched := some g }, timer := { ch.timer with pending := some g.fields.startSource } }).send c
          (.order (g.order (s.ch c).timer.nextSeq))
  else s

/-- R77, R78: the missed frame end of the READING frame `f`: its reading ends with SHORT, its frame goes on, and the end-miss counter advances to at most 2. -/
def State.frameEndMissed (s : State) (c : ChannelId) (f : Frame) : State :=
  (s.upd c fun ch =>
    { ch.flush f true with link := { ch.link with endMiss := min (ch.link.endMiss + 1) 2 } }).settle c

/-- R77: the counter reached 2. The latch and the ORDER are taken before the fault, or not at all, by a free choice (notes/assumptions/11.md). -/
def State.headSilent (s : State) (c : ChannelId) : State :=
  if Config.latchBeforeSilentFault s.draws then (s.drawn.latch c).faultChannel c .headSilent else s.drawn.faultChannel c .headSilent

/-- The line position at the latch point (R3). -/
def FrameTimer.atLatch (t : FrameTimer) : FrameTimer :=
  { t with line := t.periodLength - 16, lineTime := 0 }

/-- A latch point taken (R3): the settings table and the head link controller, then the READING context if there is one. -/
def State.latchPoint (s : State) (c : ChannelId) : State :=
  let s := s.upd c fun ch => { ch with timer := ch.timer.atLatch }
  match (s.ch c).reading with
  | none => s.latch c
  | some f =>
    let s := s.frameEndMissed c f
    if (s.ch c).link.endMiss = 2 then s.headSilent c else s.latch c

/-- LATCH_POINT (R3): taken once in every frame period. -/
def execLatchPoint (c : ChannelId) (s : State) : Host.Outcome State Fault Refusal :=
  if (s.ch c).timer.state = .period ∧ (s.ch c).timer.latchTaken = false then .next (s.latchPoint c) else .next s

/-! ## The period end (R5) -/

/-- R5: the next frame starts, or the timer waits for its trigger, or the run's last frame has ended. -/
def State.periodEnd (s : State) (c : ChannelId) : State :=
  let ch := s.ch c
  if ch.state.runs then
    match ch.timer.pending with
    | some .timer => s.frameStart c
    | some .trigger => s.upd c fun ch => { ch with timer := { ch.timer with state := .waiting, line := 0, lineTime := 0 } }
    | none => s
  else (s.upd c fun ch => { ch with timer := ch.timer.idled }).settle c

/-- PERIOD_END (R5): a running period runs out, its latch point taken. -/
def execPeriodEnd (c : ChannelId) (s : State) : Host.Outcome State Fault Refusal :=
  if (s.ch c).timer.state = .period ∧ (s.ch c).timer.latchTaken = true then .next (s.periodEnd c) else .next s

/-! ## Time (R1, R2) -/

/-- The last line before the timer's next event: the line before the latch point, or the last line of the period. -/
def FrameTimer.lastLine (t : FrameTimer) : Nat :=
  if t.latchTaken then t.periodLength - 1 else t.periodLength - 17

/-- 10 ns pass for a frame timer: in PERIOD the line position advances by one at the end of each line (R1). The timer does not pass its latch point or its period end by itself: those are commands (notes/assumptions/18.md). -/
def FrameTimer.tick (t : FrameTimer) : FrameTimer :=
  match t.state with
  | .idle => t
  | .waiting => t
  | .period =>
    if t.lineTime + 1 < t.lineLength then { t with lineTime := t.lineTime + 1 }
    else if t.line < t.lastLine then { t with line := t.line + 1, lineTime := 0 }
    else t

/-- 10 ns pass with no command waiting. -/
def State.tick (s : State) : State :=
  { s with chans := s.chans.map fun ch => { ch with timer := ch.timer.tick } }

end Sys2Proof.Machine
end

