-- ==== Sys2Proof/Machine/Dispatch.lean ====
section
/-! DEFINITION. The meaning of every command: one arm per row of the table. -/

namespace Sys2Proof.Machine

def exec (i : Instr) (s : State) : Host.Outcome State Fault Refusal :=
  match i with
  | .powerOn => Sys2Proof.Machine.execPowerOn s
  | .functionReset cause => Sys2Proof.Machine.execFunctionReset cause s
  | .enable reserved => Sys2Proof.Machine.execEnable reserved s
  | .disable reserved => Sys2Proof.Machine.execDisable reserved s
  | .configWrite reg value => Sys2Proof.Machine.execConfigWrite reg value s
  | .cmdTailWrite value => Sys2Proof.Machine.execCmdTailWrite value s
  | .cplHeadWrite value => Sys2Proof.Machine.execCplHeadWrite value s
  | .ifStatusWrite value => Sys2Proof.Machine.execIfStatusWrite value s
  | .intControlWrite value => Sys2Proof.Machine.execIntControlWrite value s
  | .registerWriteIgnored offset bytes value => Sys2Proof.Machine.execRegisterWriteIgnored offset bytes value s
  | .portDown => Sys2Proof.Machine.execPortDown s
  | .busMasteringChange enabled => Sys2Proof.Machine.execBusMasteringChange enabled s
  | .fetchComplete issue result => Sys2Proof.Machine.execFetchComplete issue result s
  | .recordRejected => Sys2Proof.Machine.execRecordRejected s
  | .set => Sys2Proof.Machine.execSet s
  | .start => Sys2Proof.Machine.execStart s
  | .stop => Sys2Proof.Machine.execStop s
  | .capture => Sys2Proof.Machine.execCapture s
  | .cancel => Sys2Proof.Machine.execCancel s
  | .postBuffers => Sys2Proof.Machine.execPostBuffers s
  | .reclaim => Sys2Proof.Machine.execReclaim s
  | .query => Sys2Proof.Machine.execQuery s
  | .completionWrite issue error => Sys2Proof.Machine.execCompletionWrite issue error s
  | .trigger c => Sys2Proof.Machine.execTrigger c s
  | .latchPoint c => Sys2Proof.Machine.execLatchPoint c s
  | .periodEnd c => Sys2Proof.Machine.execPeriodEnd c s
  | .hello c msg => Sys2Proof.Machine.execHello c msg s
  | .headStatus c condition => Sys2Proof.Machine.execHeadStatus c condition s
  | .carrierLost c => Sys2Proof.Machine.execCarrierLost c s
  | .row c seq index samples => Sys2Proof.Machine.execRow c seq index samples s
  | .frameEnd c seq rowsSent => Sys2Proof.Machine.execFrameEnd c seq rowsSent s
  | .rowWrite c issue error => Sys2Proof.Machine.execRowWrite c issue error s
  | .headerWrite c issue error => Sys2Proof.Machine.execHeaderWrite c issue error s
  | .carrierPresent c => Sys2Proof.Machine.execCarrierPresent c s
  | .hostPortLinkUp => Sys2Proof.Machine.execHostPortLinkUp s
  | .messageSignalledInterruptsChange enabled => Sys2Proof.Machine.execMessageSignalledInterruptsChange enabled s
  | .triggerInputLow c => Sys2Proof.Machine.execTriggerInputLow c s
  | .writeHandedToHostPort claim => Sys2Proof.Machine.execWriteHandedToHostPort claim s

end Sys2Proof.Machine
end

