-- ==== Sys2Proof/Machine/Step.lean ====
section
/-! DEFINITION. One step: the command at the front of the queue, or, with none waiting, 10 ns. -/

namespace Sys2Proof.Machine

/-- The state with `rest` waiting. -/
def State.withPending (s : State) (rest : List Instr) : State :=
  { s with pending := rest }

/-- One step of the block: the command at the front of the queue is run on the state with the queue's rest; with no command waiting, 10 ns pass (notes/assumptions/18.md). -/
def step (s : State) : Host.Outcome State Fault Refusal :=
  match s.pending with
  | [] => .next s.tick
  | c :: rest => exec c (s.withPending rest)

/-- `s` with the command that a table word spells put at the front of its queue; `s` itself where it spells none. -/
def State.withFetchWord (s : State) (nbits w : Nat) : State :=
  match decodeTableWord nbits w with
  | none => s
  | some c => s.withPending (c :: s.pending)

end Sys2Proof.Machine
end

