-- ==== Sys2Proof/Safety.lean ====
section
/-! DEFINITION. What the statements speak of: the answer to a record in hand, the state after a reset, and sound states: the bounds the manual gives its queues and counters, the agreement of a channel's parts with its state, the credit ledger, and the row accounts of the frames in use. -/

namespace Sys2Proof.Machine

/-! ## The answer to a record in hand (R137) -/

/-- `t` answers the record in hand of `s` with `code` and `gen`: the records `before` and then the CMD_RESULT, its fields copied from the record, join the holding queue; the head advances by one slot; no record is in hand any more. The processor is then IDLE, or FETCHING where the interface is ACTIVE and the ring still holds a record (R133). A QUIESCING interface is then DISABLED with the processor IDLE (R169), and its entry may add records behind the CMD_RESULT (R129): those that ENABLE = 0 would bring (Obligations.DisableQuiescesOrDisables). -/
abbrev State.answered (s t : State) (code : ResultCode) (gen : Option Gen) (before : List Completion) : Prop :=
  ∃ h ∈ s.proc.hand, ∃ after,
    t.cpl.queue = s.cpl.queue ++ before ++ Completion.cmdResult
        { slot := h.slot, kind := byteAt h.bytes 0, target := byteAt h.bytes 1, id := halfAt h.bytes 4, code := code, gen := gen } :: after
      ∧ t.regs.cmdHead = (s.regs.cmdHead + 1) % s.regs.cmdSize.toNat
      ∧ t.proc.hand = none
      ∧ (s.regs.iface = .quiescing → t.regs.iface = .disabled ∧ t.proc.state = .idle)
      ∧ (s.regs.iface ≠ .quiescing → after = [] ∧ t.regs.iface = s.regs.iface
          ∧ t.proc.state = if s.regs.iface = .active ∧ t.regs.cmdHead ≠ s.regs.cmdTail then .fetching else .idle)

/-- What taking a command record leaves as it was, whatever the record: every register but the interface state and the command head, host memory, the waiting commands, the completion writer's tail, phase, armed flag and handed write, and the port. -/
abbrev State.answerFrame (s t : State) : Prop :=
  t.regs = { s.regs with iface := t.regs.iface, cmdHead := t.regs.cmdHead } ∧ t.mem = s.mem ∧ t.pending = s.pending
    ∧ t.cpl = { s.cpl with queue := t.cpl.queue, reserved := t.cpl.reserved } ∧ t.port = s.port

/-- Outside QUIESCING, the pools and every channel but `c` are left as they were too. -/
abbrev State.othersKept (s t : State) (c : ChannelId) : Prop :=
  s.regs.iface ≠ .quiescing → t.pools = s.pools ∧ ∀ d, d ≠ c → t.ch d = s.ch d

/-- Outside QUIESCING, the pools and every channel are left as they were. -/
abbrev State.blocksKept (s t : State) : Prop :=
  s.regs.iface ≠ .quiescing → t.pools = s.pools ∧ t.chans = s.chans

/-- R50, R157, R174: write `w` is made. Without an error every byte of it stands in host memory; with one each byte of it does or does not. Every other byte of host memory is as it was. -/
abbrev State.landed (s t : State) (w : BusWrite) (error : Bool) : Prop :=
  ∀ a : Nat,
    (error = false → w.addr ≤ a → a < w.addr + w.bytes.length → t.mem.read a = w.bytes[a - w.addr]?)
      ∧ (error = true → w.addr ≤ a → a < w.addr + w.bytes.length → t.mem.read a = w.bytes[a - w.addr]? ∨ t.mem.read a = s.mem.read a)
      ∧ (a < w.addr ∨ w.addr + w.bytes.length ≤ a → t.mem.read a = s.mem.read a)

/-! ## When a frame starts (R5, R8) -/

/-- Command `i` starts a frame of channel `c`: with the channel STARTING or RUNNING, a trigger taken in WAITING, or a period end with the pending start source TIMER. -/
abbrev State.startsFrame (s : State) (c : ChannelId) (i : Instr) : Prop :=
  (s.ch c).state.runs = true
    ∧ (i = .trigger c ∧ (s.ch c).timer.inputHigh = false ∧ (s.ch c).timer.state = .waiting
      ∨ i = .periodEnd c ∧ (s.ch c).timer.state = .period ∧ (s.ch c).timer.periodLength ≤ (s.ch c).timer.line + 16
          ∧ (s.ch c).timer.pending = some .timer)

/-! ## The state after a reset (R173) -/

/-- R20, R44, R53, R96, R113, R130: every block of a channel but its head link at its reset value. -/
abbrev Channel.atReset (ch : Channel) : Prop :=
  ch.state = .off ∧ ch.faultCause = none ∧ ch.standing = false ∧ ch.lostEvents = 0 ∧ ch.ending = none
    ∧ ch.timer.state = .idle ∧ ch.timer.line = 0 ∧ ch.timer.pending = none ∧ ch.timer.nextSeq = 0 ∧ ch.timer.run = 0 ∧ ch.timer.backlog = 0
    ∧ ch.table = { working := Settings.absent, committed := none, latched := none, active := none, integration := none, genCounter := 0,
                   frame0Mark := false }
    ∧ ch.frames = [] ∧ ch.lastFreed = none ∧ ch.combiner.serving = none ∧ ch.rows = [] ∧ ch.rowWrite = none ∧ ch.headerWrite = none
    ∧ ch.captures = []

/-- R149, R164, R165, R173: every register but IDENT reads 0 (so the interface is DISABLED with halt cause NONE), the processor is IDLE with no record, the holding queue is empty with no credit reserved and phase 1, every pool is empty, and every channel is at reset. -/
abbrev State.atReset (s : State) : Prop :=
  (∀ offset, offset ≠ 0 → s.readRegister offset = 0) ∧ s.proc.state = .idle ∧ s.proc.hand = none
    ∧ s.cpl = { queue := [], reserved := 0, tail := 0, phase := true, armed := false, write := none }
    ∧ (∀ p : PoolId, s.pools.get p = []) ∧ ∀ c : ChannelId, (s.ch c).atReset

/-! ## Bounds -/

/-- The bounds of one channel: two contexts (R14), eight queued rows (3.8), four captures (R98), an end-miss counter of at most 2 (R78), and counters that saturate at 65535 (R16, R79, R155). -/
abbrev Channel.bounded (ch : Channel) : Prop :=
  ch.frames.length ≤ 2 ∧ ch.rows.length ≤ 8 ∧ ch.captures.length ≤ 4 ∧ ch.link.endMiss ≤ 2 ∧ ch.lostEvents ≤ 65535
    ∧ ch.timer.backlog ≤ 65535 ∧ ch.link.stray ≤ 65535

/-- Every channel's bounds, and at most 64 descriptors in each pool (R114). -/
abbrev State.bounded (s : State) : Prop :=
  (∀ c : ChannelId, (s.ch c).bounded) ∧ ∀ p : PoolId, (s.pools.get p).length ≤ 64

/-! ## A channel agrees with its state (R1, R23, R81, R93) -/

/-- The latched and active sets are present and the integration record holds an exposure (R23). -/
abbrev SettingsTable.governs (t : SettingsTable) : Prop :=
  (t.latched.isSome && t.active.isSome && t.integration.isSome) = true

/-- The latched and active sets are absent, the integration record is empty, and there is no frame-0 mark (R23, R43). -/
abbrev SettingsTable.idle (t : SettingsTable) : Prop :=
  t = { t with latched := none, active := none, integration := none, frame0Mark := false }

/-- R1, R23, R81, R93: in STARTING, RUNNING and STOPPING the standing credit is held and the sets are present; in OFF and FAULTED the timer is IDLE, the sets are absent, both contexts are free and no standing credit is held. Until a stop or a fault ends the run, the link is UP and only a STOPPING channel's timer is IDLE; while the end of the run waits for aborted frames to close the timer is IDLE (R128). A run with its timer IDLE has a frame in use (R87, R128). -/
abbrev Channel.agrees (ch : Channel) : Prop :=
  (ch.state.inRun = true → ch.standing = true ∧ ch.table.governs)
    ∧ (ch.state.inRun = false → ch.timer.state = .idle ∧ ch.table.idle ∧ ch.standing = false ∧ ch.frames = [] ∧ ch.ending = none)
    ∧ (ch.inFreeRun = true → ch.link.up = true ∧ (ch.timer.state = .idle → ch.state = .stopping))
    ∧ (ch.state = .stopping → ch.timer.state ≠ .waiting)
    ∧ (ch.ending.isSome = true → ch.timer.state = .idle) ∧ (ch.state.inRun = true → ch.timer.state = .idle → ch.frames ≠ [])

/-! ## The credit ledger (R151, R153) -/

/-- R121: a frame that holds a descriptor holds a credit. -/
abbrev Frame.paid (f : Frame) : Prop :=
  f.hold ≠ .nothing → f.credit = true

/-- The credits a channel holds: its standing credit, a close credit for each capture, and the credits of its frames (R153). -/
def Channel.heldCredits (ch : Channel) : Nat :=
  bitNat ch.standing + ch.captures.length + (ch.frames.filter fun f => f.credit).length

/-- The credits the four channels hold. -/
def State.channelCredits (s : State) : Nat :=
  (s.ch 0).heldCredits + (s.ch 1).heldCredits + (s.ch 2).heldCredits + (s.ch 3).heldCredits

/-- The credits a record in EXECUTING holds at least (R136). -/
def Command.executingCredits : Command → Nat
  | .set _ _ _ => 1
  | .start _ => 2
  | .stop _ _ => 1
  | .capture _ _ _ _ _ => 2
  | .cancel _ _ => 1
  | .postBuffers _ _ => 1
  | .reclaim _ => 1
  | .query _ _ => 2
  | .rejected _ => 1

/-- R88, R128: the record in hand is a STOP with ABORT that its channel has taken, with the credit of its CMD_RESULT. -/
def Hand.abortTaken (h : Hand) : Bool :=
  h.taken && decide (1 ≤ h.credits) && match commandOf h.bytes with
    | .stop _ abort => abort
    | _ => false

/-- R132, R134, R149: the processor holds a record in WAIT_CREDIT and EXECUTING, none in FETCHING, and in IDLE at most a STOP with ABORT that its channel has taken; a record that is taken is such a STOP, and does not wait for credits. -/
def Processor.handFits (p : Processor) : Bool :=
  match p.state, p.hand with
  | .idle, none => true
  | .idle, some h => h.abortTaken
  | .fetching, h => h.isNone
  | .waitCredit, none => false
  | .waitCredit, some h => !h.taken
  | .executing, none => false
  | .executing, some h => !h.taken || h.abortTaken

/-- R132, R136: the record in hand fits the processor's state, outside WAIT_CREDIT it has the credits it needs, and the port holds a fetch read for the processor in FETCHING alone. -/
abbrev Processor.sound (p : Processor) : Prop :=
  p.handFits = true
    ∧ (∀ h ∈ p.hand, p.state ≠ .waitCredit → (commandOf h.bytes).executingCredits ≤ h.credits)
    ∧ (p.read.isSome = true → p.state = .fetching)

/-- The credit ledger: the credits reserved are exactly those held (R153), entries and reservations never exceed 64 (R151), and each holder is in a state to hold what it holds; in HALTED the processor is IDLE (R149), outside it no IDLE processor holds a record, and no channel's end of run waits to report HALT. -/
abbrev State.ledger (s : State) : Prop :=
  s.cpl.reserved = s.channelCredits + s.handCredits
    ∧ s.cpl.queue.length + s.cpl.reserved ≤ 64
    ∧ s.proc.sound
    ∧ (∀ c : ChannelId, (s.ch c).agrees ∧ ∀ f ∈ (s.ch c).frames, f.paid)
    ∧ (s.regs.iface = .halted → s.proc.state = .idle)
    ∧ (s.regs.iface ≠ .halted ∧ s.proc.state = .idle → s.proc.hand = none)
    ∧ (s.regs.iface ≠ .halted → ∀ c : ChannelId, ∀ e ∈ (s.ch c).ending, e.thenHalt = false)

/-! ## The capture queue (R97, R98) -/

/-- The captures of a channel that are not DRAINING, oldest first. -/
def Channel.standingCaptures (ch : Channel) : List Capture :=
  ch.captures.filter fun k => k.state != .draining

/-- R97, R98, R105: tags are unique; while the channel is STARTING or RUNNING the first capture that is not DRAINING is OPEN and the others are QUEUED, and in the other channel states none is OPEN; a DRAINING capture has a close reason and a frame in flight; a capture's frames in flight are the frames in use that carry its tag; and the tag of every frame in use is a capture's. -/
abbrev Channel.queueSound (ch : Channel) : Prop :=
  (ch.captures.Pairwise fun j k => j.tag ≠ k.tag)
    ∧ (ch.state.runs = true → (∀ k ∈ ch.standingCaptures.head?, k.state = .opened) ∧ ∀ k ∈ ch.standingCaptures.tail, k.state = .queued)
    ∧ (ch.state.runs = false → ∀ k ∈ ch.captures, k.state ≠ .opened)
    ∧ (∀ k ∈ ch.captures, k.state = .draining → k.reason.isSome = true ∧ k.inFlight ≠ 0)
    ∧ (∀ k ∈ ch.captures, k.inFlight = (ch.frames.filter fun f => f.tag == some k.tag).length)
    ∧ ∀ f ∈ ch.frames, ∀ t ∈ f.tag, ∃ k ∈ ch.captures, k.tag = t

/-! ## The row accounts (R55 to R59) -/

/-- The valid output rows of context `k` in the output row queue. -/
def Channel.validRows (ch : Channel) (k : ContextId) : Nat :=
  (ch.rows.filter fun r => r.ctx == k && r.words.isSome).length

/-- The output rows of frame `f` whose fate is settled: while READING those of the groups passed, with an open group already counted lost; after it all of them (R57, R58). -/
def Channel.settledRows (ch : Channel) (f : Frame) : Nat :=
  match f.stage with
  | .reading => f.nextRow / f.snapshot.mode.v + bitNat ch.combiner.invalid
  | .draining => f.snapshot.outRows
  | .closing => f.snapshot.outRows

/-- R57: every settled output row of a frame that is not aborted is produced, lost, or valid and waiting in the queue. -/
abbrev Channel.balanced (ch : Channel) (f : Frame) : Prop :=
  f.flags.aborted = false → f.produced + f.lost + ch.validRows f.ctx = ch.settledRows f

/-- The checks C2 and C9 of a complete set (R28). -/
abbrev FullSettings.wholeGroups (f : FullSettings) : Prop :=
  f.vRows % f.mode.v = 0 ∧ f.vRows + 24 ≤ f.lf

/-- The committed and latched sets passed C2 and C9, which every commit checks (R26, R28). -/
abbrev SettingsTable.wholeGroups (t : SettingsTable) : Prop :=
  (∀ k ∈ t.committed, checkC2 k.fields = true ∧ checkC9 k.fields = true) ∧ ∀ k ∈ t.latched, k.fields.wholeGroups

/-- An aborted frame belongs to a run that is ending, every frame in use of such a run is aborted or has its header handed (R128), and only an aborted frame has given its header up (R129). -/
def Channel.abortFits (ch : Channel) (f : Frame) : Bool :=
  (!f.noHeader || f.flags.aborted)
    && if f.flags.aborted then ch.ending.isSome else ch.ending.isNone || (f.stage == .closing && ch.headerWrite.isSome)

/-- A frame in use: its window is made of whole groups and its next row lies in it; it is aborted only by the end of its run; while it is READING, its period runs before the latch point and the combiner stands inside its open group. -/
abbrev Channel.frameSound (ch : Channel) (f : Frame) : Prop :=
  f.snapshot.vRows % f.snapshot.mode.v = 0 ∧ f.nextRow ≤ f.snapshot.vRows ∧ ch.balanced f
    ∧ ch.abortFits f = true
    ∧ (f.stage = .reading → ch.timer.state = .period ∧ ch.timer.periodLength > ch.timer.line + 16
        ∧ (ch.combiner.invalid = true → f.nextRow % f.snapshot.mode.v ≠ 0)
        ∧ (ch.combiner.invalid = false → ch.combiner.rowsInGroup = f.nextRow % f.snapshot.mode.v))

/-- The row accounts of a channel: each context holds at most one frame, a READING frame is the latest, every queued row belongs to a frame in use, a handed header write belongs to an earliest frame in CLOSING, a later frame is not in CLOSING (R124), of a run that is ending only a row the port holds is queued (R63), and every frame is sound. -/
abbrev Channel.rowsSound (ch : Channel) : Prop :=
  ch.table.wholeGroups ∧ (ch.frames.Pairwise fun f g => f.ctx ≠ g.ctx) ∧ (∀ f ∈ ch.frames.dropLast, f.stage ≠ .reading)
    ∧ (∀ r ∈ ch.rows, ∃ f ∈ ch.frames, f.ctx = r.ctx)
    ∧ (ch.headerWrite.isSome = true → ∃ f ∈ ch.frames.head?, f.stage = .closing) ∧ (∀ f ∈ ch.frames.tail, f.stage ≠ .closing)
    ∧ (ch.ending.isSome = true → ch.rows.length ≤ bitNat ch.rowWrite.isSome) ∧ ∀ f ∈ ch.frames, ch.frameSound f

/-- The earliest frame in use has something to wait for (R123 to R125, R128): its reading, a queued row of its own, or, with its rows done, the header of its buffer. -/
def Channel.headWaits (ch : Channel) : Bool :=
  match ch.frames with
  | [] => true
  | f :: _ =>
    match f.stage with
    | .reading => true
    | .draining => ch.rowsRemain f.ctx
    | .closing => !ch.rowsRemain f.ctx && f.hold.isBuffer && !f.noHeader

/-- R129: while the interface is DISABLED or HALTED, every aborted frame has given its header up or has it handed. -/
def State.headersDecided (s : State) (c : ChannelId) : Bool :=
  s.regs.iface.busWrites
    || (s.ch c).frames.all fun f => !f.flags.aborted || f.noHeader || (f.stage == .closing && (s.ch c).headerWrite.isSome)

/-- The channel whose closes a STOP with ABORT in hand waits for (R128), if there is one. -/
def State.waitingStop (s : State) : Option ChannelId :=
  match s.proc.hand with
  | none => none
  | some h =>
    if h.taken then
      match commandOf h.bytes with
      | .stop c _ => some c
      | _ => none
    else none

/-- The row accounts of the four channels, with every frame waiting for something, every header decided, and a STOP that waits for closes waiting for a run that is ending. -/
abbrev State.rowsSound (s : State) : Prop :=
  (∀ c : ChannelId, (s.ch c).rowsSound) ∧ (∀ c : ChannelId, (s.ch c).headWaits && s.headersDecided c)
    ∧ ∀ c ∈ s.waitingStop, (s.ch c).ending.isSome = true

/-! ## The end of a run (R87, R105, R111, R112, R128) -/

/-- The captures of a channel after a frame that carries `tag` is posted (R105): one frame in flight less, one delivered more for a whole frame, and gone where it was the last frame of a DRAINING capture. -/
def Channel.capturesAfter (ch : Channel) (tag : Tag) (whole : Bool) : List Capture :=
  (ch.captures.filter fun k => !(k.tag == tag && k.state == .draining && k.inFlight == 1)).map fun k =>
    if k.tag = tag then
      { k with inFlight := k.inFlight - 1, delivered := if whole then min (k.delivered + 1) 4294967295 else k.delivered }
    else k

/-- The CAPTURE_CLOSED of a DRAINING capture of channel `c` whose last frame this was (R105, R106), if there is one. -/
def Channel.closedAfter (ch : Channel) (c : ChannelId) (tag : Tag) (whole : Bool) : List Completion :=
  (ch.captures.filter fun k => k.tag == tag && k.state == .draining && k.inFlight == 1).map fun k =>
    .captureClosed { channel := c, run := ch.timer.run, tag := tag, pool := k.pool, reason := k.reason.getD .cancelled,
                     delivered := if whole then min (k.delivered + 1) 4294967295 else k.delivered }

/-- The records of the end of a run once every frame has closed (R111, R112, R128): the CAPTURE_CLOSED of every capture in queue order, with its own reason if it is DRAINING already, and then the channel event. -/
def Channel.endRecords (ch : Channel) (c : ChannelId) (caps : List Capture) (event : ChannelEvent) : List Completion :=
  caps.map (fun k => .captureClosed
      { channel := c, run := ch.timer.run, tag := k.tag, pool := k.pool
        reason := if k.state = .draining then k.reason.getD .cancelled else match event with
          | .stopped _ => .stopped
          | .faulted _ => .fault
        delivered := k.delivered })
    ++ [.channelEvent c ch.timer.run event ch.timer.nextSeq]

/-- The FRAME_DROPPED (ABORTED) of a frame that carries `tag`, with the descriptor it holds, if any (R128, R129). -/
def Frame.droppedAborted (f : Frame) (c : ChannelId) (tag : Tag) : Completion :=
  .frameDropped { channel := c, run := f.run, seq := f.seq, tag := tag, reason := .aborted, buffer := f.hold.descriptor }

/-- R125, R128: a frame with a header to write whose rows are done, as an abort leaves it: CLOSING and ABORTED, with the lost-event counter `n` sampled. -/
def Frame.abortedClosing (f : Frame) (n : Nat) : Frame :=
  { f with stage := .closing, flags := { f.flags with aborted := true }, lostEvents := some n }

/-- R124, R128, R129: a frame behind an earlier one in use, as an abort leaves it: ABORTED, its rows done, waiting for the earlier one; where the interface does not write (`writes`) its header is given up. -/
def Frame.abortedBehind (f : Frame) (writes : Bool) : Frame :=
  { f with stage := .draining, flags := { f.flags with aborted := true }, noHeader := f.noHeader || !writes }

/-- What a frame that closes without a header posts (R125, R126, R129): with a tag FRAME_DROPPED with the descriptor it holds, its reason ABORTED in place of its own where it is aborted, behind which its capture closes if it was DRAINING with this last frame; untaken nothing. -/
def Channel.dropRecords (ch : Channel) (c : ChannelId) (f : Frame) : List Completion :=
  match f.tag with
  | none => []
  | some tag => .frameDropped { channel := c, run := f.run, seq := f.seq, tag := tag, buffer := f.hold.descriptor
                                reason := if f.flags.aborted then .aborted else f.dropReason.getD .aborted } :: ch.closedAfter c tag false

/-- What an aborted frame that closes at once posts (R128, R129): with a credit FRAME_DROPPED (ABORTED) with the descriptor it holds, behind which its capture closes if it was DRAINING with this last frame; without one nothing. -/
def Channel.abortRecords (ch : Channel) (c : ChannelId) (f : Frame) : List Completion :=
  match f.tag with
  | none => []
  | some tag => f.droppedAborted c tag :: ch.closedAfter c tag false

/-- The captures of the channel after a frame has closed without a header (R105). -/
def Channel.abortCaptures (ch : Channel) (f : Frame) : List Capture :=
  match f.tag with
  | none => ch.captures
  | some tag => ch.capturesAfter tag false

/-- What follows in channel `c` when its last frame in use has closed, with `posted` placed and `caps` its captures then. A run that goes on is left as it is. A STOPPING one with its timer IDLE makes STOPPED (STOP) and is OFF (R87). A run that a stop or a fault is ending closes every capture, makes its event and is OFF or FAULTED, and a STOP with ABORT that waits for it is answered (R128); on a channel that a fault was ending when HALTED was entered (`thenHalt`) STOPPED (HALT) is then offered and the channel is OFF (R95; the model's choice, notes/assumptions/8.md); a STOP kept through HALTED is answered too (the model's choice, notes/assumptions/41.md). -/
abbrev State.runFollows (s t : State) (c : ChannelId) (posted : List Completion) (caps : List Capture) : Prop :=
  (t.ch c).frames = [] ∧ (t.ch c).ending = none
    ∧ ((s.ch c).ending = none → t.regs = s.regs ∧ t.proc = s.proc ∧ (t.ch c).captures = caps
      ∧ (¬((s.ch c).state = .stopping ∧ (s.ch c).timer.state = .idle) →
          t.cpl.queue = s.cpl.queue ++ posted ∧ (t.ch c).state = (s.ch c).state ∧ (t.ch c).standing = (s.ch c).standing
            ∧ (t.ch c).table = (s.ch c).table)
      ∧ ((s.ch c).state = .stopping ∧ (s.ch c).timer.state = .idle →
          t.cpl.queue = s.cpl.queue ++ posted ++ [.channelEvent c (s.ch c).timer.run (.stopped .stop) (s.ch c).timer.nextSeq]
            ∧ (t.ch c).state = .off ∧ (t.ch c).standing = false ∧ (t.ch c).table.idle))
    ∧ ∀ e ∈ (s.ch c).ending, (t.ch c).captures = [] ∧ (t.ch c).standing = false ∧ (t.ch c).table.idle
      ∧ (t.ch c).state = (if e.thenHalt then .off else match e.event with
          | .stopped _ => .off
          | .faulted _ => .faulted)
      ∧ (s.waitingStop = some c → e.thenHalt = false → s.answered t .ok none (posted ++ (s.ch c).endRecords c caps e.event))
      ∧ (s.waitingStop ≠ some c → t.regs = s.regs ∧ t.proc = s.proc
        ∧ (e.thenHalt = false → t.cpl.queue = s.cpl.queue ++ posted ++ (s.ch c).endRecords c caps e.event)
        ∧ (e.thenHalt = true → s.cpl.queue.length + s.cpl.reserved < 64 → t.cpl.queue = s.cpl.queue ++ posted ++ (s.ch c).endRecords c caps e.event
            ++ [.channelEvent c (s.ch c).timer.run (.stopped .halt) (s.ch c).timer.nextSeq])
        ∧ (e.thenHalt = true → 64 ≤ s.cpl.queue.length + s.cpl.reserved →
            t.cpl.queue = s.cpl.queue ++ posted ++ (s.ch c).endRecords c caps e.event
            ∧ (t.ch c).lostEvents = min ((s.ch c).lostEvents + 1) 65535))

/-- The records `r` that channel `c` makes when its run is ended at once with `event`, for a channel with no frame in use, one, or two, the earlier first (R88, R91, R124, R128, R129). `writes`: the interface is ACTIVE or QUIESCING. A frame with a buffer has its header to write first, in CLOSING and ABORTED, where the interface lets it, and a later frame waits behind it; every other frame closes at once: with a credit it posts FRAME_DROPPED (ABORTED) with the descriptor it holds, without one nothing. (A row or header write the port holds is waited for: notes/assumptions/27.md, R128.) -/
abbrev State.abortPosts (s t : State) (c : ChannelId) (writes : Bool) (event : ChannelEvent) (r : List Completion) : Prop :=
  ((s.ch c).frames = [] → (t.ch c).frames = [] ∧ r = (s.ch c).endRecords c (s.ch c).captures event)
    ∧ (∀ f, (s.ch c).frames = [f] → (s.ch c).rowWrite = none → ¬(f.stage = .closing ∧ (s.ch c).headerWrite.isSome = true) →
      (f.hold.isBuffer = true → writes = true → (t.ch c).frames = [f.abortedClosing (s.ch c).lostEvents] ∧ r = [])
      ∧ (f.hold.isBuffer = false ∨ writes = false → (t.ch c).frames = []
        ∧ (∀ tag, f.tag = some tag → f.credit = true →
            r = f.droppedAborted c tag :: (s.ch c).closedAfter c tag false ++ (s.ch c).endRecords c ((s.ch c).capturesAfter tag false) event)
        ∧ (f.tag = none → f.credit = false → r = (s.ch c).endRecords c (s.ch c).captures event)))
    ∧ ∀ f g first, (s.ch c).frames = [f, g] → (s.ch c).rowWrite = none → f.tag.isSome = f.credit → g.tag.isSome = g.credit →
      first = { s.ch c with captures := (s.ch c).abortCaptures f } →
      (f.stage = .closing ∧ (s.ch c).headerWrite.isSome = true → (t.ch c).frames = [f, g.abortedBehind writes] ∧ r = [])
      ∧ (¬(f.stage = .closing ∧ (s.ch c).headerWrite.isSome = true) →
        (f.hold.isBuffer = true → writes = true →
          (t.ch c).frames = [f.abortedClosing (s.ch c).lostEvents, g.abortedBehind writes] ∧ r = [])
        ∧ (f.hold.isBuffer = false ∨ writes = false →
          (g.hold.isBuffer = true → writes = true →
            (t.ch c).frames = [g.abortedClosing (s.ch c).lostEvents] ∧ r = (s.ch c).abortRecords c f)
          ∧ (g.hold.isBuffer = false ∨ writes = false → (t.ch c).frames = []
            ∧ r = (s.ch c).abortRecords c f ++ first.abortRecords c g ++ (s.ch c).endRecords c (first.abortCaptures g) event)))

/-! ## The end of a frame's reading and a frame's capture (R58, R76, R77, R101 to R104) -/

/-- What channel `c` does with its READING frame `f` when its reading ends and the run goes on, `ended` being the frame with its rows settled (R58, R77, R105, R123, R124). As the only frame in use it is DRAINING while it has rows queued, else CLOSING with a buffer, else freed: untaken with no record, dropped with its FRAME_DROPPED, behind which its capture closes if it was DRAINING with this last frame. Behind an earlier frame it is DRAINING and waits, its rows done or not. -/
abbrev State.frameEnded (s t : State) (c : ChannelId) (f ended : Frame) : Prop :=
  (∀ g, (s.ch c).frames = [g, f] → t.cpl = s.cpl ∧ (t.ch c).frames = [g, ended] ∧ (t.ch c).captures = (s.ch c).captures)
    ∧ ((s.ch c).frames = [f] → (∃ r ∈ (s.ch c).rows, r.ctx = f.ctx) →
        t.cpl = s.cpl ∧ (t.ch c).frames = [ended] ∧ (t.ch c).captures = (s.ch c).captures)
    ∧ (∀ d, (s.ch c).frames = [f] → (∀ r ∈ (s.ch c).rows, r.ctx ≠ f.ctx) → f.hold = .buffer d →
        t.cpl = s.cpl ∧ (t.ch c).frames = [{ ended with stage := .closing, lostEvents := some (s.ch c).lostEvents }]
        ∧ (t.ch c).captures = (s.ch c).captures)
    ∧ ((s.ch c).frames = [f] → (∀ r ∈ (s.ch c).rows, r.ctx ≠ f.ctx) → f.hold.isBuffer = false → f.credit = false → f.tag = none →
        t.cpl = s.cpl ∧ (t.ch c).frames = [] ∧ (t.ch c).lastFreed = some f.ctx ∧ (t.ch c).captures = (s.ch c).captures)
    ∧ ∀ tag reason, (s.ch c).frames = [f] → (∀ r ∈ (s.ch c).rows, r.ctx ≠ f.ctx) → f.hold.isBuffer = false → f.credit = true →
        f.tag = some tag → f.dropReason = some reason →
        (t.ch c).frames = [] ∧ (t.ch c).lastFreed = some f.ctx ∧ (t.ch c).captures = (s.ch c).capturesAfter tag false
        ∧ t.cpl.queue = s.cpl.queue ++ .frameDropped { channel := c, run := f.run, seq := f.seq, tag := tag, reason := reason
                                                       buffer := f.hold.descriptor } :: (s.ch c).closedAfter c tag false

/-- Frame `f` of channel `c` starts untaken (R101, R102): it has no tag, no credit and no buffer, and the captures, the pools and the credits are as they were. -/
abbrev State.frameUntaken (s t : State) (c : ChannelId) (f : Frame) : Prop :=
  f.tag = none ∧ f.hold = .nothing ∧ f.credit = false ∧ f.dropReason = none ∧ (t.ch c).captures = (s.ch c).captures
    ∧ t.pools = s.pools ∧ t.cpl = { s.cpl with queue := t.cpl.queue }

/-- Frame `f` of channel `c` starts taken by its OPEN capture `q`, under the set `k` (R102, R103, R104, R117): it has the capture's tag, a credit and its place in flight. Settling it takes no descriptor; with an empty pool it is NO_BUFFER; an oldest descriptor shorter than the frame size needed leaves the pool as BUFFER_SMALL; and one long enough is its buffer and counts, at the last of the count completing the capture and opening the next. -/
abbrev State.frameTaken (s t : State) (c : ChannelId) (k : GoverningSet) (q : Capture) (f : Frame) : Prop :=
  f.tag = some q.tag ∧ f.credit = true ∧ t.cpl = { s.cpl with queue := t.cpl.queue, reserved := s.cpl.reserved + 1 }
    ∧ (∀ p : PoolId, p ≠ q.pool → t.pools.get p = s.pools.get p)
    ∧ (f.settling = true → f.dropReason = some .settling ∧ f.hold = .nothing ∧ t.pools = s.pools)
    ∧ (f.settling = false → s.pools.get q.pool = [] → f.dropReason = some .noBuffer ∧ f.hold = .nothing ∧ t.pools = s.pools)
    ∧ (∀ d rest, f.settling = false → s.pools.get q.pool = d :: rest → t.pools.get q.pool = rest
      ∧ (d.length.toNat < 64 + k.fields.vRows / k.fields.mode.v * ((2 * (k.fields.hWidth / k.fields.mode.h) + 63) / 64 * 64) →
          f.dropReason = some .bufferSmall ∧ f.hold = .short d)
      ∧ (64 + k.fields.vRows / k.fields.mode.v * ((2 * (k.fields.hWidth / k.fields.mode.h) + 63) / 64 * 64) ≤ d.length.toNat →
          f.dropReason = none ∧ f.hold = .buffer d))
    ∧ (f.dropReason ≠ none → (t.ch c).captures = (s.ch c).captures.map fun j => if j.tag = q.tag then { j with inFlight := j.inFlight + 1 } else j)
    ∧ (f.dropReason = none → (t.ch c).captures = openFirst ((s.ch c).captures.map fun j =>
        if j.tag ≠ q.tag then j
        else if j.count = 0 then { j with inFlight := j.inFlight + 1 }
        else if j.remaining ≤ 1 then { j with inFlight := j.inFlight + 1, remaining := 0, state := .draining, reason := some .complete }
        else { j with inFlight := j.inFlight + 1, remaining := j.remaining - 1 }))

/-- R136, R154, R169: the holding queue after a START whose CMD_RESULT `result` and whose GEN_APPLIED `report` both joined it, either first (notes/assumptions/13.md). In QUIESCING the CMD_RESULT brings the entry to DISABLED, whose records follow it at once, before a GEN_APPLIED that comes second (the model's choice, notes/assumptions/47.md). -/
abbrev State.resultAndReport (s t : State) (result report : Completion) : Prop :=
  (s.regs.iface ≠ .quiescing → t.cpl.queue = s.cpl.queue ++ [result, report] ∨ t.cpl.queue = s.cpl.queue ++ [report, result])
    ∧ (s.regs.iface = .quiescing →
      (∃ entry, t.cpl.queue = s.cpl.queue ++ result :: entry ++ [report]) ∨ ∃ entry, t.cpl.queue = s.cpl.queue ++ report :: result :: entry)

end Sys2Proof.Machine
end

