-- ==== Sys2Proof/Certificates/Slice0/Obligations.lean ====
section
/-! DEFINITION. The statements for the provers, family by family, after the manual's numbered rules. -/

open Sys2Proof Sys2Proof.Machine

/-! ## Steps and resets -/

/-- A step takes the command at the front of the queue and runs it on the state with the queue's rest. -/
def Obligations.StepRunsFrontCommand : Prop :=
  ∀ (s : State) (c : Instr) (rest : List Instr),
    s.pending = c :: rest → step s = exec c { s with pending := rest }

/-- The model's choice (notes/assumptions/18.md), after R1: with no command waiting 10 ns pass, and only the line positions of running periods move; at the end of a line the position advances by one, but past neither the line before the latch point nor the period's last line. -/
def Obligations.IdleStepLetsTenNanosecondsPass : Prop :=
  ∀ s : State, s.pending = [] →
    ∃ t, step s = .next t ∧ t = { s with chans := t.chans }
      ∧ ∀ c : ChannelId, t.ch c = { s.ch c with timer := (t.ch c).timer }
        ∧ ((s.ch c).timer.state ≠ .period → (t.ch c).timer = (s.ch c).timer)
        ∧ ((s.ch c).timer.state = .period →
            ((s.ch c).timer.lineTime + 1 < (s.ch c).timer.lineLength →
              (t.ch c).timer = { (s.ch c).timer with lineTime := (s.ch c).timer.lineTime + 1 })
            ∧ ((s.ch c).timer.lineLength ≤ (s.ch c).timer.lineTime + 1 →
              ((s.ch c).timer.line + 17 < (s.ch c).timer.periodLength
                  ∨ (s.ch c).timer.periodLength ≤ (s.ch c).timer.line + 16 ∧ (s.ch c).timer.line + 1 < (s.ch c).timer.periodLength →
                (t.ch c).timer = { (s.ch c).timer with line := (s.ch c).timer.line + 1, lineTime := 0 })
              ∧ ((s.ch c).timer.line + 17 = (s.ch c).timer.periodLength ∨ (s.ch c).timer.periodLength ≤ (s.ch c).timer.line + 1 →
                (t.ch c).timer = (s.ch c).timer)))

/-- R173, R80: POWER_ON completes in every state: every block is at its reset value, every link is DOWN with its counters 0, and nothing is sent to a head or written to host memory. The trigger inputs keep their levels (R20); the host port's link, bus mastering and message-signalled interrupts come up off (the model's choice, notes/assumptions/23.md). (The model's reading, not the manual's words: notes/assumptions/17.md, 21.md, 22.md, 28.md.) -/
def Obligations.PowerOnResetsEveryBlock : Prop :=
  ∀ s : State, ∃ t, exec .powerOn s = .next t ∧ t.atReset
    ∧ (∀ c : ChannelId,
        (t.ch c).link = { carrier := (s.ch c).link.carrier, geometry := none, headFault := none, endMiss := 0, stray := 0,
                          sent := (s.ch c).link.sent }
        ∧ (t.ch c).timer.inputHigh = (s.ch c).timer.inputHigh)
    ∧ t.mem = s.mem ∧ t.pending = s.pending ∧ t.port.messages = s.port.messages
    ∧ t.port.linkUp = false ∧ t.port.busMastering = false ∧ t.port.msiEnabled = false

/-- R173, R80: FUNCTION_RESET completes in every state and whatever took it: every block is at its reset value; each link keeps its state, geometry and head fault flag, its counters are 0, and on an UP link one HALT is sent; no interrupt message is sent. A read or write the port holds stays with the port, its data or bytes for no block. (The model's reading, not the manual's words: notes/assumptions/5.md, 17.md, 21.md, 23.md.) -/
def Obligations.FunctionResetKeepsTheHeads : Prop :=
  ∀ (cause : ResetCause) (s : State), ∃ t, exec (.functionReset cause) s = .next t ∧ t.atReset
    ∧ (∀ c : ChannelId,
        (t.ch c).link = { (s.ch c).link with endMiss := 0, stray := 0, sent := if (s.ch c).link.geometry.isSome then (s.ch c).link.sent ++ [.halt] else (s.ch c).link.sent }
        ∧ (t.ch c).timer.inputHigh = (s.ch c).timer.inputHigh
        ∧ (∀ w ∈ (s.ch c).rowWrite, (.row c, w) ∈ t.port.abandonedWrites)
        ∧ (∀ w ∈ (s.ch c).headerWrite, (.header c, w) ∈ t.port.abandonedWrites))
    ∧ (∀ w ∈ s.cpl.write, (.record, w) ∈ t.port.abandonedWrites)
    ∧ t.port.abandonedReads = s.port.abandonedReads ++ (match s.proc.read with | none => [] | some r => [r])
    ∧ t.mem = s.mem ∧ t.pending = s.pending ∧ t.port.messages = s.port.messages
    ∧ t.port.linkUp = s.port.linkUp ∧ t.port.busMastering = s.port.busMastering ∧ t.port.msiEnabled = s.port.msiEnabled

/-- The state the model starts from is the block right after power-on, with every link DOWN, nothing written and no command waiting, and it is sound: bounded, its credits and rows in account, host memory in canonical form. (The model's reading, not the manual's words: notes/assumptions/17.md.) -/
def Obligations.ResetStateIsSound : Prop :=
  State.reset.atReset ∧ (∀ c : ChannelId, (State.reset.ch c).link.geometry = none ∧ (State.reset.ch c).link.sent = [])
    ∧ State.reset.mem = [] ∧ State.reset.pending = []
    ∧ State.reset.bounded ∧ State.reset.ledger ∧ State.reset.rowsSound ∧ State.reset.mem.wf ∧ ∀ c : ChannelId, (State.reset.ch c).queueSound

/-! ## The register window -/

/-- 11.1, R165, R131, R168, R175: what the fourteen registers read: IDENT the part code in its low half and zero above bit 23; CONTROL the ENABLE bit while ACTIVE alone; IF_STATUS the state, halt cause and flags at their bits; INT_CONTROL the enable; the aperture and ring base registers the value taken; RING_SIZES both sizes; CMD_TAIL, CMD_HEAD and CPL_HEAD their index; and 0 outside them. A narrower read gives the register's bytes from its offset on, the lowest first (one that goes beyond the register's end, which R165 calls not supported, is cut there: the model's choice, notes/assumptions/40.md). -/
def Obligations.RegistersReadTheirLayout : Prop :=
  ∀ s : State,
    (s.readRegister 0x00).toNat % 65536 = 0xF4C4 ∧ (s.readRegister 0x00).toNat < 16777216
    ∧ (s.readRegister 0x04).toNat = (if s.regs.iface = .active then 1 else 0)
    ∧ (s.readRegister 0x08).toNat % 4
        = (match s.regs.iface with | .disabled => 0 | .active => 1 | .quiescing => 2 | .halted => 3)
    ∧ (s.readRegister 0x08).toNat / 16 % 4
        = (match s.regs.haltCause with | .none => 0 | .ringIndex => 1 | .fetchError => 2 | .portDown => 3)
    ∧ (s.readRegister 0x08).getLsbD 8 = s.regs.configIgnored ∧ (s.readRegister 0x08).getLsbD 9 = s.regs.enableRefused
    ∧ (s.readRegister 0x08).toNat < 1024 ∧ (s.readRegister 0x08).toNat / 4 % 4 = 0 ∧ (s.readRegister 0x08).toNat / 64 % 4 = 0
    ∧ (s.readRegister 0x0C).toNat = (if s.regs.intEnable then 1 else 0)
    ∧ s.readRegister 0x10 = s.regs.apertureBase ∧ s.readRegister 0x14 = s.regs.apertureSize
    ∧ s.readRegister 0x18 = s.regs.cmdBaseLo ∧ s.readRegister 0x1C = s.regs.cmdBaseHi
    ∧ s.readRegister 0x20 = s.regs.cplBaseLo ∧ s.readRegister 0x24 = s.regs.cplBaseHi
    ∧ (s.readRegister 0x28).toNat % 65536 = s.regs.cmdSize.toNat ∧ (s.readRegister 0x28).toNat / 65536 = s.regs.cplSize.toNat
    ∧ (s.regs.cmdTail < 4096 → (s.readRegister 0x2C).toNat = s.regs.cmdTail)
    ∧ (s.regs.cmdHead < 4096 → (s.readRegister 0x30).toNat = s.regs.cmdHead)
    ∧ (s.regs.cplHead < 4096 → (s.readRegister 0x34).toNat = s.regs.cplHead)
    ∧ (∀ offset, 0x34 < offset → s.readRegister offset = 0)
    ∧ (∀ offset k, offset % 4 + k ≤ 4 → (s.readRegisterBytes offset k).length = k
        ∧ ∀ j, j < k → (byteAt (s.readRegisterBytes offset k) j).toNat = (s.readRegister (offset - offset % 4)).toNat / 256 ^ (offset % 4 + j) % 256)
    ∧ ∀ offset k, 4 < offset % 4 + k → s.readRegisterBytes offset k = s.readRegisterBytes offset (4 - offset % 4)

/-- R168, R169, R175: ENABLE = 1, whatever the reserved bits. While DISABLED the four checks decide: with all of them true the interface is ACTIVE, and an IDLE processor with a record in the ring begins its fetch of the 64 bytes at base + 64·head, its read handed where bus mastering is enabled; with one false ENABLE_REFUSED is set and nothing else changes. While QUIESCING it goes to ACTIVE with no check; while ACTIVE or HALTED nothing changes. ENABLE = 0 completes in every state too: an ACTIVE interface is then DISABLED with an IDLE processor and QUIESCING with another, and no other register moves. (The model's reading, not the manual's words: notes/assumptions/26.md.) -/
def Obligations.EnableMakesTheFourChecks : Prop :=
  ∀ (reserved : BitVec 30) (s : State),
    (s.regs.iface = .disabled →
      ((∃ k, 4 ≤ k ∧ k ≤ 12 ∧ s.regs.cmdSize.toNat = 2 ^ k) ∧ (∃ k, 4 ≤ k ∧ k ≤ 12 ∧ s.regs.cplSize.toNat = 2 ^ k)
          ∧ (s.regs.cmdBase % 64 = 0 ∧ s.regs.apertureBase.toNat * 1048576 ≤ s.regs.cmdBase
            ∧ s.regs.cmdBase + 64 * s.regs.cmdSize.toNat ≤ (s.regs.apertureBase.toNat + s.regs.apertureSize.toNat) * 1048576)
          ∧ (s.regs.cplBase % 64 = 0 ∧ s.regs.apertureBase.toNat * 1048576 ≤ s.regs.cplBase
            ∧ s.regs.cplBase + 32 * s.regs.cplSize.toNat ≤ (s.regs.apertureBase.toNat + s.regs.apertureSize.toNat) * 1048576) →
        exec (.enable reserved) s = .next
          { s with regs := { s.regs with iface := .active }
                   proc := if s.proc.state = .idle ∧ s.regs.cmdHead ≠ s.regs.cmdTail then
                       { state := .fetching, hand := none, read := if s.port.busMastering then some ⟨s.regs.cmdBase + 64 * s.regs.cmdHead, 64⟩ else none }
                     else s.proc })
      ∧ (¬((∃ k, 4 ≤ k ∧ k ≤ 12 ∧ s.regs.cmdSize.toNat = 2 ^ k) ∧ (∃ k, 4 ≤ k ∧ k ≤ 12 ∧ s.regs.cplSize.toNat = 2 ^ k)
          ∧ (s.regs.cmdBase % 64 = 0 ∧ s.regs.apertureBase.toNat * 1048576 ≤ s.regs.cmdBase
            ∧ s.regs.cmdBase + 64 * s.regs.cmdSize.toNat ≤ (s.regs.apertureBase.toNat + s.regs.apertureSize.toNat) * 1048576)
          ∧ (s.regs.cplBase % 64 = 0 ∧ s.regs.apertureBase.toNat * 1048576 ≤ s.regs.cplBase
            ∧ s.regs.cplBase + 32 * s.regs.cplSize.toNat ≤ (s.regs.apertureBase.toNat + s.regs.apertureSize.toNat) * 1048576)) →
        exec (.enable reserved) s = .next { s with regs := { s.regs with enableRefused := true } }))
    ∧ (s.regs.iface = .quiescing → ∃ t, exec (.enable reserved) s = .next t ∧ t.regs = { s.regs with iface := .active }
        ∧ t = { s with regs := t.regs, proc := t.proc } ∧ (s.proc.state ≠ .idle → t.proc = s.proc))
    ∧ (s.regs.iface = .active ∨ s.regs.iface = .halted → exec (.enable reserved) s = .next s)
    ∧ ∃ t, exec (.disable reserved) s = .next t
      ∧ t.regs = { s.regs with iface := if s.regs.iface ≠ .active then s.regs.iface else if s.proc.state = .idle then .disabled else .quiescing }

/-- R169, R129, R175: ENABLE = 0, whatever the reserved bits. An ACTIVE interface with a record in hand or being read becomes QUIESCING, and nothing else changes. With the processor IDLE it becomes DISABLED at once: the other registers, the processor, the pools, the port, host memory and the completion writer's indices stay, and every channel's timer and link; a channel whose run no stop or fault is ending stays as it is, its frames, captures and sets with it. Where a fault's aborted frame has its header not handed, the header is given up: with its rows done the frame posts FRAME_DROPPED (ABORTED) with its descriptor, and with the last frame the captures close and FAULTED follows (of two frames the earlier posts first); with a row write still held by the port it waits for that. In the other interface states nothing changes. The CMD_RESULT of a record answered in QUIESCING brings the same entry: the state is the one that the record's command leaves with the interface ACTIVE and the ring empty behind it, followed by ENABLE = 0 (for a START, with no run ending). (The model's reading, not the manual's words: notes/assumptions/6.md, 15.md, 27.md, 37.md.) -/
def Obligations.DisableQuiescesOrDisables : Prop :=
  ∀ (reserved : BitVec 30) (s : State),
    (s.regs.iface = .active → s.proc.state ≠ .idle →
      exec (.disable reserved) s = .next { s with regs := { s.regs with iface := .quiescing } })
    ∧ (s.regs.iface = .active → s.proc.state = .idle → s.ledger → s.rowsSound → (∀ c : ChannelId, (s.ch c).queueSound) →
      ∃ (t : State) (r : ChannelId → List Completion), exec (.disable reserved) s = .next t
        ∧ t.regs = { s.regs with iface := .disabled } ∧ t.proc = s.proc ∧ t.pools = s.pools ∧ t.port = s.port
        ∧ t.mem = s.mem ∧ t.pending = s.pending ∧ t.draws = s.draws
        ∧ t.cpl = { s.cpl with queue := t.cpl.queue, reserved := t.cpl.reserved }
        ∧ t.cpl.queue = s.cpl.queue ++ r 0 ++ r 1 ++ r 2 ++ r 3
        ∧ ∀ c : ChannelId, (t.ch c).timer = (s.ch c).timer ∧ (t.ch c).link = (s.ch c).link
          ∧ ((s.ch c).ending = none → t.ch c = s.ch c ∧ r c = [])
          ∧ ((s.ch c).ending ≠ none → (s.ch c).rowWrite = none → (s.ch c).headerWrite = none → (t.ch c).frames = [] ∧ (t.ch c).ending = none)
          ∧ (∀ e f g first, (s.ch c).ending = some e → (s.ch c).frames = [f, g] → (s.ch c).rowWrite = none → (s.ch c).headerWrite = none →
            f.tag.isSome = f.credit → g.tag.isSome = g.credit → first = { s.ch c with captures := (s.ch c).abortCaptures f } →
            r c = (s.ch c).abortRecords c f ++ first.abortRecords c g ++ (s.ch c).endRecords c (first.abortCaptures g) e.event)
          ∧ ∀ e f, (s.ch c).ending = some e → (s.ch c).frames = [f] → f.flags.aborted = true →
            (f.stage = .closing ∧ (s.ch c).headerWrite.isSome = true → t.ch c = s.ch c ∧ r c = [])
            ∧ (f.stage = .draining → t.ch c = { s.ch c with frames := [{ f with noHeader := true }] } ∧ r c = [])
            ∧ (f.stage = .closing → (s.ch c).headerWrite = none → (t.ch c).frames = []
              ∧ (t.ch c).state = (match e.event with | .stopped _ => .off | .faulted _ => .faulted)
              ∧ (t.ch c).standing = false ∧ (t.ch c).captures = []
              ∧ ∀ tag d, f.tag = some tag → f.credit = true → f.hold = .buffer d →
                r c = f.droppedAborted c tag :: (s.ch c).closedAfter c tag false ++ (s.ch c).endRecords c ((s.ch c).capturesAfter tag false) e.event))
    ∧ (s.regs.iface ≠ .active → exec (.disable reserved) s = .next s)
    ∧ ∀ (i : Instr) (u : State), s.regs.iface = .quiescing → s.proc.hand ≠ none →
      (i = .recordRejected ∨ i = .set ∨ i = .start ∨ i = .stop ∨ i = .capture ∨ i = .cancel ∨ i = .postBuffers ∨ i = .reclaim ∨ i = .query
        ∨ (∃ c issue error, i = .rowWrite c issue error) ∨ ∃ c issue error, i = .headerWrite c issue error) →
      (i = .start → s.ledger ∧ s.rowsSound ∧ ∀ c : ChannelId, (s.ch c).ending = none) →
      exec i { s with regs := { s.regs with iface := .active, cmdTail := (s.regs.cmdHead + 1) % s.regs.cmdSize.toNat } } = .next u →
      u.proc.hand = none →
      ∃ t v, exec i s = .next t ∧ exec (.disable reserved) u = .next v ∧ t = { v with regs := { v.regs with cmdTail := s.regs.cmdTail } }

/-- R166, R175: a write of a configuration register. While DISABLED it is taken as written, RING_SIZES its two 13-bit fields; a command ring base sets command head and tail to 0, a completion ring base sets completion tail and head to 0 and the phase to 1, RING_SIZES does both, the aperture neither; a record write the port holds goes on without the writer (R157), and the holding queue stays. In every other interface state only CONFIG_IGNORED is set. (The model's reading, not the manual's words: notes/assumptions/5.md.) -/
def Obligations.ConfigWriteConfiguresItsRing : Prop :=
  ∀ (reg : ConfigReg) (value : Word) (s : State),
    (s.regs.iface ≠ .disabled →
      exec (.configWrite reg value) s = .next { s with regs := { s.regs with configIgnored := true } })
    ∧ (s.regs.iface = .disabled → ∃ t, exec (.configWrite reg value) s = .next t
      ∧ t = { s with regs := t.regs, cpl := t.cpl, port := t.port }
      ∧ t.regs.apertureBase = (if reg = .apertureBase then value else s.regs.apertureBase)
      ∧ t.regs.apertureSize = (if reg = .apertureSize then value else s.regs.apertureSize)
      ∧ t.regs.cmdBaseLo = (if reg = .cmdBaseLo then value else s.regs.cmdBaseLo)
      ∧ t.regs.cmdBaseHi = (if reg = .cmdBaseHi then value else s.regs.cmdBaseHi)
      ∧ t.regs.cplBaseLo = (if reg = .cplBaseLo then value else s.regs.cplBaseLo)
      ∧ t.regs.cplBaseHi = (if reg = .cplBaseHi then value else s.regs.cplBaseHi)
      ∧ t.regs.cmdSize.toNat = (if reg = .ringSizes then value.toNat % 8192 else s.regs.cmdSize.toNat)
      ∧ t.regs.cplSize.toNat = (if reg = .ringSizes then value.toNat / 65536 % 8192 else s.regs.cplSize.toNat)
      ∧ t.regs = { s.regs with apertureBase := t.regs.apertureBase, apertureSize := t.regs.apertureSize, cmdBaseLo := t.regs.cmdBaseLo, cmdBaseHi := t.regs.cmdBaseHi, cplBaseLo := t.regs.cplBaseLo, cplBaseHi := t.regs.cplBaseHi, cmdSize := t.regs.cmdSize, cplSize := t.regs.cplSize, cmdHead := t.regs.cmdHead, cmdTail := t.regs.cmdTail, cplHead := t.regs.cplHead }
      ∧ (reg = .cmdBaseLo ∨ reg = .cmdBaseHi ∨ reg = .ringSizes → t.regs.cmdHead = 0 ∧ t.regs.cmdTail = 0)
      ∧ (reg ≠ .cmdBaseLo ∧ reg ≠ .cmdBaseHi ∧ reg ≠ .ringSizes → t.regs.cmdHead = s.regs.cmdHead ∧ t.regs.cmdTail = s.regs.cmdTail)
      ∧ (reg = .cplBaseLo ∨ reg = .cplBaseHi ∨ reg = .ringSizes →
          t.regs.cplHead = 0 ∧ t.cpl = { s.cpl with tail := 0, phase := true, write := none }
          ∧ t.port = { s.port with abandonedWrites := t.port.abandonedWrites }
          ∧ (∀ w ∈ s.cpl.write, (.record, w) ∈ t.port.abandonedWrites))
      ∧ (reg ≠ .cplBaseLo ∧ reg ≠ .cplBaseHi ∧ reg ≠ .ringSizes → t.regs.cplHead = s.regs.cplHead ∧ t.cpl = s.cpl ∧ t.port = s.port))

/-- R170, R133, R171: a write of CMD_TAIL. In HALTED it is ignored. With a valid ring size, a value below it becomes the tail, and an IDLE processor of an ACTIVE interface whose head differs from it begins its fetch at base + 64·head, its read handed where bus mastering is enabled; a value at or above it halts the interface with RING_INDEX, and the tail and every other register but the head keep their values; the head too, but for a STOP with ABORT already taken, whose CMD_RESULT the entry to HALTED may bring. Without a valid ring size the tail is left at 0 and nothing else changes. (The model's reading, not the manual's words: notes/assumptions/26.md, 41.md.) -/
def Obligations.CommandTailWriteMovesTailOrHalts : Prop :=
  ∀ (value : Word) (s : State),
    (s.regs.iface = .halted → exec (.cmdTailWrite value) s = .next s)
    ∧ (s.regs.iface ≠ .halted → (∃ k, 4 ≤ k ∧ k ≤ 12 ∧ s.regs.cmdSize.toNat = 2 ^ k) → value.toNat < s.regs.cmdSize.toNat →
        exec (.cmdTailWrite value) s = .next
          { s with regs := { s.regs with cmdTail := value.toNat }
                   proc := if s.regs.iface = .active ∧ s.proc.state = .idle ∧ s.regs.cmdHead ≠ value.toNat then
                       { state := .fetching, hand := none, read := if s.port.busMastering then some ⟨s.regs.cmdBase + 64 * s.regs.cmdHead, 64⟩ else none }
                     else s.proc })
    ∧ (s.regs.iface ≠ .halted → (∃ k, 4 ≤ k ∧ k ≤ 12 ∧ s.regs.cmdSize.toNat = 2 ^ k) → s.regs.cmdSize.toNat ≤ value.toNat →
        ∃ t, exec (.cmdTailWrite value) s = .next t
          ∧ t.regs = { s.regs with iface := .halted, haltCause := .ringIndex, cmdHead := t.regs.cmdHead }
          ∧ (s.waitingStop = none → t.regs.cmdHead = s.regs.cmdHead))
    ∧ (s.regs.iface ≠ .halted → (¬∃ k, 4 ≤ k ∧ k ≤ 12 ∧ s.regs.cmdSize.toNat = 2 ^ k) →
        exec (.cmdTailWrite value) s = .next { s with regs := { s.regs with cmdTail := 0 } })

/-- R159, R162, R174: a write of CPL_HEAD, in every interface state: the head is the value modulo a valid ring size, else 0; the armed flag is set; and with the head then differing from the tail, the interrupt enable set and the interface not HALTED, one completion message is sent and the flag cleared, the message lost where the port's link is down or message-signalled interrupts are disabled. (The model's reading, not the manual's words: notes/assumptions/17.md.) -/
def Obligations.CompletionHeadWriteArmsTheMessage : Prop :=
  ∀ (value : Word) (s : State), ∃ t, exec (.cplHeadWrite value) s = .next t
    ∧ t = { s with regs := { s.regs with cplHead := t.regs.cplHead }, cpl := { s.cpl with armed := t.cpl.armed }
                   port := { s.port with messages := t.port.messages } }
    ∧ ((∃ k, 4 ≤ k ∧ k ≤ 12 ∧ s.regs.cplSize.toNat = 2 ^ k) → t.regs.cplHead = value.toNat % s.regs.cplSize.toNat)
    ∧ ((¬∃ k, 4 ≤ k ∧ k ≤ 12 ∧ s.regs.cplSize.toNat = 2 ^ k) → t.regs.cplHead = 0)
    ∧ (t.regs.cplHead ≠ s.cpl.tail ∧ s.regs.intEnable = true ∧ s.regs.iface ≠ .halted →
        t.cpl.armed = false
        ∧ t.port.messages = s.port.messages ++ if s.port.linkUp = true ∧ s.port.msiEnabled = true then [.completion] else [])
    ∧ (¬(t.regs.cplHead ≠ s.cpl.tail ∧ s.regs.intEnable = true ∧ s.regs.iface ≠ .halted) →
        t.cpl.armed = true ∧ t.port.messages = s.port.messages)

/-- R172, R162, R175: a write of INT_CONTROL, in every interface state. With bit 0 set the enable and the armed flag are set, and with the completion head differing from the tail and the interface not HALTED the completion message is sent at once and the flag cleared. With bit 0 clear only the enable is cleared: the armed flag stays and nothing is sent. (The model's reading, not the manual's words: notes/assumptions/17.md.) -/
def Obligations.InterruptControlArmsOrSilences : Prop :=
  ∀ (value : Word) (s : State),
    (value.getLsbD 0 = false →
      exec (.intControlWrite value) s = .next { s with regs := { s.regs with intEnable := false } })
    ∧ (value.getLsbD 0 = true → s.regs.cplHead ≠ s.cpl.tail ∧ s.regs.iface ≠ .halted →
      exec (.intControlWrite value) s = .next
        { s with regs := { s.regs with intEnable := true }, cpl := { s.cpl with armed := false }
                 port := { s.port with messages :=
                   s.port.messages ++ if s.port.linkUp = true ∧ s.port.msiEnabled = true then [.completion] else [] } })
    ∧ (value.getLsbD 0 = true → ¬(s.regs.cplHead ≠ s.cpl.tail ∧ s.regs.iface ≠ .halted) →
      exec (.intControlWrite value) s = .next
        { s with regs := { s.regs with intEnable := true }, cpl := { s.cpl with armed := true } })

/-- R167, R175: a write of IF_STATUS clears exactly the sticky flags whose bit is one, and changes nothing else. -/
def Obligations.StatusWriteClearsItsFlags : Prop :=
  ∀ (value : Word) (s : State),
    exec (.ifStatusWrite value) s = .next
      { s with regs := { s.regs with
          configIgnored := if value.toNat / 256 % 2 = 1 then false else s.regs.configIgnored
          enableRefused := if value.toNat / 512 % 2 = 1 then false else s.regs.enableRefused } }

/-- R165: a write to a read-only register (IDENT, CMD_HEAD), outside the fourteen registers, unaligned, or not 32 bits wide changes nothing; an aligned 32-bit write to a writable register is some other command's, and as this one it is refused by name (notes/assumptions/34.md). (That an unaligned write, which R165 calls not supported, changes nothing is the model's choice: notes/assumptions/40.md.) -/
def Obligations.IgnoredRegisterWriteChangesNothing : Prop :=
  ∀ (offset bytes : Nat) (value : Word) (s : State),
    (bytes ≠ 4 ∨ offset % 4 ≠ 0 ∨ offset = 0x00 ∨ offset = 0x30 ∨ 0x34 < offset →
      exec (.registerWriteIgnored offset bytes value) s = .next s)
    ∧ (bytes = 4 ∧ offset % 4 = 0 ∧ offset ≠ 0x00 ∧ offset ≠ 0x30 ∧ offset ≤ 0x34 →
      exec (.registerWriteIgnored offset bytes value) s = .refused .writeIsTaken)

/-- R174, R20, R65: the events that move one switch: bus mastering (a fetch that waited for it is handed), the port's link coming up, message-signalled interrupts, a trigger input gone low, carrier present. Each changes that and nothing else; a link stays DOWN when carrier comes back. The port's link going down completes in every state: it halts an interface that is not HALTED, in HALTED it moves the switch alone. With the link down already it changes nothing, which is the model's reading of R171 (notes/assumptions/25.md, 1.md). (The model's reading, not the manual's words: notes/assumptions/1.md, 25.md, 26.md, 45.md.) -/
def Obligations.SwitchEventsMoveOneSwitch : Prop :=
  ∀ (enabled : Bool) (c : ChannelId) (s : State),
    exec (.busMasteringChange enabled) s = .next
        { s with port := { s.port with busMastering := enabled }
                 proc := { s.proc with read := if enabled = true ∧ s.proc.state = .fetching ∧ s.proc.read = none then some ⟨s.regs.cmdBase + 64 * s.regs.cmdHead, 64⟩
                                       else s.proc.read } }
    ∧ exec .hostPortLinkUp s = .next { s with port := { s.port with linkUp := true } }
    ∧ exec (.messageSignalledInterruptsChange enabled) s = .next { s with port := { s.port with msiEnabled := enabled } }
    ∧ exec (.triggerInputLow c) s = .next (s.upd c fun ch => { ch with timer := { ch.timer with inputHigh := false } })
    ∧ exec (.carrierPresent c) s = .next (s.upd c fun ch => { ch with link := { ch.link with carrier := true } })
    ∧ (s.port.linkUp = false → exec .portDown s = .next s)
    ∧ (s.regs.iface = .halted → exec .portDown s = .next { s with port := { s.port with linkUp := false } })
    ∧ ∃ t, exec .portDown s = .next t ∧ t.port.linkUp = false
      ∧ (s.port.linkUp = true → s.regs.iface ≠ .halted → t.regs.iface = .halted ∧ t.regs.haltCause = .portDown)

/-! ## HALTED -/

/-- R171, R95, R129, R149, R163: each of the three causes halts an interface that is not HALTED. Cause recorded; processor IDLE, its record discarded with its credits; pools, memory, working and committed sets stay; one error message where enabled and delivered. OFF channels stay as they are. A FAULTED channel is OFF and its STOPPED (HALT) offered. A channel in a run stops as by STOP with ABORT: timer IDLE, HALT sent, frames aborted; a frame whose header is not handed posts FRAME_DROPPED (ABORTED) with its descriptor, its captures close, and STOPPED (HALT) follows with OFF; while the port holds a write of its frames the end waits. A fault whose closes still wait is followed by STOPPED (HALT); a STOP with ABORT already taken has its CMD_RESULT after its closes. (The model's reading, not the manual's words: notes/assumptions/6.md, 8.md, 15.md, 17.md, 25.md, 27.md, 37.md, 39.md, 41.md.) -/
def Obligations.HaltStopsProcessorAndChannels : Prop :=
  ∀ (i : Instr) (cause : HaltCause) (s : State), s.regs.iface ≠ .halted → s.ledger → s.rowsSound → (∀ c : ChannelId, (s.ch c).queueSound) →
    ((∃ value, i = .cmdTailWrite value ∧ (∃ k, 4 ≤ k ∧ k ≤ 12 ∧ s.regs.cmdSize.toNat = 2 ^ k) ∧ s.regs.cmdSize.toNat ≤ value.toNat
          ∧ cause = .ringIndex)
      ∨ (i = .fetchComplete .current .error ∧ s.proc.read ≠ none ∧ cause = .fetchError)
      ∨ (i = .portDown ∧ s.port.linkUp = true ∧ cause = .portDown)) →
    ∃ (t : State) (r : ChannelId → List Completion) (last : List Completion), exec i s = .next t
      ∧ t.regs = { s.regs with iface := .halted, haltCause := cause, cmdHead := t.regs.cmdHead } ∧ t.proc.state = .idle
      ∧ t.pools = s.pools ∧ t.mem = s.mem ∧ t.pending = s.pending
      ∧ t.cpl = { s.cpl with queue := t.cpl.queue, reserved := t.cpl.reserved }
      ∧ t.cpl.queue = s.cpl.queue ++ r 0 ++ r 1 ++ r 2 ++ r 3 ++ last
      ∧ (s.waitingStop = none → t.proc = { state := .idle, hand := none, read := none } ∧ t.regs.cmdHead = s.regs.cmdHead ∧ last = [])
      ∧ (∀ d ∈ s.waitingStop, ∀ h ∈ s.proc.hand,
          ((t.ch d).frames ≠ [] → t.proc = { state := .idle, hand := some h, read := none } ∧ t.regs.cmdHead = s.regs.cmdHead ∧ last = [])
          ∧ ((t.ch d).frames = [] → t.proc = { state := .idle, hand := none, read := none }
            ∧ t.regs.cmdHead = (s.regs.cmdHead + 1) % s.regs.cmdSize.toNat ∧ last = [cmdResultRecord h .ok none]))
      ∧ (∀ c : ChannelId,
          (t.ch c).table.working = (s.ch c).table.working ∧ (t.ch c).table.committed = (s.ch c).table.committed
          ∧ (t.ch c).table.genCounter = (s.ch c).table.genCounter
          ∧ ((t.ch c).frames = [] → (t.ch c).state = .off ∧ (t.ch c).standing = false ∧ (t.ch c).ending = none ∧ (t.ch c).table.idle)
          ∧ ((s.ch c).rowWrite = none → (s.ch c).headerWrite = none → (t.ch c).frames = [])
          ∧ ((s.ch c).state = .off → t.ch c = s.ch c ∧ r c = [])
          ∧ ((s.ch c).state = .faulted →
              t.ch c = { s.ch c with state := .off } ∧ r c = [.channelEvent c (s.ch c).timer.run (.stopped .halt) (s.ch c).timer.nextSeq]
              ∨ t.ch c = { s.ch c with state := .off, lostEvents := min ((s.ch c).lostEvents + 1) 65535 } ∧ r c = []
                ∧ 61 ≤ s.cpl.queue.length + s.cpl.reserved)
          ∧ ((s.ch c).state.inRun = true → (s.ch c).ending = none →
              (t.ch c).timer = { (s.ch c).timer with state := .idle, line := 0, lineTime := 0, pending := none }
              ∧ (t.ch c).link = { (s.ch c).link with sent := (s.ch c).link.sent ++ [.halt] } ∧ (t.ch c).combiner.serving = none
              ∧ (∀ f ∈ (t.ch c).frames, f.flags.aborted = true ∨ f.stage = .closing ∧ (t.ch c).headerWrite.isSome = true)
              ∧ ((t.ch c).frames ≠ [] → (t.ch c).ending = some ⟨.stopped .halt, false⟩ ∧ (t.ch c).state = (s.ch c).state
                ∧ (t.ch c).standing = true ∧ (t.ch c).table = (s.ch c).table)
              ∧ s.abortPosts t c false (.stopped .halt) (r c))
          ∧ (∀ e ∈ (s.ch c).ending,
              ((t.ch c).frames ≠ [] → (t.ch c).state = (s.ch c).state
                ∧ (t.ch c).ending = some ⟨e.event, match e.event with | .stopped _ => e.thenHalt | .faulted _ => true⟩)
              ∧ ∀ f tag, (s.ch c).frames = [f] → f.flags.aborted = true → (s.ch c).rowWrite = none → (s.ch c).headerWrite = none →
                f.tag = some tag → f.credit = true → s.cpl.queue.length + s.cpl.reserved < 61 →
                r c = f.droppedAborted c tag :: (s.ch c).closedAfter c tag false
                  ++ (s.ch c).endRecords c ((s.ch c).capturesAfter tag false) e.event
                  ++ match e.event with
                    | .stopped _ => []
                    | .faulted _ => [.channelEvent c (s.ch c).timer.run (.stopped .halt) (s.ch c).timer.nextSeq])
          ∧ ∀ e f g first, (s.ch c).ending = some e → (s.ch c).frames = [f, g] → (s.ch c).rowWrite = none → (s.ch c).headerWrite = none →
              f.tag.isSome = f.credit → g.tag.isSome = g.credit → s.cpl.queue.length + s.cpl.reserved < 61 →
              first = { s.ch c with captures := (s.ch c).abortCaptures f } →
              r c = (s.ch c).abortRecords c f ++ first.abortRecords c g ++ (s.ch c).endRecords c (first.abortCaptures g) e.event
                ++ match e.event with
                  | .stopped _ => []
                  | .faulted _ => [.channelEvent c (s.ch c).timer.run (.stopped .halt) (s.ch c).timer.nextSeq])
      ∧ t.port.linkUp = (if cause = .portDown then false else s.port.linkUp)
      ∧ t.port.messages = s.port.messages
          ++ if s.regs.intEnable = true ∧ t.port.linkUp = true ∧ s.port.msiEnabled = true then [.error] else []

/-- R171, R173: HALTED is left only by a reset: every other command taken in HALTED that answers a next state leaves the interface HALTED with its halt cause. PORT_DOWN and HOST_PORT_LINK_UP are among them. -/
def Obligations.HaltedIsLeftByResetAlone : Prop :=
  ∀ (i : Instr) (s t : State), s.regs.iface = .halted → i ≠ .powerOn → (∀ cause, i ≠ .functionReset cause) → exec i s = .next t →
    t.regs.iface = .halted ∧ t.regs.haltCause = s.regs.haltCause

/-! ## The command processor -/

/-- R134, R136, R173: FETCH_COMPLETE. Data of the read the processor waits for are the record in hand, as the bytes read, from the slot the head names; its whole credit need (START, CAPTURE, QUERY 2; STOP 2 where the channel is FAULTED; else 1) is reserved if free, and the processor is EXECUTING, else it holds none and is in WAIT_CREDIT. A completion for no read of the processor changes nothing; one of an abandoned read takes the oldest of those away and nothing else. (The model's reading, not the manual's words: notes/assumptions/1.md, 26.md.) -/
def Obligations.FetchCompleteTakesTheRecord : Prop :=
  ∀ (s : State) (result : FetchResult) (bytes : List Byte) (need : Nat),
    exec (.fetchComplete .abandoned result) s
        = .next { s with port := { s.port with abandonedReads := s.port.abandonedReads.tail } }
    ∧ (s.proc.read = none → exec (.fetchComplete .current result) s = .next s)
    ∧ (s.proc.read ≠ none →
        need = (match commandOf bytes with
          | .start _ => 2
          | .capture _ _ _ _ _ => 2
          | .query _ _ => 2
          | .stop c _ => if (s.ch c).state = .faulted then 2 else 1
          | _ => 1) →
        (s.cpl.queue.length + s.cpl.reserved + need ≤ 64 →
          exec (.fetchComplete .current (.data bytes)) s = .next
            { s with cpl := { s.cpl with reserved := s.cpl.reserved + need }
                     proc := { state := .executing, hand := some ⟨s.regs.cmdHead, bytes, need, false⟩, read := none } })
        ∧ (64 < s.cpl.queue.length + s.cpl.reserved + need →
          exec (.fetchComplete .current (.data bytes)) s = .next
            { s with proc := { state := .waitCredit, hand := some ⟨s.regs.cmdHead, bytes, 0, false⟩, read := none } }))

/-- 11.2, R176: the fields of each kind of command record are read from the bytes 11.2 gives them, whatever the reserved bytes, the unnamed flag bits and the slots beyond the record hold; of a SET exactly the slots the presence mask marks. -/
def Obligations.CommandRecordsReadAsLaidOut : Prop :=
  ∀ (t : Fin 4) (flags r3 r6 r7 : Byte) (id : BitVec 16) (rest : List Byte),
    (∀ (mask : BitVec 16) (mode depth flip source stretch gain : Byte) (vStart vRows hStart hWidth lp lf exposure : BitVec 16),
      commandOf ([1, byteOf t.val, flags, r3] ++ leBytes 2 id.toNat ++ [r6, r7] ++ leBytes 2 mask.toNat
          ++ [mode, depth, flip, source, stretch, gain] ++ leBytes 2 vStart.toNat ++ leBytes 2 vRows.toNat ++ leBytes 2 hStart.toNat
          ++ leBytes 2 hWidth.toNat ++ leBytes 2 lp.toNat ++ leBytes 2 lf.toNat ++ leBytes 2 exposure.toNat ++ rest)
        = .set t ⟨flags.getLsbD 0, flags.getLsbD 1, flags.getLsbD 2⟩
            { mode := if mask.getLsbD 0 then some mode.toNat else none
              depth := if mask.getLsbD 1 then some depth.toNat else none
              flip := if mask.getLsbD 2 then some flip.toNat else none
              vStart := if mask.getLsbD 3 then some vStart.toNat else none
              vRows := if mask.getLsbD 4 then some vRows.toNat else none
              hStart := if mask.getLsbD 5 then some hStart.toNat else none
              hWidth := if mask.getLsbD 6 then some hWidth.toNat else none
              gain := if mask.getLsbD 7 then some gain.toNat else none
              lp := if mask.getLsbD 8 then some lp.toNat else none
              lf := if mask.getLsbD 9 then some lf.toNat else none
              stretch := if mask.getLsbD 10 then some stretch.toNat else none
              startSource := if mask.getLsbD 11 then some source.toNat else none
              exposure := if mask.getLsbD 12 then some exposure.toNat else none })
    ∧ commandOf ([2, byteOf t.val, flags, r3] ++ leBytes 2 id.toNat ++ [r6, r7] ++ rest) = .start t
    ∧ commandOf ([3, byteOf t.val, flags, r3] ++ leBytes 2 id.toNat ++ [r6, r7] ++ rest) = .stop t (flags.getLsbD 0)
    ∧ (∀ (pool : Fin 4) (r9 : Byte) (tag count guardGen : BitVec 16),
      commandOf ([4, byteOf t.val, flags, r3] ++ leBytes 2 id.toNat ++ [r6, r7] ++ [byteOf pool.val, r9] ++ leBytes 2 tag.toNat
          ++ leBytes 2 count.toNat ++ leBytes 2 guardGen.toNat ++ rest)
        = .capture t pool tag count.toNat (if flags.getLsbD 0 then some guardGen else none))
    ∧ (∀ tag : BitVec 16, commandOf ([5, byteOf t.val, flags, r3] ++ leBytes 2 id.toNat ++ [r6, r7] ++ leBytes 2 tag.toNat ++ rest) = .cancel t tag)
    ∧ (∀ (gap : List Byte) (descs : List Descriptor), gap.length = 7 → 1 ≤ descs.length → descs.length ≤ 3 →
      commandOf ([6, byteOf t.val, flags, r3] ++ leBytes 2 id.toNat ++ [r6, r7] ++ [byteOf descs.length] ++ gap
          ++ descs.flatMap (fun d => leBytes 8 d.addr.toNat ++ leBytes 4 d.length.toNat ++ leBytes 4 d.id.toNat) ++ rest)
        = .postBuffers t descs)
    ∧ commandOf ([7, byteOf t.val, flags, r3] ++ leBytes 2 id.toNat ++ [r6, r7] ++ rest) = .reclaim t
    ∧ commandOf ([8, byteOf t.val, flags, r3] ++ leBytes 2 id.toNat ++ [r6, r7] ++ rest) = .query t (flags.getLsbD 0)
    ∧ ∀ (kind b : Byte), halfAt ([kind, b, flags, r3] ++ leBytes 2 id.toNat ++ [r6, r7] ++ rest) 4 = id

/-- R135, R137, R176: RECORD_REJECTED. A record whose kind is not 1 to 8 (BAD_KIND), else whose target is above 3 (BAD_TARGET), else a CAPTURE with a pool above 3 (BAD_TARGET) or a POST_BUFFERS with a count of 0 or above 3 (BAD_FIELD), is answered with that code, and no block but the processor and the holding queue changes. (The model's reading, not the manual's words: notes/assumptions/2.md.) -/
def Obligations.RecordChecksRejectInOrder : Prop :=
  ∀ (s : State) (h : Hand) (code : ResultCode), s.proc.state = .executing → s.proc.hand = some h → h.taken = false →
    (((byteAt h.bytes 0).toNat = 0 ∨ 8 < (byteAt h.bytes 0).toNat) ∧ code = .badKind
      ∨ 1 ≤ (byteAt h.bytes 0).toNat ∧ (byteAt h.bytes 0).toNat ≤ 8 ∧ 3 < (byteAt h.bytes 1).toNat ∧ code = .badTarget
      ∨ byteAt h.bytes 0 = 4 ∧ (byteAt h.bytes 1).toNat ≤ 3 ∧ 3 < (byteAt h.bytes 8).toNat ∧ code = .badTarget
      ∨ byteAt h.bytes 0 = 6 ∧ (byteAt h.bytes 1).toNat ≤ 3 ∧ ((byteAt h.bytes 8).toNat = 0 ∨ 3 < (byteAt h.bytes 8).toNat)
          ∧ code = .badField) →
    ∃ t, exec .recordRejected s = .next t ∧ s.answered t code none [] ∧ s.answerFrame t ∧ s.blocksKept t

/-- The model's choice (notes/assumptions/1.md): a command of the command processor that the record in hand is not, or whose record is not EXECUTING, is not taken and changes nothing. -/
def Obligations.CommandsNotOfferedChangeNothing : Prop :=
  ∀ s : State,
    ((∀ code, s.presented ≠ some (.rejected code)) → exec .recordRejected s = .next s)
    ∧ ((∀ c flags edits, s.presented ≠ some (.set c flags edits)) → exec .set s = .next s)
    ∧ ((∀ c, s.presented ≠ some (.start c)) → exec .start s = .next s)
    ∧ ((∀ c abort, s.presented ≠ some (.stop c abort)) → exec .stop s = .next s)
    ∧ ((∀ c pool tag count guardGen, s.presented ≠ some (.capture c pool tag count guardGen)) → exec .capture s = .next s)
    ∧ ((∀ c tag, s.presented ≠ some (.cancel c tag)) → exec .cancel s = .next s)
    ∧ ((∀ pool descs, s.presented ≠ some (.postBuffers pool descs)) → exec .postBuffers s = .next s)
    ∧ ((∀ pool, s.presented ≠ some (.reclaim pool)) → exec .reclaim s = .next s)
    ∧ ((∀ c clear, s.presented ≠ some (.query c clear)) → exec .query s = .next s)

/-! ## Settings -/

/-- R24, R25, R26, R138: SET, in every channel state. The trial copy is the working set, with REVERT the committed set (every field absent where there is none), with the record's present fields written in. A field out of range is BAD_FIELD; with HOLD the trial copy becomes the working set and no generation is given; else a failed combination rule is BAD_COMBINATION, and otherwise the trial copy becomes the working and the committed set under the next generation, with the record's REPORT flag. Neither rejection changes the channel, and nothing but the settings table is written. -/
def Obligations.SetTakesOneOfFourOutcomes : Prop :=
  ∀ (s : State) (c : ChannelId) (flags : SetFlags) (edits : RawEdits) (trial : Settings) (gen : Gen),
    s.presented = some (.set c flags edits) →
    trial = (if flags.revert then
        match (s.ch c).table.committed with
        | none => Settings.absent
        | some k => k.fields
      else (s.ch c).table.working).edited edits →
    gen = (s.ch c).table.genCounter + 1 →
    ∃ t, exec .set s = .next t ∧ s.answerFrame t ∧ s.othersKept t c
      ∧ (edits.inRange = false → s.answered t .badField none [] ∧ s.blocksKept t)
      ∧ (edits.inRange = true → flags.hold = true → s.answered t .ok none []
          ∧ (t.ch c).table.working = trial ∧ (t.ch c).table.committed = (s.ch c).table.committed
          ∧ (t.ch c).table.genCounter = (s.ch c).table.genCounter
          ∧ (s.regs.iface ≠ .quiescing → t.ch c = { s.ch c with table := { (s.ch c).table with working := trial } }))
      ∧ (edits.inRange = true → flags.hold = false → trial.combinationOk (s.ch c).link.geometry = true → s.answered t .ok (some gen) []
          ∧ (t.ch c).table.working = trial ∧ (t.ch c).table.committed = some ⟨trial, gen, flags.report⟩ ∧ (t.ch c).table.genCounter = gen
          ∧ (s.regs.iface ≠ .quiescing → t.ch c =
              { s.ch c with table := { (s.ch c).table with working := trial, committed := some ⟨trial, gen, flags.report⟩, genCounter := gen } }))
      ∧ (edits.inRange = true → flags.hold = false → trial.combinationOk (s.ch c).link.geometry = false →
          s.answered t .badCombination none [] ∧ s.blocksKept t)

/-- R21, R24, R176: the range check of a SET, field by field, and the writing of its present fields: those are replaced or made present, the others stand. The codes of mode (0 FULL, 1 MEAN2, 2 MEAN3, 3 SKIP2, 4 VBIN4), flip (0 NORMAL, 1 INVERTED) and start source (0 TIMER, 1 TRIGGER) are those of 11.2, and a depth is its number of bits. -/
def Obligations.RangeCheckAndEditFollowTheTable : Prop :=
  ∀ (e : RawEdits) (s : Settings),
    (e.inRange = true ↔
      (∀ n ∈ e.mode, n ≤ 4) ∧ (∀ n ∈ e.depth, n = 10 ∨ n = 12) ∧ (∀ n ∈ e.flip, n ≤ 1) ∧ (∀ n ∈ e.vStart, n ≤ 3071)
      ∧ (∀ n ∈ e.vRows, 16 ≤ n ∧ n ≤ 3072) ∧ (∀ n ∈ e.hStart, n ≤ 4095) ∧ (∀ n ∈ e.hWidth, 64 ≤ n ∧ n ≤ 4096) ∧ (∀ n ∈ e.gain, n ≤ 255)
      ∧ (∀ n ∈ e.lp, 400 ≤ n ∧ n ≤ 65535) ∧ (∀ n ∈ e.lf, 40 ≤ n ∧ n ≤ 65535) ∧ (∀ n ∈ e.stretch, n ≤ 15) ∧ (∀ n ∈ e.startSource, n ≤ 1)
      ∧ ∀ n ∈ e.exposure, 1 ≤ n ∧ n ≤ 65535)
    ∧ (e.inRange = true →
      ((s.edited e).mode.map fun m => match m with | .full => 0 | .mean2 => 1 | .mean3 => 2 | .skip2 => 3 | .vbin4 => 4)
          = e.mode.or (s.mode.map fun m => match m with | .full => 0 | .mean2 => 1 | .mean3 => 2 | .skip2 => 3 | .vbin4 => 4)
      ∧ ((s.edited e).depth.map fun d => match d with | .d10 => 10 | .d12 => 12) = e.depth.or (s.depth.map fun d => match d with | .d10 => 10 | .d12 => 12)
      ∧ ((s.edited e).flip.map fun x => match x with | .normal => 0 | .inverted => 1) = e.flip.or (s.flip.map fun x => match x with | .normal => 0 | .inverted => 1)
      ∧ (s.edited e).startSource.map (fun x => if x = .timer then 0 else 1) = e.startSource.or (s.startSource.map fun x => if x = .timer then 0 else 1)
      ∧ (s.edited e).vStart = e.vStart.or s.vStart ∧ (s.edited e).vRows = e.vRows.or s.vRows ∧ (s.edited e).hStart = e.hStart.or s.hStart
      ∧ (s.edited e).hWidth = e.hWidth.or s.hWidth ∧ (s.edited e).gain = e.gain.or s.gain ∧ (s.edited e).lp = e.lp.or s.lp
      ∧ (s.edited e).lf = e.lf.or s.lf ∧ (s.edited e).stretch = e.stretch.or s.stretch ∧ (s.edited e).exposure = e.exposure.or s.exposure)

/-- R28: the combination rules are the ten checks, each made where every field it names is present and, for C1, C5, C6, C7 and C8, a head geometry is held. -/
def Obligations.CombinationRulesAreTheTenChecks : Prop :=
  ∀ (s : Settings) (geometry : Option Geometry),
    s.combinationOk geometry = true ↔
      (∀ g ∈ geometry, ∀ a ∈ s.vStart, ∀ n ∈ s.vRows, a + n ≤ g.height)
      ∧ (∀ m ∈ s.mode, ∀ n ∈ s.vRows, (match m with | .full => 1 | .mean2 => 2 | .mean3 => 3 | .skip2 => 2 | .vbin4 => 4) ∣ n)
      ∧ (∀ m ∈ s.mode, ∀ n ∈ s.hStart, 8 * (match m with | .full => 1 | .mean2 => 2 | .mean3 => 3 | .skip2 => 2 | .vbin4 => 1) ∣ n)
      ∧ (∀ m ∈ s.mode, ∀ n ∈ s.hWidth, 8 * (match m with | .full => 1 | .mean2 => 2 | .mean3 => 3 | .skip2 => 2 | .vbin4 => 1) ∣ n)
      ∧ (∀ g ∈ geometry, ∀ a ∈ s.hStart, ∀ n ∈ s.hWidth, a + n ≤ g.width)
      ∧ (∀ g ∈ geometry, ∀ d ∈ s.depth, (d = .d10 → g.depth10 = true) ∧ (d = .d12 → g.depth12 = true))
      ∧ (∀ g ∈ geometry, ∀ n ∈ s.gain, n ≤ g.maxGain)
      ∧ (∀ g ∈ geometry, ∀ lp ∈ s.lp, ∀ d ∈ s.depth, 120 ≤ lp ∧ (d = .d12 → g.width ≤ 4 * (lp - 120)) ∧ (d = .d10 → g.width ≤ 8 * (lp - 120)))
      ∧ (∀ lf ∈ s.lf, ∀ n ∈ s.vRows, n + 24 ≤ lf)
      ∧ ∀ e ∈ s.exposure, ∀ lf ∈ s.lf, ∀ st ∈ s.stretch, e + 4 ≤ lf * (st + 1)

/-! ## START and STOP -/

/-- R82, R139: START rejected: a channel that is not OFF (WRONG_STATE), else a link that is DOWN or a head fault flag set (HEAD_NOT_READY), else a committed set that is absent or lacks a field other than gain (INCOMPLETE), else one that fails a combination rule (BAD_COMBINATION). Nothing but the answer is made, and the credits of the record in hand are no longer reserved. -/
def Obligations.StartRejectedByTheFirstFailedCheck : Prop :=
  ∀ (s : State) (c : ChannelId) (code : ResultCode), s.presented = some (.start c) →
    ((s.ch c).state ≠ .off ∧ code = .wrongState
      ∨ (s.ch c).state = .off ∧ ((s.ch c).link.geometry = none ∨ (s.ch c).link.headFault ≠ none) ∧ code = .headNotReady
      ∨ (s.ch c).state = .off ∧ (s.ch c).link.geometry ≠ none ∧ (s.ch c).link.headFault = none
          ∧ (∀ k ∈ (s.ch c).table.committed, k.fields.mode = none ∨ k.fields.depth = none ∨ k.fields.flip = none ∨ k.fields.vStart = none
              ∨ k.fields.vRows = none ∨ k.fields.hStart = none ∨ k.fields.hWidth = none ∨ k.fields.lp = none ∨ k.fields.lf = none
              ∨ k.fields.stretch = none ∨ k.fields.startSource = none ∨ k.fields.exposure = none)
          ∧ code = .incomplete
      ∨ (s.ch c).state = .off ∧ (s.ch c).link.geometry ≠ none ∧ (s.ch c).link.headFault = none
          ∧ (∃ k ∈ (s.ch c).table.committed, ∃ g, k.governing = some g ∧ k.fields.combinationOk (s.ch c).link.geometry = false)
          ∧ code = .badCombination) →
    ∃ t, exec .start s = .next t ∧ s.answered t code none [] ∧ s.answerFrame t ∧ s.blocksKept t
      ∧ (s.ledger → s.regs.iface ≠ .quiescing → t.cpl.reserved = s.channelCredits)

/-- R83, R17, R41, R139, R136: START accepted with the TRIGGER source: the channel is STARTING with its standing credit, no fault cause and no lost event; the committed set is latched and active with its exposure loaded and the next frame start marked frame 0; the timer is WAITING in the next run with next sequence and backlog 0; the end-miss and stray counters are 0 and the ORDER of frame 0 is sent; the first standing capture is OPEN; and the CMD_RESULT carries the generation. (The model's reading, not the manual's words: notes/assumptions/17.md.) -/
def Obligations.StartAcceptedWaitsForItsTrigger : Prop :=
  ∀ (s : State) (c : ChannelId) (k : CommittedSet) (g : GoverningSet), s.presented = some (.start c) → s.ledger →
    (s.ch c).state = .off → (s.ch c).link.geometry ≠ none → (s.ch c).link.headFault = none →
    (s.ch c).table.committed = some k → k.governing = some g → k.fields.combinationOk (s.ch c).link.geometry = true →
    g.fields.startSource = .trigger →
    ∃ t, exec .start s = .next t ∧ s.answered t .ok (some k.gen) [] ∧ s.answerFrame t ∧ s.othersKept t c
      ∧ t.ch c = { s.ch c with
          state := .starting, standing := true, faultCause := none, lostEvents := 0
          table := { (s.ch c).table with latched := some g, active := some g, integration := some ⟨g.fields.exposure, g.gen⟩, frame0Mark := true }
          timer := { (s.ch c).timer with state := .waiting, line := 0, lineTime := 0, pending := some .trigger, nextSeq := 0, run := (s.ch c).timer.run + 1, backlog := 0 }
          link := { (s.ch c).link with endMiss := 0, stray := 0, sent := (s.ch c).link.sent ++ [.order (g.order 0)] }
          captures := openFirst (s.ch c).captures }

/-- R83, R11, R14, R17, R42, R53, R102, R103, R40: START accepted with the TIMER source: frame 0 starts at once after its ORDER. The first context after the last freed takes it; it is settling, takes no buffer, and carries the set's own exposure and generation; the timer runs its period with next sequence 1. The first capture is OPEN: wanting the frame and with a credit free, the frame has its tag, a credit and its place in flight; with none free it is untaken and one lost event is counted. GEN_APPLIED is offered where the set asks for the report: with a credit free it stands in the holding queue before or behind the CMD_RESULT (a free choice, notes/assumptions/13.md), else one lost event is counted. With one credit free that the frame asks for too, exactly one of the two has it (a free choice, notes/assumptions/12.md). The combiner serves the frame with an empty accumulator. (The model's reading, not the manual's words: notes/assumptions/17.md, 46.md, 47.md.) -/
def Obligations.StartAcceptedStartsFrameZero : Prop :=
  ∀ (s : State) (c : ChannelId) (k : CommittedSet) (g : GoverningSet) (n : Nat) (wanted : Prop), s.presented = some (.start c) → s.ledger →
    (s.ch c).state = .off → (s.ch c).link.geometry ≠ none → (s.ch c).link.headFault = none →
    (s.ch c).table.committed = some k → k.governing = some g → k.fields.combinationOk (s.ch c).link.geometry = true →
    g.fields.startSource = .timer → n = s.cpl.queue.length + s.cpl.reserved →
    (wanted ↔ ∃ q ∈ (s.ch c).captures.head?, ∀ x ∈ q.guardGen, (g.gen - x).toNat < 32768) →
    ∃ t, exec .start s = .next t ∧ s.answerFrame t ∧ s.othersKept t c ∧ t.pools = s.pools
      ∧ (t.ch c).state = .starting ∧ (t.ch c).standing = true ∧ (t.ch c).faultCause = none
      ∧ (t.ch c).table = { (s.ch c).table with latched := some g, active := some g, integration := some ⟨g.fields.exposure, g.gen⟩, frame0Mark := false }
      ∧ (t.ch c).timer = { (s.ch c).timer with
          state := .period, line := 0, lineTime := 0, periodLength := g.fields.lf * (g.fields.stretch + 1), lineLength := g.fields.lp
          pending := some .timer, nextSeq := 1, run := (s.ch c).timer.run + 1, backlog := 0 }
      ∧ (t.ch c).link = { (s.ch c).link with endMiss := 0, stray := 0, sent := (s.ch c).link.sent ++ [.order (g.order 0), .mark] }
      ∧ (∃ f, (t.ch c).frames = [f] ∧ f.ctx = (if (s.ch c).lastFreed = some .ctx0 then .ctx1 else .ctx0) ∧ f.stage = .reading ∧ f.seq = 0
          ∧ f.run = (s.ch c).timer.run + 1 ∧ f.settling = true ∧ f.hold = .nothing ∧ f.snapshot = g.fields.snapshot ∧ f.readoutGen = g.gen
          ∧ f.exposure = g.fields.exposure ∧ f.exposureGen = g.gen ∧ f.nextRow = 0 ∧ f.produced = 0 ∧ f.lost = 0
          ∧ f.flags = ⟨false, false, false, false⟩ ∧ f.lostEvents = none ∧ f.noHeader = false
          ∧ (t.ch c).combiner = { serving := some f.ctx, group := 0, rowsInGroup := 0, invalid := false
                                  sums := List.replicate (g.fields.hWidth / g.fields.mode.h) 0 }
          ∧ ((s.ch c).queueSound →
            (f.credit = false → f.tag = none ∧ f.dropReason = none ∧ (t.ch c).captures = openFirst (s.ch c).captures)
            ∧ (f.credit = true → wanted ∧ f.dropReason = some .settling ∧ ∃ q rest, (s.ch c).captures = q :: rest ∧ f.tag = some q.tag
              ∧ (t.ch c).captures = { q with state := .opened, inFlight := q.inFlight + 1 } :: rest)
            ∧ (wanted → n < 64 → g.report = false ∨ n + 2 ≤ 64 → f.credit = true ∧ (t.ch c).lostEvents = 0)
            ∧ ∀ h ∈ s.proc.hand, h.credits = 2 →
              (wanted → 64 ≤ n → f.credit = false ∧ (t.ch c).lostEvents = if g.report then 2 else 1)
              ∧ (¬wanted → (t.ch c).lostEvents = if g.report = true ∧ 64 ≤ n then 1 else 0)
              ∧ (wanted → g.report = true → n = 63 → (t.ch c).lostEvents = 1
                ∧ (f.credit = true → s.answered t .ok (some k.gen) [])
                ∧ (f.credit = false → s.resultAndReport t (cmdResultRecord h .ok (some k.gen)) (.genApplied c ((s.ch c).timer.run + 1) g.gen 0 true)))))
      ∧ (g.report = false → s.answered t .ok (some k.gen) [])
      ∧ (g.report = true → t.proc.hand = none ∧ t.regs.cmdHead = (s.regs.cmdHead + 1) % s.regs.cmdSize.toNat
        ∧ (s.regs.iface = .quiescing → t.regs.iface = .disabled ∧ t.proc.state = .idle)
        ∧ ∀ h ∈ s.proc.hand,
          (n + 2 ≤ 64 ∨ n < 64 ∧ (s.ch c).queueSound ∧ ¬wanted →
            s.resultAndReport t (cmdResultRecord h .ok (some k.gen)) (.genApplied c ((s.ch c).timer.run + 1) g.gen 0 true))
          ∧ (h.credits = 2 → 64 ≤ n → s.answered t .ok (some k.gen) []))

/-- R85, R89, R140, R136: STOP of a channel that is OFF, and without ABORT of one that is STOPPING, is rejected with WRONG_STATE and changes nothing else. While the end of the channel's run waits for aborted frames to close no STOP is taken, and nothing changes. A FAULTED channel goes to OFF where the record holds two credits: STOPPED (CLEARED) and then the CMD_RESULT. With one credit the STOP is handed back short: it takes one free credit, or waits in WAIT_CREDIT, and nothing else changes. (The model's reading, not the manual's words: notes/assumptions/7.md, 32.md.) -/
def Obligations.StopRejectedOrClearsAFault : Prop :=
  ∀ (s : State) (c : ChannelId) (abort : Bool), s.presented = some (.stop c abort) →
    ((s.ch c).ending ≠ none → exec .stop s = .next s)
    ∧ ((s.ch c).ending = none → (s.ch c).state = .off ∨ (s.ch c).state = .stopping ∧ abort = false →
      ∃ t, exec .stop s = .next t ∧ s.answered t .wrongState none [] ∧ s.answerFrame t ∧ s.blocksKept t)
    ∧ ((s.ch c).state = .faulted → (s.ch c).ending = none → ∀ h ∈ s.proc.hand,
      (2 ≤ h.credits → (s.ch c).frames = [] →
        ∃ t, exec .stop s = .next t ∧ s.answerFrame t ∧ s.othersKept t c
          ∧ s.answered t .ok none [.channelEvent c (s.ch c).timer.run (.stopped .cleared) (s.ch c).timer.nextSeq]
          ∧ t.ch c = { s.ch c with state := .off })
      ∧ (h.credits = 1 → s.cpl.queue.length + s.cpl.reserved < 64 →
        exec .stop s = .next { s with cpl := { s.cpl with reserved := s.cpl.reserved + 1 }, proc := { s.proc with state := .executing, hand := some { h with credits := 2 } } })
      ∧ (h.credits = 1 → 64 ≤ s.cpl.queue.length + s.cpl.reserved →
        exec .stop s = .next { s with proc := { s.proc with state := .waitCredit } }))

/-- R86, R87, R18, R74, R111: STOP without ABORT of a channel that is STARTING or RUNNING. Its captures become DRAINING with STOPPED, and those with no frame in flight close in queue order before the CMD_RESULT; a HALT is sent exactly if an ORDER is out for a frame that has not started. With its period running the channel is STOPPING and its timer goes on. Waiting for a trigger the timer is IDLE at once: with a frame in use the channel is STOPPING and waits for it; with none it is OFF, with STOPPED (STOP) before the CMD_RESULT. Frames in use are not touched, whatever their stage. (The model's reading, not the manual's words: notes/assumptions/17.md, 19.md, 37.md.) -/
def Obligations.StopWithoutAbortLetsTheFrameFinish : Prop :=
  ∀ (s : State) (c : ChannelId) (closed : List Completion) (left : List Capture), s.presented = some (.stop c false) → s.ledger → s.rowsSound →
    (s.ch c).state.runs = true → (s.ch c).ending = none →
    closed = ((s.ch c).captures.filter fun k => k.inFlight == 0).map (fun k => .captureClosed
        { channel := c, run := (s.ch c).timer.run, tag := k.tag, pool := k.pool
          reason := if k.state = .draining then k.reason.getD .cancelled else .stopped, delivered := k.delivered }) →
    left = ((s.ch c).captures.filter fun k => k.inFlight != 0).map (fun k =>
        if k.state = .draining then k else { k with state := .draining, reason := some .stopped }) →
    ∃ t, exec .stop s = .next t ∧ s.answerFrame t ∧ s.othersKept t c
      ∧ (t.ch c).link = { (s.ch c).link with sent := (s.ch c).link.sent
          ++ (if (s.ch c).timer.state = .waiting ∨ (s.ch c).timer.periodLength ≤ (s.ch c).timer.line + 16 then [.halt] else []) }
      ∧ (t.ch c).frames = (s.ch c).frames ∧ (t.ch c).rows = (s.ch c).rows ∧ (t.ch c).captures = left
      ∧ ((s.ch c).timer.state = .period → s.answered t .ok none closed ∧ (t.ch c).state = .stopping ∧ (t.ch c).timer = (s.ch c).timer
          ∧ (t.ch c).standing = true ∧ (t.ch c).table = (s.ch c).table)
      ∧ ((s.ch c).timer.state = .waiting →
          (t.ch c).timer = { (s.ch c).timer with state := .idle, line := 0, lineTime := 0, pending := none }
          ∧ ((s.ch c).frames ≠ [] → s.answered t .ok none closed ∧ (t.ch c).state = .stopping ∧ (t.ch c).standing = true
            ∧ (t.ch c).table = (s.ch c).table)
          ∧ ((s.ch c).frames = [] →
            s.answered t .ok none (closed ++ [.channelEvent c (s.ch c).timer.run (.stopped .stop) (s.ch c).timer.nextSeq])
            ∧ (t.ch c).state = .off ∧ (t.ch c).standing = false ∧ (t.ch c).table.idle))

/-- R88, R19, R63, R74, R111, R128, R129: STOP with ABORT of a channel in a run. At once its timer is IDLE and a HALT sent; no queued row but one the port holds stays, the combiner serves no frame, and every frame still in use is ABORTED or has its header handed. The only frame has its header to write first where the interface writes, and else posts FRAME_DROPPED (ABORTED) with the descriptor it holds. With no frame left in use every capture closes, STOPPED (ABORT) and then the CMD_RESULT follow, the sets are absent and the channel is OFF. With a frame left the STOP stays in hand, taken, the command head stays, and the channel keeps its state, standing credit, sets and captures that do not drain until the last close. (The model's reading, not the manual's words: notes/assumptions/6.md, 9.md, 17.md, 27.md, 37.md, 42.md.) -/
def Obligations.StopWithAbortEndsTheRun : Prop :=
  ∀ (s : State) (c : ChannelId), s.presented = some (.stop c true) → s.ledger → s.rowsSound → (s.ch c).queueSound →
    (s.ch c).state.inRun = true → (s.ch c).ending = none →
    ∃ t r, exec .stop s = .next t ∧ s.answerFrame t ∧ s.othersKept t c
      ∧ (t.ch c).timer = { (s.ch c).timer with state := .idle, line := 0, lineTime := 0, pending := none }
      ∧ (t.ch c).link = { (s.ch c).link with sent := (s.ch c).link.sent ++ [.halt] }
      ∧ (t.ch c).combiner.serving = none ∧ (t.ch c).rows.length ≤ 1 ∧ ((s.ch c).rowWrite = none → (t.ch c).rows = [])
      ∧ (∀ f ∈ (t.ch c).frames, f.flags.aborted = true ∨ f.stage = .closing ∧ (t.ch c).headerWrite.isSome = true)
      ∧ s.abortPosts t c s.regs.iface.busWrites (.stopped .abort) r
      ∧ ((t.ch c).frames = [] → s.answered t .ok none r ∧ (t.ch c).state = .off ∧ (t.ch c).ending = none ∧ (t.ch c).standing = false
          ∧ (t.ch c).captures = [] ∧ (t.ch c).table = { (s.ch c).table with latched := none, active := none, integration := none, frame0Mark := false }
          ∧ r.getLast? = some (.channelEvent c (s.ch c).timer.run (.stopped .abort) (s.ch c).timer.nextSeq))
      ∧ ((t.ch c).frames ≠ [] → t.cpl.queue = s.cpl.queue ++ r ∧ t.regs = s.regs
          ∧ (∀ h ∈ s.proc.hand, t.proc = { s.proc with hand := some { h with taken := true } })
          ∧ (t.ch c).ending = some ⟨.stopped .abort, false⟩ ∧ (t.ch c).standing = true ∧ (t.ch c).state = (s.ch c).state
          ∧ (t.ch c).table = (s.ch c).table ∧ (t.ch c).standingCaptures.map Capture.tag = (s.ch c).standingCaptures.map Capture.tag)

/-! ## Captures and buffers -/

/-- R97, R98, R99, R100, R141: CAPTURE, in every channel state. A queue of four is QUEUE_FULL, else a tag in the queue is DUPLICATE_TAG, and neither changes the channel. Otherwise the capture joins the queue's tail, with its whole count remaining and nothing delivered, and keeps the second credit; it is OPEN if the channel is STARTING or RUNNING and had no capture that is not DRAINING, else QUEUED. (While the end of a run waits for aborted frames to close it is not taken yet and nothing changes: the model's reading, notes/assumptions/7.md.) -/
def Obligations.CaptureJoinsTheQueue : Prop :=
  ∀ (s : State) (c : ChannelId) (pool : PoolId) (tag : Tag) (count : Nat) (guardGen : Option Gen),
    s.presented = some (.capture c pool tag count guardGen) →
    ((s.ch c).ending ≠ none → exec .capture s = .next s)
    ∧ (s.ledger → (s.ch c).queueSound → (s.ch c).ending = none → ∃ t, exec .capture s = .next t ∧ s.answerFrame t ∧ s.othersKept t c
      ∧ (4 ≤ (s.ch c).captures.length → s.answered t .queueFull none [] ∧ s.blocksKept t
          ∧ (s.regs.iface ≠ .quiescing → t.cpl.reserved = s.channelCredits))
      ∧ ((s.ch c).captures.length < 4 → (∃ k ∈ (s.ch c).captures, k.tag = tag) → s.answered t .duplicateTag none [] ∧ s.blocksKept t
          ∧ (s.regs.iface ≠ .quiescing → t.cpl.reserved = s.channelCredits))
      ∧ ((s.ch c).captures.length < 4 → (∀ k ∈ (s.ch c).captures, k.tag ≠ tag) → s.answered t .ok none []
          ∧ (s.regs.iface ≠ .quiescing → t.cpl.reserved = s.channelCredits + 1 ∧ t.ch c = { s.ch c with captures := ((s.ch c).captures ++
              [{ tag := tag, pool := pool, count := count, remaining := count, guardGen := guardGen, delivered := 0, inFlight := 0
                 state := if (s.ch c).state.runs = true ∧ (∀ k ∈ (s.ch c).captures, k.state = .draining) then .opened else .queued
                 reason := none }]) })))

/-- R107, R108, R109, R142: CANCEL, in every channel state. A tag not in the queue is NO_SUCH_CAPTURE. A DRAINING capture stays, its reason CANCELLED if it was COMPLETE. A QUEUED or OPEN capture with no frame in flight leaves the queue, its CAPTURE_CLOSED with CANCELLED before the CMD_RESULT; with frames in flight it is DRAINING with CANCELLED; and in a channel that runs the first standing capture is then OPEN. While the end of a run waits for aborted frames to close, a DRAINING capture and an unknown tag are answered so too. (There a CANCEL of a QUEUED or OPEN capture, which the run's end is about to close, is not taken yet and nothing changes: the model's reading, notes/assumptions/7.md.) -/
def Obligations.CancelClosesOrDrains : Prop :=
  ∀ (s : State) (c : ChannelId) (tag : Tag), s.presented = some (.cancel c tag) →
    ((s.ch c).ending ≠ none → (∃ k ∈ (s.ch c).captures, k.tag = tag ∧ k.state ≠ .draining) → exec .cancel s = .next s)
    ∧ ((s.ch c).queueSound → (s.ch c).ending = none ∨ (∀ k ∈ (s.ch c).captures, k.tag = tag → k.state = .draining) → ∃ t, exec .cancel s = .next t ∧ s.answerFrame t ∧ s.othersKept t c
      ∧ ((∀ k ∈ (s.ch c).captures, k.tag ≠ tag) → s.answered t .noSuchCapture none [] ∧ s.blocksKept t)
      ∧ ∀ k ∈ (s.ch c).captures, k.tag = tag →
        (k.state = .draining → s.answered t .ok none []
          ∧ (s.regs.iface ≠ .quiescing → t.ch c = { s.ch c with captures := ((s.ch c).captures.map fun j =>
              if j.tag = tag ∧ j.reason = some .complete then { j with reason := some .cancelled } else j) }))
        ∧ (k.state ≠ .draining → k.inFlight = 0 →
          s.answered t .ok none [.captureClosed { channel := c, run := (s.ch c).timer.run, tag := tag, pool := k.pool, reason := .cancelled, delivered := k.delivered }]
          ∧ (s.regs.iface ≠ .quiescing → t.ch c = { s.ch c with captures := ((if (s.ch c).state.runs = true then openFirst else id)
              ((s.ch c).captures.filter fun j => j.tag != tag)) }))
        ∧ (k.state ≠ .draining → k.inFlight ≠ 0 → s.answered t .ok none []
          ∧ (s.regs.iface ≠ .quiescing → t.ch c = { s.ch c with captures := ((if (s.ch c).state.runs = true then openFirst else id) ((s.ch c).captures.map fun j =>
              if j.tag = tag then { j with state := .draining, reason := some .cancelled } else j)) })))

/-- R115, R116, R143: POST_BUFFERS. A descriptor whose address is no multiple of 64, whose length is no multiple of 64 from 64 to 67,108,864, or that does not lie wholly inside the aperture makes the record BAD_BUFFER; else a pool with no room for all of them makes it POOL_FULL; else all of them join the pool's tail in their order. Every other pool, and in both rejections every pool, is kept. -/
def Obligations.PostBuffersAppendsAllOrNone : Prop :=
  ∀ (s : State) (pool : PoolId) (descs : List Descriptor) (good : Descriptor → Prop), s.presented = some (.postBuffers pool descs) →
    (∀ d, good d ↔ 64 ∣ d.addr.toNat ∧ 64 ∣ d.length.toNat ∧ 64 ≤ d.length.toNat ∧ d.length.toNat ≤ 67108864
      ∧ s.regs.apertureBase.toNat * 1048576 ≤ d.addr.toNat
      ∧ d.addr.toNat + d.length.toNat ≤ s.regs.apertureBase.toNat * 1048576 + s.regs.apertureSize.toNat * 1048576) →
    ∃ t, exec .postBuffers s = .next t ∧ s.answerFrame t ∧ (s.regs.iface ≠ .quiescing → t.chans = s.chans)
      ∧ (∀ p : PoolId, p ≠ pool → t.pools.get p = s.pools.get p)
      ∧ ((∃ d ∈ descs, ¬good d) → s.answered t .badBuffer none [] ∧ t.pools = s.pools)
      ∧ ((∀ d ∈ descs, good d) → 64 < (s.pools.get pool).length + descs.length → s.answered t .poolFull none [] ∧ t.pools = s.pools)
      ∧ ((∀ d ∈ descs, good d) → (s.pools.get pool).length + descs.length ≤ 64 →
          s.answered t .ok none [] ∧ t.pools.get pool = s.pools.get pool ++ descs)

/-- R118, R119, R144 (one removal step for each command, notes/assumptions/3.md): RECLAIM. With the pool empty it ends: CMD_RESULT OK, a step's credit going back. Else, with the step's credit held or free, the oldest descriptor leaves the pool in a BUFFER_RETURNED and the record stays in hand with its result credit; with none free the processor waits in WAIT_CREDIT. -/
def Obligations.ReclaimReturnsTheOldestDescriptor : Prop :=
  ∀ (s : State) (pool : PoolId) (h : Hand), s.presented = some (.reclaim pool) → s.proc.hand = some h → 1 ≤ h.credits →
    (s.pools.get pool = [] → ∃ t, exec .reclaim s = .next t ∧ s.answered t .ok none [] ∧ s.answerFrame t ∧ s.blocksKept t
        ∧ (s.ledger → s.regs.iface ≠ .quiescing → t.cpl.reserved = s.channelCredits))
    ∧ (∀ d rest, s.pools.get pool = d :: rest →
      (2 ≤ h.credits → exec .reclaim s = .next
        { s with pools := s.pools.modify pool fun _ => rest
                 cpl := { s.cpl with queue := s.cpl.queue ++ [.bufferReturned pool d], reserved := s.cpl.reserved - 1 }
                 proc := { s.proc with hand := some { h with credits := h.credits - 1 } } })
      ∧ (h.credits = 1 → s.cpl.queue.length + s.cpl.reserved < 64 → exec .reclaim s = .next
        { s with pools := s.pools.modify pool fun _ => rest, cpl := { s.cpl with queue := s.cpl.queue ++ [.bufferReturned pool d] } })
      ∧ (h.credits = 1 → 64 ≤ s.cpl.queue.length + s.cpl.reserved →
        exec .reclaim s = .next { s with proc := { s.proc with state := .waitCredit } }))

/-- R145, R146, R147: QUERY. The STATUS, with each item as its block holds it when the QUERY is taken, enters the holding queue before the CMD_RESULT. With CLEAR the lost-event, backlog and stray counters are 0 after it, and nothing else of the channel changes; without CLEAR no counter changes. (While the end of a run waits for aborted frames to close it is not taken yet and nothing changes: the model's reading, notes/assumptions/7.md.) -/
def Obligations.QueryReportsThenClearsThreeCounters : Prop :=
  ∀ (s : State) (c : ChannelId) (clear : Bool) (r : Status), s.presented = some (.query c clear) →
    ((s.ch c).ending ≠ none → exec .query s = .next s)
    ∧ (s.ledger → s.rowsSound → (s.ch c).ending = none →
      r = { channel := c, run := (s.ch c).timer.run, state := (s.ch c).state, faultCause := (s.ch c).faultCause
            geometry := (s.ch c).link.geometry, headFault := (s.ch c).link.headFault, nextSeq := (s.ch c).timer.nextSeq
            committedGen := (s.ch c).table.committed.map CommittedSet.gen, latchedGen := (s.ch c).table.latched.map GoverningSet.gen
            activeGen := (s.ch c).table.active.map GoverningSet.gen, queueLength := (s.ch c).captures.length
            lostEvents := (s.ch c).lostEvents, backlog := (s.ch c).timer.backlog, stray := (s.ch c).link.stray
            endMiss := (s.ch c).link.endMiss, clear := clear } →
      ∃ t, exec .query s = .next t ∧ s.answered t .ok none [.status r] ∧ s.answerFrame t ∧ s.othersKept t c
      ∧ t.ch c = (if clear then
            { s.ch c with lostEvents := 0, timer := { (s.ch c).timer with backlog := 0 }, link := { (s.ch c).link with stray := 0 } }
          else s.ch c))

/-! ## The bus writer and the completion writer -/

/-- R157, R61, R125, R127, R174: what the bus writer hands to the port. While the interface is ACTIVE or QUIESCING with bus mastering enabled: the oldest record, where the ring is not full, at the slot of the completion tail with the current phase; the oldest row of a channel's queue at its place in its frame's buffer; the header of an earliest frame in CLOSING at offset 0. In every other interface state, with bus mastering disabled, with one out already, or with nothing waiting, nothing is handed, and nothing changes at all. (The model's reading, not the manual's words: notes/assumptions/1.md, 42.md.) -/
def Obligations.WritesAreHandedUnderTheirConditions : Prop :=
  ∀ (s : State) (c : ChannelId) (may : Prop), (may ↔ (s.regs.iface = .active ∨ s.regs.iface = .quiescing) ∧ s.port.busMastering = true) →
    (∀ r rest, may → s.cpl.write = none → s.cpl.queue = r :: rest → (s.cpl.tail + 1) % s.regs.cplSize.toNat ≠ s.regs.cplHead →
      exec (.writeHandedToHostPort .record) s = .next
        { s with cpl := { s.cpl with write := some ⟨s.regs.cplBaseHi.toNat * 4294967296 + s.regs.cplBaseLo.toNat + 32 * s.cpl.tail, r.bytes s.cpl.phase⟩ } })
    ∧ (¬may ∨ s.cpl.write ≠ none ∨ s.cpl.queue = [] ∨ (s.cpl.tail + 1) % s.regs.cplSize.toNat = s.regs.cplHead →
      exec (.writeHandedToHostPort .record) s = .next s)
    ∧ (∀ r rest f d, may → (s.ch c).rowWrite = none → (s.ch c).rows = r :: rest → (s.ch c).frames.find? (fun f => f.ctx == r.ctx) = some f →
      f.hold = .buffer d →
      exec (.writeHandedToHostPort (.row c)) s = .next (s.upd c fun ch =>
        { ch with rowWrite := some ⟨d.addr.toNat + 64 + r.index * f.snapshot.pitch, r.bytes f.snapshot.pitch⟩ }))
    ∧ (¬may ∨ (s.ch c).rowWrite ≠ none ∨ (s.ch c).rows = [] → exec (.writeHandedToHostPort (.row c)) s = .next s)
    ∧ (∀ f rest d, may → (s.ch c).headerWrite = none → (s.ch c).frames = f :: rest → f.stage = .closing → f.hold = .buffer d →
      exec (.writeHandedToHostPort (.header c)) s = .next (s.upd c fun ch =>
        { ch with headerWrite := some ⟨d.addr.toNat, headerBytes c f d.id⟩ }))
    ∧ (¬may ∨ (s.ch c).headerWrite ≠ none ∨ (∀ f ∈ (s.ch c).frames.head?, f.stage ≠ .closing) →
      exec (.writeHandedToHostPort (.header c)) s = .next s)

/-- R157, R158, R162, R174, R136: COMPLETION_WRITE of a record write the port holds. Its bytes stand in host memory; the record leaves the queue; the tail advances by one round the ring and the phase changes as it wraps; with the armed flag and the interrupt enable set outside HALTED one completion message is sent and the flag cleared; and a processor in WAIT_CREDIT takes the credits it waits for if they are now free. An error is treated as made. Without a write out, none is made where none may be handed, and one that may be handed is handed and made. (The model's reading, not the manual's words: notes/assumptions/1.md, 3.md, 4.md, 14.md, 17.md, 43.md.) -/
def Obligations.CompletionWriteAdvancesTheTail : Prop :=
  ∀ (s : State) (w : BusWrite) (error : Bool),
    (s.cpl.write = some w → ∃ t, exec (.completionWrite .current error) s = .next t
      ∧ s.landed t w error
      ∧ t.cpl.queue = s.cpl.queue.tail ∧ t.cpl.write = none ∧ t.cpl.tail = (s.cpl.tail + 1) % s.regs.cplSize.toNat
      ∧ t.cpl.phase = (if t.cpl.tail = 0 then !s.cpl.phase else s.cpl.phase)
      ∧ (s.cpl.armed = true ∧ s.regs.intEnable = true ∧ s.regs.iface ≠ .halted →
          t.cpl.armed = false
          ∧ t.port.messages = s.port.messages ++ if s.port.linkUp = true ∧ s.port.msiEnabled = true then [.completion] else [])
      ∧ (¬(s.cpl.armed = true ∧ s.regs.intEnable = true ∧ s.regs.iface ≠ .halted) →
          t.cpl.armed = s.cpl.armed ∧ t.port.messages = s.port.messages)
      ∧ t.port = { s.port with messages := t.port.messages } ∧ t.regs = s.regs ∧ t.chans = s.chans ∧ t.pools = s.pools ∧ t.pending = s.pending
      ∧ (s.proc.state ≠ .waitCredit ∨ s.proc.hand = none → t.proc = s.proc ∧ t.cpl.reserved = s.cpl.reserved)
      ∧ (s.proc.state = .waitCredit → ∀ h ∈ s.proc.hand, ∀ want : Nat,
          want = (if h.credits = 0 then s.creditNeed (commandOf h.bytes) else 1) →
          (s.cpl.queue.tail.length + s.cpl.reserved + want ≤ 64 → t.cpl.reserved = s.cpl.reserved + want
            ∧ t.proc = { s.proc with state := .executing, hand := some { h with credits := h.credits + want } })
          ∧ (64 < s.cpl.queue.tail.length + s.cpl.reserved + want → t.cpl.reserved = s.cpl.reserved ∧ t.proc = s.proc)))
    ∧ (s.cpl.write = none →
        (¬((s.regs.iface = .active ∨ s.regs.iface = .quiescing) ∧ s.port.busMastering = true) ∨ s.cpl.queue = []
          ∨ (s.cpl.tail + 1) % s.regs.cplSize.toNat = s.regs.cplHead) →
        exec (.completionWrite .current error) s = .next s)
    ∧ ∃ t, exec (.writeHandedToHostPort .record) s = .next t ∧ exec (.completionWrite .current error) s = exec (.completionWrite .current error) t

/-- R157, R173, R63: a write that its block no longer waits for is made in host memory and changes nothing else: not the tail, the phase or the queue, no row queue and no frame. Where the port holds none of its kind nothing changes. (The model's reading, not the manual's words: notes/assumptions/1.md, 5.md, 14.md.) -/
def Obligations.AbandonedWritesChangeMemoryAlone : Prop :=
  ∀ (s : State) (i : Instr) (claim : WriteClaim) (error : Bool),
    (i = .completionWrite .abandoned error ∧ claim = .record ∨ (∃ c, i = .rowWrite c .abandoned error ∧ claim = .row c)
      ∨ ∃ c, i = .headerWrite c .abandoned error ∧ claim = .header c) →
    ((∀ x ∈ s.port.abandonedWrites, x.1 ≠ claim) → exec i s = .next s)
    ∧ ∀ before w after, s.port.abandonedWrites = before ++ (claim, w) :: after → (∀ x ∈ before, x.1 ≠ claim) →
      ∃ t, exec i s = .next t ∧ s.landed t w error ∧ t.port = { s.port with abandonedWrites := before ++ after }
        ∧ t = { s with mem := t.mem, port := t.port, draws := t.draws }

/-- R50, R61, R57, R59, R124, R128, R129: ROW_WRITE of a row the port holds. Its bytes stand in host memory, it leaves the queue, and a valid one counts as produced. While the earliest frame is not a DRAINING one whose last row this was, nothing else changes. Where it was, and the frame has a header to write, it enters CLOSING with the lost-event counter sampled. Where its header was given up (an aborted frame, in DISABLED or HALTED), it posts FRAME_DROPPED (ABORTED) with its descriptor, and as the only frame in use it ends the run: captures, channel event and the CMD_RESULT of a STOP with ABORT that waits follow. A later frame closes behind it in the same way, or, with its own header to write, enters CLOSING. Without a write out, none is made where none may be handed, and one that may be handed is handed and made. (The model's reading, not the manual's words: notes/assumptions/1.md, 4.md, 6.md, 8.md, 14.md, 27.md, 37.md, 41.md.) -/
def Obligations.RowWriteTakesTheOldestRow : Prop :=
  ∀ (s : State) (c : ChannelId) (error : Bool),
    (∀ w r rest counted, (s.ch c).rowWrite = some w → (s.ch c).rows = r :: rest → s.ledger → s.rowsSound → (s.ch c).queueSound →
      counted = ((s.ch c).frames.map fun f => if f.ctx = r.ctx ∧ r.words.isSome = true then { f with produced := f.produced + 1 } else f) →
      ∃ t, exec (.rowWrite c .current error) s = .next t ∧ s.landed t w error ∧ t.pools = s.pools ∧ t.port = s.port
        ∧ t.pending = s.pending ∧ (s.regs.iface ≠ .quiescing ∨ s.waitingStop ≠ some c → ∀ d, d ≠ c → t.ch d = s.ch d)
        ∧ ((∀ f ∈ (s.ch c).frames.head?, f.stage = .reading ∨ f.stage = .closing ∨ f.ctx ≠ r.ctx ∨ ∃ x ∈ rest, x.ctx = f.ctx) →
            t.ch c = { s.ch c with rows := rest, rowWrite := none, frames := counted } ∧ t.cpl = s.cpl ∧ t.regs = s.regs ∧ t.proc = s.proc)
        ∧ (∀ f d, (s.ch c).frames.head? = some f → f.stage = .draining → f.ctx = r.ctx → (∀ x ∈ rest, x.ctx ≠ f.ctx) →
            f.hold = .buffer d →
            (f.noHeader = false →
              t.ch c = { s.ch c with rows := rest, rowWrite := none, frames := (counted.take 1).map (fun f => { f with stage := .closing, lostEvents := some (s.ch c).lostEvents }) ++ counted.drop 1 }
              ∧ t.cpl = s.cpl ∧ t.regs = s.regs ∧ t.proc = s.proc)
            ∧ (∀ tag, f.noHeader = true → (s.ch c).frames = [f] → f.tag = some tag →
              s.runFollows t c (f.droppedAborted c tag :: (s.ch c).closedAfter c tag false) ((s.ch c).capturesAfter tag false))
            ∧ ∀ tag g posted first, f.noHeader = true → (s.ch c).frames = [f, g] → f.tag = some tag →
              posted = f.droppedAborted c tag :: (s.ch c).closedAfter c tag false → first = { s.ch c with captures := (s.ch c).capturesAfter tag false } →
              (g.hold.isBuffer = true → g.noHeader = false →
                (t.ch c).frames = [{ g with stage := .closing, lostEvents := some (s.ch c).lostEvents }] ∧ (t.ch c).lastFreed = some f.ctx
                ∧ (t.ch c).captures = first.captures ∧ (t.ch c).ending = (s.ch c).ending ∧ (t.ch c).state = (s.ch c).state
                ∧ t.cpl.queue = s.cpl.queue ++ posted ∧ t.regs = s.regs ∧ t.proc = s.proc)
              ∧ (g.hold.isBuffer = false ∨ g.noHeader = true → g.tag.isSome = g.credit → (t.ch c).lastFreed = some g.ctx
                ∧ s.runFollows t c (posted ++ first.abortRecords c g) (first.abortCaptures g))))
    ∧ ((s.ch c).rowWrite = none →
        (¬((s.regs.iface = .active ∨ s.regs.iface = .quiescing) ∧ s.port.busMastering = true) ∨ (s.ch c).rows = []) →
        exec (.rowWrite c .current error) s = .next s)
    ∧ ∃ t, exec (.writeHandedToHostPort (.row c)) s = .next t ∧ exec (.rowWrite c .current error) s = exec (.rowWrite c .current error) t

/-- R87, R105, R124, R125, R126, R128: HEADER_WRITE of the header the port holds for an earliest frame in CLOSING. Its bytes stand in host memory; FRAME_DONE with the frame's numbers, descriptor, flags and counts joins the holding queue; its capture has one frame in flight less and one delivered more (not for an ABORTED frame), and closes behind it if it was DRAINING with this last frame. If it was the only frame in use, a run that goes on is left as it is, a STOPPING one with its timer IDLE makes STOPPED (STOP) and is OFF, and one that a stop or fault ends closes its captures, makes its event and answers a STOP with ABORT that waits. A later frame stays while it is READING or has rows queued; with its rows done it enters CLOSING, or without a header to write posts its own result behind the first, and then the run goes on or ends as with the only frame. Without a write out, none is made where none may be handed, and one that may be handed is handed and made. (The model's reading, not the manual's words: notes/assumptions/1.md, 4.md, 6.md, 8.md, 14.md, 37.md, 41.md.) -/
def Obligations.HeaderWriteDeliversTheFrame : Prop :=
  ∀ (s : State) (c : ChannelId) (error : Bool),
    (∀ w f rest d tag posted caps, (s.ch c).headerWrite = some w → (s.ch c).frames = f :: rest → f.hold = .buffer d → f.tag = some tag →
      s.ledger → s.rowsSound → (s.ch c).queueSound →
      posted = .frameDone { channel := c, run := f.run, seq := f.seq, tag := tag, buffer := d, flags := f.flags, produced := f.produced
                            lost := f.lost } :: (s.ch c).closedAfter c tag (!f.flags.aborted) →
      caps = (s.ch c).capturesAfter tag (!f.flags.aborted) →
      ∃ t, exec (.headerWrite c .current error) s = .next t ∧ s.landed t w error ∧ t.pools = s.pools ∧ t.port = s.port
        ∧ t.pending = s.pending ∧ (s.regs.iface ≠ .quiescing ∨ s.waitingStop ≠ some c → ∀ e, e ≠ c → t.ch e = s.ch e) ∧ (t.ch c).headerWrite = none
        ∧ (∃ more, t.cpl.queue = s.cpl.queue ++ posted ++ more)
        ∧ (rest = [] → s.runFollows t c posted caps ∧ (t.ch c).lastFreed = some f.ctx)
        ∧ (∀ g, rest = [g] →
          (g.stage = .reading ∨ (∃ x ∈ (s.ch c).rows, x.ctx = g.ctx) →
            t.ch c = { s.ch c with frames := [g], lastFreed := some f.ctx, headerWrite := none, captures := caps }
            ∧ t.cpl.queue = s.cpl.queue ++ posted ∧ t.regs = s.regs ∧ t.proc = s.proc)
          ∧ (g.stage = .draining → (∀ x ∈ (s.ch c).rows, x.ctx ≠ g.ctx) →
            (∀ d, g.hold = .buffer d → g.noHeader = false →
              t.ch c = { s.ch c with frames := [{ g with stage := .closing, lostEvents := some (s.ch c).lostEvents }], lastFreed := some f.ctx, headerWrite := none, captures := caps }
              ∧ t.cpl.queue = s.cpl.queue ++ posted ∧ t.regs = s.regs ∧ t.proc = s.proc)
            ∧ (g.hold.isBuffer = false ∨ g.noHeader = true → (t.ch c).frames = [] ∧ (t.ch c).lastFreed = some g.ctx
              ∧ (g.credit = true → ∃ more, t.cpl.queue = s.cpl.queue ++ posted ++ frameDroppedRecord c g :: more)
              ∧ ∀ first, g.tag.isSome = g.credit → first = { s.ch c with captures := caps } →
                s.runFollows t c (posted ++ first.dropRecords c g) (first.abortCaptures g)))))
    ∧ ((s.ch c).headerWrite = none →
        (¬((s.regs.iface = .active ∨ s.regs.iface = .quiescing) ∧ s.port.busMastering = true) ∨ (∀ f ∈ (s.ch c).frames.head?, f.stage ≠ .closing)) →
        exec (.headerWrite c .current error) s = .next s)
    ∧ ∃ t, exec (.writeHandedToHostPort (.header c)) s = .next t ∧ exec (.headerWrite c .current error) s = exec (.headerWrite c .current error) t

/-! ## The frame timer -/

/-- R10: a trigger taken while the channel is OFF, FAULTED or STOPPING is ignored without record: only the trigger filter's own output has risen (R6). In OFF and FAULTED the timer is IDLE. -/
def Obligations.TriggerIsIgnoredOutsideARun : Prop :=
  ∀ (s : State) (c : ChannelId), (s.ch c).state = .off ∨ (s.ch c).state = .faulted ∨ (s.ch c).state = .stopping →
    exec (.trigger c) s = .next (s.upd c fun ch => { ch with timer := { ch.timer with inputHigh := true } })
    ∧ (s.ledger → (s.ch c).state = .off ∨ (s.ch c).state = .faulted → (s.ch c).timer.state = .idle)

/-- R6, R9, R4, R154: a trigger taken in PERIOD with the channel STARTING or RUNNING. With the pending source TRIGGER it is missed: TRIGGER_MISSED names the frame whose period is running if a credit is free, else one lost event is counted, and the period goes on. With another pending source it is ignored, and so is one taken with the timer IDLE, as it is while the end of a run waits for its frames to close. While the filter's output is high there is no rising edge and nothing changes. (The model's reading, not the manual's words: notes/assumptions/1.md, 6.md.) -/
def Obligations.TriggerInPeriodIsMissedOrIgnored : Prop :=
  ∀ (s : State) (c : ChannelId),
    ((s.ch c).timer.inputHigh = true → exec (.trigger c) s = .next s)
    ∧ ((s.ch c).timer.inputHigh = false → (s.ch c).timer.state = .idle →
      exec (.trigger c) s = .next (s.upd c fun ch => { ch with timer := { ch.timer with inputHigh := true } }))
    ∧ ((s.ch c).timer.inputHigh = false → (s.ch c).state.runs = true → (s.ch c).timer.state = .period →
      ((s.ch c).timer.pending ≠ some .trigger →
        exec (.trigger c) s = .next (s.upd c fun ch => { ch with timer := { ch.timer with inputHigh := true } }))
      ∧ ((s.ch c).timer.pending = some .trigger → s.cpl.queue.length + s.cpl.reserved < 64 →
        exec (.trigger c) s = .next (({ s with cpl := { s.cpl with queue := s.cpl.queue ++ [Completion.triggerMissed c (s.ch c).timer.run ((s.ch c).timer.nextSeq - 1)] } }).upd c
          fun ch => { ch with timer := { ch.timer with inputHigh := true } }))
      ∧ ((s.ch c).timer.pending = some .trigger → 64 ≤ s.cpl.queue.length + s.cpl.reserved →
        exec (.trigger c) s = .next (s.upd c
          fun ch => { ch with timer := { ch.timer with inputHigh := true }, lostEvents := min (ch.lostEvents + 1) 65535 })))

/-- R8, R5, R11, R12, R14, R15, R16, R35, R36, R38, R53, R84: a frame starts on a trigger taken in WAITING, or at a period end with the pending source TIMER. The timer runs the period of the latched set, now the active one, from line 0 and has used one sequence number; the mark is sent; STARTING becomes RUNNING at sequence 1. With a free context (the other than the one in use, else the one freed longer ago) it carries the new set's snapshot and generation, the exposure and generation of the integration record as it stood, and the settling flag by the five transition-class fields against the set before. With both in use nothing but the backlog counter counts the frame. (The model's reading, not the manual's words: notes/assumptions/17.md, 19.md, 46.md.) -/
def Obligations.FrameStartTakesTheLatchedSet : Prop :=
  ∀ (s : State) (c : ChannelId) (i : Instr) (k : GoverningSet), s.startsFrame c i → (s.ch c).table.latched = some k →
    ∃ t, exec i s = .next t ∧ t.regs = s.regs ∧ t.proc = s.proc ∧ t.mem = s.mem ∧ t.port = s.port ∧ t.pending = s.pending
      ∧ (∀ d, d ≠ c → t.ch d = s.ch d)
      ∧ (t.ch c).timer = { (s.ch c).timer with
          state := .period, line := 0, lineTime := 0, periodLength := k.fields.lf * (k.fields.stretch + 1), lineLength := k.fields.lp
          nextSeq := (s.ch c).timer.nextSeq + 1, inputHigh := (t.ch c).timer.inputHigh, backlog := (t.ch c).timer.backlog }
      ∧ (t.ch c).table = { (s.ch c).table with active := some k, integration := some ⟨k.fields.exposure, k.gen⟩, frame0Mark := false }
      ∧ (t.ch c).state = (if (s.ch c).state = .starting ∧ (s.ch c).timer.nextSeq = 1 then .running else (s.ch c).state)
      ∧ (t.ch c).link = { (s.ch c).link with
          sent := (s.ch c).link.sent ++ if (s.ch c).link.geometry.isSome = true then [.mark] else [] }
      ∧ (t.ch c).rows = (s.ch c).rows ∧ (t.ch c).rowWrite = (s.ch c).rowWrite ∧ (t.ch c).headerWrite = (s.ch c).headerWrite
      ∧ ((s.ch c).frames.length < 2 → (t.ch c).timer.backlog = (s.ch c).timer.backlog ∧ ∃ f, (t.ch c).frames = (s.ch c).frames ++ [f]
        ∧ (∀ g ∈ (s.ch c).frames, f.ctx ≠ g.ctx)
        ∧ ((s.ch c).frames = [] → f.ctx = if (s.ch c).lastFreed = some .ctx0 then .ctx1 else .ctx0)
        ∧ f.stage = .reading ∧ f.seq = (s.ch c).timer.nextSeq ∧ f.run = (s.ch c).timer.run ∧ f.readoutGen = k.gen
        ∧ f.snapshot = { mode := k.fields.mode, depth := k.fields.depth, flip := k.fields.flip, vStart := k.fields.vStart
                         vRows := k.fields.vRows, hStart := k.fields.hStart, hWidth := k.fields.hWidth, gain := k.fields.gain.getD 0
                         lp := k.fields.lp, lf := k.fields.lf, stretch := k.fields.stretch, startSource := k.fields.startSource }
        ∧ (∀ e ∈ (s.ch c).table.integration, f.exposure = e.exposure ∧ f.exposureGen = e.gen)
        ∧ (f.settling = false ↔ (s.ch c).table.frame0Mark = false ∧ ∃ p ∈ (s.ch c).table.active, p.fields.mode = k.fields.mode
            ∧ p.fields.depth = k.fields.depth ∧ p.fields.flip = k.fields.flip ∧ p.fields.vStart = k.fields.vStart
            ∧ p.fields.vRows = k.fields.vRows)
        ∧ f.nextRow = 0 ∧ f.produced = 0 ∧ f.lost = 0 ∧ f.flags = ⟨false, false, false, false⟩ ∧ f.lostEvents = none
        ∧ (t.ch c).combiner = { serving := some f.ctx, group := 0, rowsInGroup := 0, invalid := false
                                sums := List.replicate (k.fields.hWidth / k.fields.mode.h) 0 })
      ∧ (2 ≤ (s.ch c).frames.length → (t.ch c).frames = (s.ch c).frames ∧ (t.ch c).timer.backlog = min ((s.ch c).timer.backlog + 1) 65535
        ∧ (t.ch c).captures = (s.ch c).captures ∧ (t.ch c).combiner = (s.ch c).combiner ∧ t.pools = s.pools
        ∧ t.cpl.reserved = s.cpl.reserved)

/-- R27, R40, R42, R154, R155: the offer of GEN_APPLIED at a frame start. It is due exactly if the latched set asks for the report and its generation differs from that of the active set before (which is taken as absent at frame 0). Not due, or with no credit free, no record joins the queue, and in the second case one lost event is counted for the offer and one more for a frame that is wanted; due and with two credits free it joins with the frame's sequence number and settling flag. With one credit free that a wanted frame asks for too, exactly one of the two has it (which is a free choice, notes/assumptions/12.md), and one lost event is counted. -/
def Obligations.GenAppliedIsOfferedAtItsFrameStart : Prop :=
  ∀ (s : State) (c : ChannelId) (i : Instr) (k : GoverningSet) (due : Bool) (wanted : Prop) (record : Bool → Completion),
    s.startsFrame c i → (s.ch c).table.latched = some k →
    (due = true ↔ k.report = true ∧ ((s.ch c).table.frame0Mark = true ∨ ∀ p ∈ (s.ch c).table.active, p.gen ≠ k.gen)) →
    (wanted ↔ (s.ch c).frames.length < 2 ∧ ∃ q, (s.ch c).captures.find? (fun q => q.state == .opened) = some q
      ∧ ∀ g ∈ q.guardGen, (k.gen - g).toNat < 32768) →
    (∀ settling, record settling = .genApplied c (s.ch c).timer.run k.gen (s.ch c).timer.nextSeq settling) →
    ∃ t, exec i s = .next t
      ∧ (due = false ∨ 64 ≤ s.cpl.queue.length + s.cpl.reserved → t.cpl.queue = s.cpl.queue)
      ∧ (due = true → 64 ≤ s.cpl.queue.length + s.cpl.reserved →
          (wanted → (t.ch c).lostEvents = min ((s.ch c).lostEvents + 2) 65535) ∧ (¬wanted → (t.ch c).lostEvents = min ((s.ch c).lostEvents + 1) 65535))
      ∧ (due = true → s.cpl.queue.length + s.cpl.reserved + 2 ≤ 64 ∨ s.cpl.queue.length + s.cpl.reserved < 64 ∧ ¬wanted →
          ∃ settling, t.cpl.queue = s.cpl.queue ++ [record settling] ∧ ((s.ch c).frames.length < 2 → ∀ f ∈ (t.ch c).frames.getLast?, f.settling = settling)
          ∧ (t.ch c).lostEvents = (s.ch c).lostEvents)
      ∧ (due = true → s.cpl.queue.length + s.cpl.reserved = 63 → wanted → (t.ch c).lostEvents = min ((s.ch c).lostEvents + 1) 65535
          ∧ ((∃ settling, t.cpl.queue = s.cpl.queue ++ [record settling]) ∧ (∀ f ∈ (t.ch c).frames.getLast?, f.credit = false)
            ∨ t.cpl.queue = s.cpl.queue ∧ ∀ f ∈ (t.ch c).frames.getLast?, f.credit = true))

/-- R101, R102, R103, R104, R117, R154: what the capture table does for a frame that starts in a free context. Without an OPEN capture, or with a guard newer than its readout generation, it is untaken. Wanted with no credit free it is untaken and one lost event is counted. Otherwise it takes the capture's tag, a credit and its place in flight: settling it takes no descriptor; with an empty pool it is NO_BUFFER; an oldest descriptor shorter than the frame size needed leaves the pool as BUFFER_SMALL; and one long enough is its buffer and counts, at the last of the count completing the capture and opening the next. A GEN_APPLIED due at the frame start changes this only where it and the frame ask for the one free credit: then the frame is taken or untaken as it has the credit or not (a free choice, notes/assumptions/12.md; the offer itself: GenAppliedIsOfferedAtItsFrameStart). -/
def Obligations.CaptureTakesTheFrame : Prop :=
  ∀ (s : State) (c : ChannelId) (i : Instr) (k : GoverningSet) (due : Bool) (n : Nat), s.startsFrame c i → (s.ch c).table.latched = some k →
    (due = true ↔ k.report = true ∧ ((s.ch c).table.frame0Mark = true ∨ ∀ p ∈ (s.ch c).table.active, p.gen ≠ k.gen)) → (s.ch c).frames.length < 2 →
    (s.ch c).queueSound → n = s.cpl.queue.length + s.cpl.reserved →
    ∃ t f, exec i s = .next t ∧ (t.ch c).frames = (s.ch c).frames ++ [f] ∧ (due = false → t.cpl.queue = s.cpl.queue)
      ∧ ((∀ q ∈ (s.ch c).captures, q.state = .opened → ∃ g ∈ q.guardGen, 32768 ≤ (k.gen - g).toNat) →
          s.frameUntaken t c f ∧ (due = false → (t.ch c).lostEvents = (s.ch c).lostEvents))
      ∧ ∀ q ∈ (s.ch c).captures, q.state = .opened → (∀ g ∈ q.guardGen, (k.gen - g).toNat < 32768) →
        (64 ≤ n → s.frameUntaken t c f ∧ (due = false → (t.ch c).lostEvents = min ((s.ch c).lostEvents + 1) 65535))
        ∧ (n < 64 → due = false ∨ n + 2 ≤ 64 → s.frameTaken t c k q f ∧ (t.ch c).lostEvents = (s.ch c).lostEvents)
        ∧ (n = 63 → due = true → (f.credit = true → s.frameTaken t c k q f) ∧ (f.credit = false → s.frameUntaken t c f))

/-- R3, R4, R32, R73, R77, R78, R58: LATCH_POINT. Outside a period that still has its latch point before it, nothing changes. Otherwise the line is 16 before the period's end. A frame still READING stops reading with SHORT, the output rows never finished counted lost, goes on as at a FRAME_END, and counts one end miss. With the channel STARTING or RUNNING the committed set is latched whole, its start source is pending and its ORDER with the next sequence number is sent; in STOPPING neither. A second end miss in a row ends the run with HEAD_SILENT, and HALT is the last message sent to an UP head: the channel is FAULTED where no aborted frame stays in use, and else goes there with the last close. As the only frame in use the one that was READING posts first if it closes at once; with a buffer it is aborted, and has its header to write where the interface writes. (The model's reading, not the manual's words: notes/assumptions/1.md, 6.md, 10.md, 11.md, 17.md, 19.md, 27.md.) -/
def Obligations.LatchPointLatchesAndOrders : Prop :=
  ∀ (s : State) (c : ChannelId) (k : CommittedSet) (g : GoverningSet) (order : LinkMsg),
    ((s.ch c).timer.state ≠ .period ∨ (s.ch c).timer.periodLength ≤ (s.ch c).timer.line + 16 → exec (.latchPoint c) s = .next s)
    ∧ ((s.ch c).timer.state = .period → (s.ch c).timer.line + 16 < (s.ch c).timer.periodLength → (s.ch c).agrees →
        (s.ch c).table.committed = some k → k.governing = some g → (s.ch c).link.endMiss ≤ 2 →
        order = .order { seq := (s.ch c).timer.nextSeq, depth := g.fields.depth, flip := g.fields.flip, vStart := g.fields.vStart
                         vRows := g.fields.vRows, vFactor := g.fields.mode.v
                         rowUse := match g.fields.mode with
                           | .full => .all
                           | .skip2 => .oneInTwo
                           | _ => .combined
                         gain := g.fields.gain.getD 0, lp := g.fields.lp, exposure := g.fields.exposure, startSource := g.fields.startSource } →
        ∃ t, exec (.latchPoint c) s = .next t ∧ t.regs = s.regs ∧ t.proc = s.proc ∧ t.mem = s.mem ∧ t.pools = s.pools
          ∧ (∀ d, d ≠ c → t.ch d = s.ch d)
          ∧ ((s.ch c).reading = none → t.cpl = s.cpl ∧ t.port = s.port
            ∧ ((s.ch c).state.runs = true → t.ch c = { s.ch c with
                timer := { (s.ch c).timer with line := (s.ch c).timer.periodLength - 16, lineTime := 0, pending := some g.fields.startSource }
                table := { (s.ch c).table with latched := some g }
                link := { (s.ch c).link with sent := (s.ch c).link.sent ++ [order] } })
            ∧ ((s.ch c).state = .stopping → t.ch c = { s.ch c with timer := { (s.ch c).timer with line := (s.ch c).timer.periodLength - 16, lineTime := 0 } }))
          ∧ ((s.ch c).reading ≠ none → (s.ch c).rowsSound → (s.ch c).link.endMiss = 0 →
            (t.ch c).link.endMiss = 1 ∧ (t.ch c).combiner.serving = none ∧ (t.ch c).reading = none
            ∧ (∀ f ∈ (s.ch c).frames, f.stage = .reading → ∀ x ∈ (t.ch c).frames, x.ctx = f.ctx → x.seq = f.seq → x.flags.short = true)
            ∧ (∀ f ended, s.ledger → s.rowsSound → (s.ch c).queueSound → (s.ch c).reading = some f →
                ended = { f with stage := .draining, flags := { f.flags with short := true }, lost := f.lost + (f.snapshot.vRows / f.snapshot.mode.v - f.nextRow / f.snapshot.mode.v - (if (s.ch c).combiner.invalid then 1 else 0)) } →
                s.frameEnded t c f ended)
            ∧ ((s.ch c).state.runs = true → (t.ch c).state = (s.ch c).state ∧ (t.ch c).table.latched = some g
                ∧ (t.ch c).timer.pending = some g.fields.startSource ∧ (t.ch c).link.sent = (s.ch c).link.sent ++ [order])
            ∧ ((s.ch c).state = .stopping → (t.ch c).table = (s.ch c).table ∧ (t.ch c).link.sent = (s.ch c).link.sent))
          ∧ ((s.ch c).reading ≠ none → (s.ch c).rowsSound → 1 ≤ (s.ch c).link.endMiss →
            (t.ch c).link.endMiss = 2 ∧ (t.ch c).faultCause = some .headSilent ∧ (t.ch c).timer.state = .idle
            ∧ (t.ch c).timer.nextSeq = (s.ch c).timer.nextSeq
            ∧ (∀ f ended, s.ledger → s.rowsSound → (s.ch c).queueSound → (s.ch c).reading = some f →
                ended = { f with stage := .draining, flags := { f.flags with short := true }, lost := f.lost + (f.snapshot.vRows / f.snapshot.mode.v - f.nextRow / f.snapshot.mode.v - (if (s.ch c).combiner.invalid then 1 else 0)) } →
                (∀ x ∈ (t.ch c).frames, x.ctx = f.ctx → x.lost = ended.lost ∧ x.flags.short = true)
                ∧ ((s.ch c).frames = [f] → (s.ch c).rowWrite = none →
                  (f.hold.isBuffer = true → s.regs.iface.busWrites = true →
                    (t.ch c).frames = [ended.abortedClosing (s.ch c).lostEvents] ∧ t.cpl.queue = s.cpl.queue)
                  ∧ (∀ tag, f.hold.isBuffer = true → s.regs.iface.busWrites = false → f.tag = some tag → f.credit = true →
                    t.cpl.queue = s.cpl.queue ++ f.droppedAborted c tag :: (s.ch c).closedAfter c tag false
                      ++ (s.ch c).endRecords c ((s.ch c).capturesAfter tag false) (.faulted .headSilent))
                  ∧ (f.hold.isBuffer = false → (∀ r ∈ (s.ch c).rows, r.ctx ≠ f.ctx) →
                    (f.tag = none → f.credit = false →
                      t.cpl.queue = s.cpl.queue ++ (s.ch c).endRecords c (s.ch c).captures (.faulted .headSilent))
                    ∧ ∀ tag reason, f.tag = some tag → f.credit = true → f.dropReason = some reason →
                      t.cpl.queue = s.cpl.queue ++ .frameDropped { channel := c, run := f.run, seq := f.seq, tag := tag, reason := reason
                                                                   buffer := f.hold.descriptor } :: (s.ch c).closedAfter c tag false
                        ++ (s.ch c).endRecords c ((s.ch c).capturesAfter tag false) (.faulted .headSilent))))
            ∧ ((t.ch c).frames = [] → (t.ch c).state = .faulted ∧ (t.ch c).table.idle ∧ (t.ch c).standing = false ∧ (t.ch c).ending = none)
            ∧ ((t.ch c).frames ≠ [] → (t.ch c).state = (s.ch c).state ∧ (t.ch c).standing = true
              ∧ (t.ch c).ending = some ⟨.faulted .headSilent, false⟩)
            ∧ ((t.ch c).link.sent = (s.ch c).link.sent ++ [.halt] ∨ (t.ch c).link.sent = (s.ch c).link.sent ++ [order, .halt])))

/-- R5, R87: PERIOD_END. Before the latch point, or with no period running, nothing changes. With the pending source TRIGGER a run's timer waits. In STOPPING the timer is IDLE, and with no frame in use the channel is OFF, its sets absent, and STOPPED (STOP) is queued with the standing credit; with a frame in use, DRAINING with rows queued or CLOSING, it stays STOPPING and nothing else changes. (With the pending source TIMER a frame starts: FrameStartTakesTheLatchedSet.) (The model's reading, not the manual's words: notes/assumptions/1.md, 19.md.) -/
def Obligations.PeriodEndWaitsOrEndsTheRun : Prop :=
  ∀ (s : State) (c : ChannelId),
    ((s.ch c).timer.state ≠ .period ∨ (s.ch c).timer.line + 16 < (s.ch c).timer.periodLength → exec (.periodEnd c) s = .next s)
    ∧ ((s.ch c).timer.state = .period → (s.ch c).timer.periodLength ≤ (s.ch c).timer.line + 16 →
      ((s.ch c).state.runs = true → (s.ch c).timer.pending = some .trigger →
        exec (.periodEnd c) s = .next (s.upd c fun ch => { ch with timer := { ch.timer with state := .waiting, line := 0, lineTime := 0 } }))
      ∧ ((s.ch c).state = .stopping → (s.ch c).agrees → (s.ch c).frames = [] →
        exec (.periodEnd c) s = .next (({ s with cpl := { s.cpl with
            queue := s.cpl.queue ++ [Completion.channelEvent c (s.ch c).timer.run (.stopped .stop) (s.ch c).timer.nextSeq]
            reserved := s.cpl.reserved - 1 } }).upd c fun ch => { ch with
              state := .off, standing := false, timer := { ch.timer with state := .idle, line := 0, lineTime := 0, pending := none }
              table := { ch.table with latched := none, active := none, integration := none, frame0Mark := false } }))
      ∧ ((s.ch c).state = .stopping → s.ledger → s.rowsSound → (s.ch c).frames ≠ [] →
        exec (.periodEnd c) s = .next (s.upd c fun ch => { ch with timer := { ch.timer with state := .idle, line := 0, lineTime := 0, pending := none } })))

/-! ## Heads and their links -/

/-- R90, R91, R19, R66, R68, R70, R112, R128, R129: a channel in a run faults when its carrier is lost or its UP head sends HELLO (LINK_LOST, with no HALT) or HEAD_STATUS FAULT (HEAD_FAULT, with HALT). At once its cause is set and its timer IDLE; no queued row but one the port holds stays, and every frame still in use is ABORTED or has its header handed. The only frame has its header to write first where the interface writes, and else posts FRAME_DROPPED (ABORTED) with the descriptor it holds. With no frame left in use the captures close in queue order with FAULT (those DRAINING with their own reason), FAULTED follows, spending the standing credit, the sets are absent and the channel is FAULTED; else it keeps its state, credit, sets and undrained captures until the last close. (The model's reading, not the manual's words: notes/assumptions/6.md, 9.md, 17.md, 27.md, 37.md, 42.md.) -/
def Obligations.HeadFailureFaultsTheChannel : Prop :=
  ∀ (s : State) (c : ChannelId) (i : Instr) (cause : FaultCause) (code : Byte) (m : HelloMsg), s.ledger → s.rowsSound → (s.ch c).queueSound →
    (s.ch c).state.inRun = true → (s.ch c).ending = none → (s.ch c).link.carrier = true →
    (i = .carrierLost c ∧ cause = .linkLost ∨ i = .hello c m ∧ cause = .linkLost
      ∨ i = .headStatus c (.fault code) ∧ code ≠ 0 ∧ cause = .headFault code) →
    ∃ t r, exec i s = .next t ∧ t.regs = s.regs ∧ t.proc = s.proc ∧ t.mem = s.mem ∧ t.pools = s.pools ∧ t.port = s.port
      ∧ (∀ d, d ≠ c → t.ch d = s.ch d)
      ∧ (t.ch c).faultCause = some cause ∧ t.cpl.queue = s.cpl.queue ++ r
      ∧ (t.ch c).timer = { (s.ch c).timer with state := .idle, line := 0, lineTime := 0, pending := none }
      ∧ (t.ch c).link.sent = (s.ch c).link.sent ++ (if cause = .linkLost then [] else [.halt])
      ∧ (t.ch c).combiner.serving = none ∧ (t.ch c).rows.length ≤ 1 ∧ ((s.ch c).rowWrite = none → (t.ch c).rows = [])
      ∧ (∀ f ∈ (t.ch c).frames, f.flags.aborted = true ∨ f.stage = .closing ∧ (t.ch c).headerWrite.isSome = true)
      ∧ s.abortPosts t c s.regs.iface.busWrites (.faulted cause) r
      ∧ ((t.ch c).frames = [] → (t.ch c).state = .faulted ∧ (t.ch c).standing = false ∧ (t.ch c).ending = none ∧ (t.ch c).captures = []
          ∧ (t.ch c).table = { (s.ch c).table with latched := none, active := none, integration := none, frame0Mark := false }
          ∧ r.getLast? = some (.channelEvent c (s.ch c).timer.run (.faulted cause) (s.ch c).timer.nextSeq))
      ∧ ((t.ch c).frames ≠ [] → (t.ch c).state = (s.ch c).state ∧ (t.ch c).standing = true ∧ (t.ch c).ending = some ⟨.faulted cause, false⟩
          ∧ (t.ch c).table = (s.ch c).table ∧ (t.ch c).standingCaptures.map Capture.tag = (s.ch c).standingCaptures.map Capture.tag)

/-- R65 to R71: the link. Without carrier no message of the head is taken. A HELLO with every field in range leaves the link UP with that geometry, the fault flag clear and the end-miss counter 0; with a field out of range a DOWN link stays as it is and an UP one (a head restart) is DOWN. Loss of carrier leaves it DOWN with the flag clear and both counters as they were. HEAD_STATUS on an UP link: READY clears the head fault flag, FAULT with a code sets it to that code, replacing another; a condition that is neither, a code of 0 and a DOWN link leave everything as it is. A channel that is OFF or FAULTED, or whose run a stop or fault is ending already, is not otherwise touched (another faults: HeadFailureFaultsTheChannel). (The model's reading, not the manual's words: notes/assumptions/29.md.) -/
def Obligations.HeadMessagesAndCarrierMoveTheLink : Prop :=
  ∀ (s : State) (c : ChannelId) (m : HelloMsg) (code : Byte) (condition : HeadCondition) (valid : Prop),
    (valid ↔ 256 ≤ m.width ∧ m.width ≤ 4096 ∧ 64 ≤ m.height ∧ m.height ≤ 3072 ∧ m.depths ≠ [] ∧ (∀ d ∈ m.depths, d = 10 ∨ d = 12) ∧ m.maxGain ≤ 255) →
    ((s.ch c).link.carrier = false → exec (.hello c m) s = .next s)
    ∧ ((s.ch c).link.carrier = true → ∃ t, exec (.hello c m) s = .next t
      ∧ (valid → (t.ch c).link.geometry = some { width := m.width, height := m.height, depth10 := m.depths.contains 10
                                                 depth12 := m.depths.contains 12, maxGain := m.maxGain, revision := m.revision }
          ∧ (t.ch c).link.headFault = none ∧ (t.ch c).link.endMiss = 0)
      ∧ (¬valid → (t.ch c).link.geometry = none ∧ (t.ch c).link.endMiss = (s.ch c).link.endMiss
          ∧ ((s.ch c).link.geometry = none → t = s))
      ∧ (t.ch c).link.stray = (s.ch c).link.stray ∧ (t.ch c).link.carrier = true
      ∧ ((s.ch c).state.inRun = false ∨ (s.ch c).ending ≠ none → t = s.upd c fun ch => { ch with link := (t.ch c).link }) ∧ (t.ch c).link.sent = (s.ch c).link.sent)
    ∧ ((s.ch c).link.carrier = true → (s.ch c).link.geometry.isSome = true →
      exec (.headStatus c .ready) s = .next (s.upd c fun ch => { ch with link := { ch.link with headFault := none } })
      ∧ exec (.headStatus c .neither) s = .next s ∧ exec (.headStatus c (.fault 0)) s = .next s
      ∧ (code ≠ 0 → (s.ch c).state.inRun = false ∨ (s.ch c).ending ≠ none →
          exec (.headStatus c (.fault code)) s = .next (s.upd c fun ch => { ch with link := { ch.link with headFault := some code } }))
      ∧ (code ≠ 0 → ∃ t, exec (.headStatus c (.fault code)) s = .next t ∧ (t.ch c).link.headFault = some code
          ∧ (t.ch c).link.geometry = (s.ch c).link.geometry))
    ∧ ((s.ch c).link.carrier = false ∨ (s.ch c).link.geometry = none → exec (.headStatus c condition) s = .next s)
    ∧ ∃ t, exec (.carrierLost c) s = .next t
      ∧ (t.ch c).link.carrier = false ∧ (t.ch c).link.geometry = none
      ∧ ((s.ch c).link.geometry.isSome = true → (t.ch c).link = { (s.ch c).link with carrier := false, geometry := none, headFault := none })
      ∧ ((s.ch c).link.geometry = none ∨ (s.ch c).state.inRun = false ∨ (s.ch c).ending ≠ none → t = s.upd c fun ch => { ch with link := (t.ch c).link })

/-! ## Rows -/

/-- R54, R75, R79, R69: a ROW is accepted exactly if a READING frame has its sequence number, its index is not below the next expected one and below v_rows, and it carries W samples; else it is stray: one more on the stray counter, which saturates, and nothing else. (The model's reading, not the manual's words: notes/assumptions/29.md.) -/
def Obligations.RowsThatNoFrameAcceptsAreStray : Prop :=
  ∀ (s : State) (c : ChannelId) (seq : Seq) (index : Nat) (samples : List Sample),
    ((s.ch c).link.carrier = false → exec (.row c seq index samples) s = .next s)
    ∧ ((s.ch c).link.carrier = true →
        (∀ f, (s.ch c).reading = some f → ∀ g ∈ (s.ch c).link.geometry,
          f.seq ≠ seq ∨ index < f.nextRow ∨ f.snapshot.vRows ≤ index ∨ samples.length ≠ g.width) →
        exec (.row c seq index samples) s = .next (s.upd c fun ch => { ch with link := { ch.link with stray := min (ch.link.stray + 1) 65535 } }))

/-- R46, R47, R51, R55, R56, R57, R60, R62: an accepted ROW with index k, after next expected index e. The next expected index is k + 1. In a gap (e below k) GAP is set, each output row not yet marked with a missing row counts lost once, and the groups the row has passed go to the queue as invalid rows, in order. The row then adds its samples to the sums of its group (in SKIP2 an odd row adds none); as the last row of its group it finishes it: a group all of whose rows came is a valid output row of the sums' words, another is invalid. A row that finds eight queued is not queued and sets OVERFLOW, a valid one counting lost (an invalid one was counted when it was marked). The finished rows of a frame without a buffer are counted produced and discarded, and never set OVERFLOW. After a gap that passed its group the row's own group is open with the row's sums alone. (That the group index is out_rows after a frame's last group is the model's choice: notes/assumptions/46.md.) -/
def Obligations.AcceptedRowsBuildOutputRows : Prop :=
  ∀ (s : State) (c : ChannelId) (f : Frame) (g : Geometry) (k : Nat) (samples : List Sample) (v marked passed : Nat) (added : List Nat) (whole : Bool),
    (s.ch c).link.carrier = true → (s.ch c).link.geometry = some g → (s.ch c).reading = some f → samples.length = g.width →
    f.nextRow ≤ k → k < f.snapshot.vRows → (s.ch c).rowsSound →
    v = f.snapshot.mode.v →
    marked = (if f.nextRow < k then (k - 1) / v + 1 - f.nextRow / v - (if (s.ch c).combiner.invalid then 1 else 0) else 0) →
    passed = k / v - f.nextRow / v →
    added = (if f.snapshot.mode = .skip2 ∧ k % 2 = 1 then List.replicate (f.snapshot.hWidth / f.snapshot.mode.h) 0
      else (List.range (f.snapshot.hWidth / f.snapshot.mode.h)).map fun j =>
        ((((samples.drop (f.snapshot.hStart + f.snapshot.mode.h * j)).take (f.snapshot.mode.h)).map BitVec.toNat).sum)) →
    f.snapshot.hStart + f.snapshot.hWidth ≤ samples.length → f.snapshot.mode.h ∣ f.snapshot.hWidth →
    whole = (!(s.ch c).combiner.invalid && (k == f.nextRow || v == 1)) →
    ∃ t f' row, exec (.row c f.seq k samples) s = .next t ∧ t = s.upd c (fun _ => t.ch c)
      ∧ t.ch c = { s.ch c with frames := (t.ch c).frames, rows := (t.ch c).rows, combiner := (t.ch c).combiner }
      ∧ (t.ch c).frames = ((s.ch c).frames.map fun x => if x.ctx = f.ctx then f' else x) ∧ f' = { f with nextRow := k + 1, lost := f'.lost, produced := f'.produced, flags := f'.flags }
      ∧ f'.flags.gap = (f.flags.gap || decide (f.nextRow < k)) ∧ f'.flags = { f.flags with gap := f'.flags.gap, overflow := f'.flags.overflow }
      ∧ (row.ctx = f.ctx ∧ row.index = k / v ∧ (whole = false → row.words = none)
        ∧ (whole = true → row.words = some ((if f.nextRow < k then added else List.zipWith (· + ·) (s.ch c).combiner.sums added).map f.snapshot.mode.word)))
      ∧ ((k + 1) % v ≠ 0 → (t.ch c).combiner.rowsInGroup = (if f.nextRow / v = k / v then (s.ch c).combiner.rowsInGroup + 1 else 1)
          ∧ (t.ch c).combiner.invalid = ((passed == 0 && (s.ch c).combiner.invalid) || decide (f.nextRow < k ∧ k % v ≠ 0))
          ∧ (passed = 0 → (t.ch c).combiner.sums = List.zipWith (· + ·) (s.ch c).combiner.sums added
            ∧ (t.ch c).combiner.group = (s.ch c).combiner.group ∧ (t.ch c).combiner.serving = (s.ch c).combiner.serving)
          ∧ (0 < passed → (t.ch c).combiner.sums = added ∧ (t.ch c).combiner.group = k / v ∧ (t.ch c).combiner.serving = some f.ctx))
      ∧ ((k + 1) % v = 0 → (t.ch c).combiner = { serving := some f.ctx, group := k / v + 1, rowsInGroup := 0, invalid := false
                                                 sums := List.replicate (f.snapshot.hWidth / f.snapshot.mode.h) 0 })
      ∧ (f.hold.isBuffer = true → (s.ch c).rows.length + passed < 8 →
          (t.ch c).rows = (s.ch c).rows ++ (List.range passed).map (fun j => ⟨f.ctx, f.nextRow / v + j, none⟩) ++ (if (k + 1) % v = 0 then [row] else [])
          ∧ f'.lost = f.lost + marked ∧ f'.produced = f.produced ∧ f'.flags.overflow = f.flags.overflow)
      ∧ (f.hold.isBuffer = true → 8 ≤ (s.ch c).rows.length + passed →
          (t.ch c).rows = (s.ch c).rows ++ ((List.range passed).map (fun j => ⟨f.ctx, f.nextRow / v + j, none⟩)).take (8 - (s.ch c).rows.length)
          ∧ f'.lost = f.lost + marked + (if (k + 1) % v = 0 ∧ whole = true then 1 else 0) ∧ f'.produced = f.produced
          ∧ f'.flags.overflow = (f.flags.overflow || decide ((k + 1) % v = 0) || decide (0 < passed ∧ 8 < (s.ch c).rows.length + passed)))
      ∧ (f.hold.isBuffer = false →
          (t.ch c).rows = (s.ch c).rows ∧ f'.flags.overflow = f.flags.overflow ∧ f'.lost = f.lost + marked
          ∧ f'.produced = f.produced + if (k + 1) % v = 0 ∧ whole = true then 1 else 0)

/-- R58, R76, R78, R105, R123, R124: FRAME_END. On an UP link, naming the READING frame with no more rows than v_rows, it ends the READING: the end-miss counter is 0, the output rows never finished count lost but for an open group already marked, and SHORT is set if rows are missing. As the only frame in use it is DRAINING while it has rows queued, else CLOSING with a buffer, else freed: untaken with no record, dropped with its FRAME_DROPPED, behind which its capture closes if it was DRAINING with this last frame. The run goes on, in STOPPING too, whose period still runs. Behind an earlier frame it is DRAINING and waits, its rows done or not. Any other FRAME_END changes nothing. (The model's reading, not the manual's words: notes/assumptions/1.md, 29.md, 37.md.) -/
def Obligations.FrameEndFlushesTheFrame : Prop :=
  ∀ (s : State) (c : ChannelId) (seq : Seq) (rowsSent : Nat),
    (¬((s.ch c).link.carrier = true ∧ (s.ch c).link.geometry.isSome = true ∧ ∃ f, (s.ch c).reading = some f ∧ f.seq = seq ∧ rowsSent ≤ f.snapshot.vRows) →
      exec (.frameEnd c seq rowsSent) s = .next s)
    ∧ (∀ f ended, (s.ch c).link.carrier = true → (s.ch c).link.geometry.isSome = true → (s.ch c).reading = some f → f.seq = seq →
        rowsSent ≤ f.snapshot.vRows → s.ledger → s.rowsSound → (s.ch c).queueSound →
        ended = { f with stage := .draining, lost := f.lost + (f.snapshot.vRows / f.snapshot.mode.v - f.nextRow / f.snapshot.mode.v - (if (s.ch c).combiner.invalid then 1 else 0)), flags := { f.flags with short := f.flags.short || decide (f.nextRow < f.snapshot.vRows) } } →
        ∃ t, exec (.frameEnd c seq rowsSent) s = .next t ∧ t.regs = s.regs ∧ t.proc = s.proc ∧ t.mem = s.mem ∧ t.pools = s.pools ∧ t.port = s.port
          ∧ (∀ d, d ≠ c → t.ch d = s.ch d)
          ∧ (t.ch c).link = { (s.ch c).link with endMiss := 0 } ∧ (t.ch c).combiner.serving = none ∧ (t.ch c).reading = none
          ∧ (t.ch c).state = (s.ch c).state ∧ (t.ch c).timer = (s.ch c).timer ∧ (t.ch c).table = (s.ch c).table ∧ (t.ch c).rows = (s.ch c).rows
          ∧ s.frameEnded t c f ended)

/-! ## Words and layouts -/

/-- R51: the output word of a block whose samples are these: in FULL the sample itself, in every other mode ⌊(4·sum + ⌊N/2⌋) / N⌋; with N = 4 the sum, with N = 2 twice the sum, and never above 16,380 (in FULL never above 4,095). Every 12-bit sample counts whole. -/
def Obligations.OutputWordIsFourTimesTheMean : Prop :=
  ∀ (m : Mode) (block : List Sample) (sum N : Nat), N = (match m with | .full => 1 | .mean2 => 4 | .mean3 => 9 | .skip2 => 2 | .vbin4 => 4) →
    block.length = N → sum = (block.map BitVec.toNat).sum →
    (m = .full → block.map BitVec.toNat = [m.word sum] ∧ m.word sum ≤ 4095)
    ∧ (m ≠ .full → m.word sum = (4 * sum + N / 2) / N ∧ m.word sum ≤ 16380)
    ∧ (N = 4 → m.word sum = sum) ∧ (N = 2 → m.word sum = 2 * sum)

/-- 11.3, 11.4, R50, R158, R177: the layouts the part writes. Every completion record is 32 bytes: its kind, the phase and seven zero bits, its channel or pool, its code, and its fields where 11.3 puts them, absent ones 0. A frame header is 64 bytes with its fields where 11.4 puts them. An output row is written over its whole pitch, its words first, zeros after them, and an invalid row as zeros. A number wider than its field is excluded by the premises. (A header of a frame without a tag, which no frame with a buffer is, is given tag 0: the model's reading, notes/assumptions/37.md.) -/
def Obligations.RecordsAndHeadersReadBack : Prop :=
  (∀ (r : Completion) (phase : Bool), (r.bytes phase).length = 32 ∧ byteAt (r.bytes phase) 1 = (if phase then 1 else 0)
    ∧ byteAt (r.bytes phase) 0 = (match r with
      | .cmdResult _ => 1 | .status _ => 2 | .bufferReturned _ _ => 3 | .frameDone _ => 4 | .frameDropped _ => 5 | .captureClosed _ => 6
      | .channelEvent _ _ _ _ => 7 | .genApplied _ _ _ _ _ => 8 | .triggerMissed _ _ _ => 9))
  ∧ (∀ (r : CmdResult) (phase : Bool), r.slot < 65536 →
      byteAt ((Completion.cmdResult r).bytes phase) 2 = r.target ∧ (byteAt ((Completion.cmdResult r).bytes phase) 3).toNat = (match r.code with
        | .ok => 0 | .badKind => 1 | .badTarget => 2 | .badField => 3 | .badCombination => 4 | .incomplete => 5 | .headNotReady => 6 | .wrongState => 7
        | .queueFull => 8 | .duplicateTag => 9 | .noSuchCapture => 10 | .poolFull => 11 | .badBuffer => 12)
      ∧ leNumber ((Completion.cmdResult r).bytes phase) 4 2 = r.slot ∧ byteAt ((Completion.cmdResult r).bytes phase) 6 = r.kind
      ∧ byteAt ((Completion.cmdResult r).bytes phase) 7 = (if r.gen.isSome then 1 else 0) ∧ halfAt ((Completion.cmdResult r).bytes phase) 8 = r.id
      ∧ halfAt ((Completion.cmdResult r).bytes phase) 10 = r.gen.getD 0 ∧ ((Completion.cmdResult r).bytes phase).drop 12 = List.replicate 20 0)
  ∧ (∀ (r : FrameDone) (phase : Bool), r.produced < 65536 → r.lost < 65536 →
      (byteAt ((Completion.frameDone r).bytes phase) 2).toNat = r.channel.val
      ∧ (byteAt ((Completion.frameDone r).bytes phase) 3).toNat
          = (if r.flags.short then 1 else 0) + (if r.flags.gap then 2 else 0) + (if r.flags.overflow then 4 else 0) + (if r.flags.aborted then 8 else 0)
      ∧ halfAt ((Completion.frameDone r).bytes phase) 4 = r.run ∧ halfAt ((Completion.frameDone r).bytes phase) 6 = r.tag
      ∧ leNumber ((Completion.frameDone r).bytes phase) 8 4 = r.seq.toNat ∧ leNumber ((Completion.frameDone r).bytes phase) 12 4 = r.buffer.id.toNat
      ∧ leNumber ((Completion.frameDone r).bytes phase) 16 8 = r.buffer.addr.toNat
      ∧ leNumber ((Completion.frameDone r).bytes phase) 24 4 = r.buffer.length.toNat
      ∧ leNumber ((Completion.frameDone r).bytes phase) 28 2 = r.produced ∧ leNumber ((Completion.frameDone r).bytes phase) 30 2 = r.lost)
  ∧ (∀ (r : Status) (phase : Bool), r.queueLength < 8 → r.endMiss < 4 → r.lostEvents < 65536 → r.backlog < 65536 → r.stray < 65536 →
      (∀ g ∈ r.geometry, g.width < 8192 ∧ g.height < 65536 ∧ g.maxGain < 256) →
      (byteAt ((Completion.status r).bytes phase) 2).toNat = r.channel.val
      ∧ byteAt ((Completion.status r).bytes phase) 3 = (match r.faultCause with | some (.headFault code) => code | _ => 0)
      ∧ leNumber ((Completion.status r).bytes phase) 4 2
          = (match r.state with | .off => 0 | .starting => 1 | .running => 2 | .stopping => 3 | .faulted => 4)
            + (if r.geometry.isSome then 8 else 0) + (if r.clear then 16 else 0) + 32 * r.queueLength
            + (match r.faultCause with | none => 0 | some .linkLost => 256 | some (.headFault _) => 512 | some .headSilent => 768) + 1024 * r.endMiss
            + (if r.committedGen.isSome then 4096 else 0) + (if r.latchedGen.isSome then 8192 else 0) + (if r.activeGen.isSome then 16384 else 0)
      ∧ byteAt ((Completion.status r).bytes phase) 6 = r.headFault.getD 0
      ∧ (byteAt ((Completion.status r).bytes phase) 7).toNat = (r.geometry.map Geometry.maxGain).getD 0
      ∧ halfAt ((Completion.status r).bytes phase) 8 = r.run ∧ leNumber ((Completion.status r).bytes phase) 10 4 = r.nextSeq.toNat
      ∧ halfAt ((Completion.status r).bytes phase) 14 = r.committedGen.getD 0 ∧ halfAt ((Completion.status r).bytes phase) 16 = r.latchedGen.getD 0
      ∧ halfAt ((Completion.status r).bytes phase) 18 = r.activeGen.getD 0 ∧ leNumber ((Completion.status r).bytes phase) 20 2 = r.lostEvents
      ∧ leNumber ((Completion.status r).bytes phase) 22 2 = r.backlog ∧ leNumber ((Completion.status r).bytes phase) 24 2 = r.stray
      ∧ (r.geometry = none → leNumber ((Completion.status r).bytes phase) 26 6 = 0)
      ∧ (∀ g ∈ r.geometry, leNumber ((Completion.status r).bytes phase) 26 2 = g.width + (if g.depth10 then 16384 else 0) + (if g.depth12 then 32768 else 0)
          ∧ leNumber ((Completion.status r).bytes phase) 28 2 = g.height ∧ halfAt ((Completion.status r).bytes phase) 30 = g.revision))
  ∧ (∀ (r : FrameDropped) (phase : Bool),
      (byteAt ((Completion.frameDropped r).bytes phase) 2).toNat = r.channel.val
      ∧ (byteAt ((Completion.frameDropped r).bytes phase) 3).toNat = (match r.reason with | .settling => 1 | .noBuffer => 2 | .bufferSmall => 3 | .aborted => 4)
      ∧ halfAt ((Completion.frameDropped r).bytes phase) 4 = r.run ∧ halfAt ((Completion.frameDropped r).bytes phase) 6 = r.tag
      ∧ leNumber ((Completion.frameDropped r).bytes phase) 8 4 = r.seq.toNat
      ∧ (r.buffer = none → ((Completion.frameDropped r).bytes phase).drop 12 = List.replicate 20 0)
      ∧ (∀ d ∈ r.buffer, leNumber ((Completion.frameDropped r).bytes phase) 12 4 = d.id.toNat
          ∧ leNumber ((Completion.frameDropped r).bytes phase) 16 8 = d.addr.toNat ∧ leNumber ((Completion.frameDropped r).bytes phase) 24 4 = d.length.toNat
          ∧ leNumber ((Completion.frameDropped r).bytes phase) 28 4 = 1))
  ∧ (∀ (r : CaptureClosed) (phase : Bool), r.delivered < 4294967296 →
      (byteAt ((Completion.captureClosed r).bytes phase) 2).toNat = r.channel.val
      ∧ (byteAt ((Completion.captureClosed r).bytes phase) 3).toNat = (match r.reason with | .complete => 1 | .cancelled => 2 | .stopped => 3 | .fault => 4)
      ∧ halfAt ((Completion.captureClosed r).bytes phase) 4 = r.run ∧ halfAt ((Completion.captureClosed r).bytes phase) 6 = r.tag
      ∧ leNumber ((Completion.captureClosed r).bytes phase) 8 4 = r.pool.val ∧ leNumber ((Completion.captureClosed r).bytes phase) 12 4 = r.delivered
      ∧ ((Completion.captureClosed r).bytes phase).drop 16 = List.replicate 16 0)
  ∧ (∀ (c : ChannelId) (run : RunNo) (event : ChannelEvent) (seq : Seq) (phase : Bool),
      (byteAt ((Completion.channelEvent c run event seq).bytes phase) 2).toNat = c.val
      ∧ halfAt ((Completion.channelEvent c run event seq).bytes phase) 4 = run ∧ leNumber ((Completion.channelEvent c run event seq).bytes phase) 8 4 = seq.toNat
      ∧ ((byteAt ((Completion.channelEvent c run event seq).bytes phase) 3).toNat, (byteAt ((Completion.channelEvent c run event seq).bytes phase) 6).toNat,
          byteAt ((Completion.channelEvent c run event seq).bytes phase) 7)
        = (match event with
          | .stopped .stop => (1, 1, 0) | .stopped .abort => (1, 2, 0) | .stopped .halt => (1, 3, 0) | .stopped .cleared => (1, 4, 0)
          | .faulted .linkLost => (2, 1, 0) | .faulted (.headFault code) => (2, 2, code) | .faulted .headSilent => (2, 3, 0))
      ∧ ((Completion.channelEvent c run event seq).bytes phase).drop 12 = List.replicate 20 0)
  ∧ (∀ (c : ChannelId) (run : RunNo) (gen : Gen) (seq : Seq) (settling phase : Bool),
      byteAt ((Completion.genApplied c run gen seq settling).bytes phase) 3 = 0 ∧ (byteAt ((Completion.genApplied c run gen seq settling).bytes phase) 2).toNat = c.val
      ∧ halfAt ((Completion.genApplied c run gen seq settling).bytes phase) 4 = run ∧ halfAt ((Completion.genApplied c run gen seq settling).bytes phase) 6 = gen
      ∧ leNumber ((Completion.genApplied c run gen seq settling).bytes phase) 8 4 = seq.toNat
      ∧ ((Completion.genApplied c run gen seq settling).bytes phase).drop 12 = (if settling then 1 else 0) :: List.replicate 19 0
      ∧ byteAt ((Completion.triggerMissed c run seq).bytes phase) 3 = 0 ∧ (byteAt ((Completion.triggerMissed c run seq).bytes phase) 2).toNat = c.val
      ∧ halfAt ((Completion.triggerMissed c run seq).bytes phase) 4 = run ∧ halfAt ((Completion.triggerMissed c run seq).bytes phase) 6 = 0
      ∧ leNumber ((Completion.triggerMissed c run seq).bytes phase) 8 4 = seq.toNat
      ∧ ((Completion.triggerMissed c run seq).bytes phase).drop 12 = List.replicate 20 0)
  ∧ (∀ (r : OutputRow) (pitch : Nat),
      (r.words = none → r.bytes pitch = List.replicate pitch 0)
      ∧ (∀ ws, r.words = some ws → 2 * ws.length ≤ pitch → (∀ w ∈ ws, w < 65536) →
          (r.bytes pitch).length = pitch ∧ (∀ j, (h : j < ws.length) → leNumber (r.bytes pitch) (2 * j) 2 = ws[j])
          ∧ ∀ k, 2 * ws.length ≤ k → byteAt (r.bytes pitch) k = 0))
  ∧ (∀ (pool : PoolId) (d : Descriptor) (phase : Bool),
      (byteAt ((Completion.bufferReturned pool d).bytes phase) 2).toNat = pool.val ∧ byteAt ((Completion.bufferReturned pool d).bytes phase) 3 = 1
      ∧ leNumber ((Completion.bufferReturned pool d).bytes phase) 4 4 = 0 ∧ leNumber ((Completion.bufferReturned pool d).bytes phase) 24 8 = 0 ∧
      leNumber ((Completion.bufferReturned pool d).bytes phase) 8 8 = d.addr.toNat ∧ leNumber ((Completion.bufferReturned pool d).bytes phase) 16 4 = d.length.toNat
      ∧ leNumber ((Completion.bufferReturned pool d).bytes phase) 20 4 = d.id.toNat)
  ∧ (∀ (c : ChannelId) (f : Frame) (id : BitVec 32) (p : Snapshot), p = f.snapshot → p.vStart < 65536 → p.vRows < 65536 → p.hStart < 65536 →
      p.hWidth < 65536 → p.gain < 256 → p.stretch < 256 → p.lp < 65536 → p.lf < 65536 → f.exposure < 65536 → p.pitch < 65536 → f.lost < 65536 →
      f.lostEvents.getD 0 < 65536 →
      (headerBytes c f id).length = 64 ∧ (byteAt (headerBytes c f id) 0).toNat = c.val ∧ (byteAt (headerBytes c f id) 1).toNat = (match p.mode with | .full => 0 | .mean2 => 1 | .mean3 => 2 | .skip2 => 3 | .vbin4 => 4)
      ∧ (byteAt (headerBytes c f id) 2).toNat = (match p.depth with | .d10 => 10 | .d12 => 12)
      ∧ (byteAt (headerBytes c f id) 3).toNat = (match p.flip with | .normal => 0 | .inverted => 1)
      ∧ halfAt (headerBytes c f id) 4 = f.run ∧ halfAt (headerBytes c f id) 6 = f.tag.getD 0 ∧ leNumber (headerBytes c f id) 8 4 = f.seq.toNat
      ∧ leNumber (headerBytes c f id) 12 4 = id.toNat ∧ halfAt (headerBytes c f id) 16 = f.readoutGen ∧ halfAt (headerBytes c f id) 18 = f.exposureGen
      ∧ leNumber (headerBytes c f id) 20 2 = p.vStart ∧ leNumber (headerBytes c f id) 22 2 = p.vRows ∧ leNumber (headerBytes c f id) 24 2 = p.hStart
      ∧ leNumber (headerBytes c f id) 26 2 = p.hWidth ∧ (byteAt (headerBytes c f id) 28).toNat = p.gain
      ∧ (byteAt (headerBytes c f id) 29).toNat = p.stretch ∧ (byteAt (headerBytes c f id) 30).toNat = (if p.mode = .full then 0 else 2)
      ∧ (byteAt (headerBytes c f id) 31).toNat
          = (if f.flags.short then 1 else 0) + (if f.flags.gap then 2 else 0) + (if f.flags.overflow then 4 else 0) + (if f.flags.aborted then 8 else 0)
      ∧ leNumber (headerBytes c f id) 32 2 = p.lp ∧ leNumber (headerBytes c f id) 34 2 = p.lf ∧ leNumber (headerBytes c f id) 36 2 = f.exposure
      ∧ leNumber (headerBytes c f id) 38 2 = p.hWidth / p.mode.h ∧ leNumber (headerBytes c f id) 40 2 = p.vRows / p.mode.v
      ∧ leNumber (headerBytes c f id) 42 2 = p.pitch ∧ leNumber (headerBytes c f id) 44 2 = f.lost
      ∧ leNumber (headerBytes c f id) 46 2 = f.lostEvents.getD 0 ∧ (headerBytes c f id).drop 48 = List.replicate 16 0)

/-! ## What every step keeps -/

/-- R151, R153, R93, R81, R23, R121, R149: the credit ledger is kept by every step, from every state that has it: reserved credits are exactly the standing, close, frame and hand credits, entries and reservations stay within 64, and every channel agrees with its state: OFF and FAULTED with both contexts free and no standing credit; and a record that its block has taken is a STOP with ABORT, with its credit, outside WAIT_CREDIT. -/
def Obligations.EveryStepKeepsTheCreditLedger : Prop :=
  ∀ s t : State, s.ledger → step s = .next t → t.ledger

/-- R14, R16, R60, R62, R78, R79, R98, R114, R115, R155: the bounds are kept by every step: two contexts, eight queued rows, four captures, 64 descriptors in a pool, an end-miss counter of at most 2, and the counters that saturate at 65535; and so is the canonical form of host memory. -/
def Obligations.EveryStepKeepsTheBounds : Prop :=
  ∀ s t : State, s.bounded → s.mem.wf → step s = .next t → t.bounded ∧ t.mem.wf

/-- R97, R98, R100, R102, R105: the capture queues stay sound over every step: unique tags, the first standing capture of a running channel OPEN and no other, a DRAINING one with a reason and a frame in flight, and as many frames in flight as frames that carry the tag. -/
def Obligations.EveryStepKeepsTheCaptureQueues : Prop :=
  ∀ s t : State, (∀ c : ChannelId, (s.ch c).queueSound) → step s = .next t → ∀ c : ChannelId, (t.ch c).queueSound

/-- R55, R56, R57, R58, R59, R62, R124, R128, R129: the row accounts are kept by every step, from every state with a sound credit ledger: the output rows of every frame in use that is not aborted are produced, lost or waiting, none twice, and a frame in CLOSING has them all produced or lost; the earliest frame always waits for its reading, its rows or its header; only frames of a run that is ending are aborted, all of its frames are but for one whose header is handed, and each has its header given up or handed while the interface does not write; and a STOP that waits for closes waits for a run that is ending. (At most one row of a channel is at the port: the model's reading, notes/assumptions/42.md.) -/
def Obligations.EveryStepKeepsTheRowAccounts : Prop :=
  ∀ s t : State, s.ledger → s.rowsSound → step s = .next t → t.rowsSound

/-- R150, R157, R114, R117, R118, R24, R26, R30, R50, R166: who may change what. Host memory is changed by the three writes alone. The pools are changed by POST_BUFFERS, RECLAIM, frame starts (TRIGGER, PERIOD_END) and resets alone, the working and committed sets and generation counters by SET and resets alone, and the configuration registers by CONFIG_WRITE and resets alone. Outside resets and a record's own write, the holding queue only grows at its tail. -/
def Obligations.OnlyTheirCommandsChangeThem : Prop :=
  ∀ (s t : State) (i : Instr), exec i s = .next t →
    ((∀ issue error, i ≠ .completionWrite issue error) → (∀ c issue error, i ≠ .rowWrite c issue error) → (∀ c issue error, i ≠ .headerWrite c issue error) →
      t.mem = s.mem)
    ∧ (i ≠ .powerOn → (∀ cause, i ≠ .functionReset cause) →
      (i ≠ .postBuffers → i ≠ .reclaim → (∀ c, i ≠ .trigger c) → (∀ c, i ≠ .periodEnd c) → t.pools = s.pools)
      ∧ (i ≠ .set → ∀ c : ChannelId, (t.ch c).table.working = (s.ch c).table.working ∧ (t.ch c).table.committed = (s.ch c).table.committed
          ∧ (t.ch c).table.genCounter = (s.ch c).table.genCounter)
      ∧ ((∀ reg value, i ≠ .configWrite reg value) → t.regs.apertureBase = s.regs.apertureBase ∧ t.regs.apertureSize = s.regs.apertureSize
          ∧ t.regs.cmdBaseLo = s.regs.cmdBaseLo ∧ t.regs.cmdBaseHi = s.regs.cmdBaseHi ∧ t.regs.cplBaseLo = s.regs.cplBaseLo
          ∧ t.regs.cplBaseHi = s.regs.cplBaseHi ∧ t.regs.cmdSize = s.regs.cmdSize ∧ t.regs.cplSize = s.regs.cplSize)
      ∧ ((∀ issue error, i ≠ .completionWrite issue error) → ∃ new, t.cpl.queue = s.cpl.queue ++ new))

/-- R6, R30, R66, R75, R98, 0.3: the channels are independent. An event of one channel's trigger input, frame timer or head link leaves every other channel, the registers, the command processor, host memory and the completion ring's tail and phase exactly as they were; of what the channels share, only credits, the holding queue and the pools are touched. -/
def Obligations.ChannelEventsLeaveTheOthersAlone : Prop :=
  ∀ (s t : State) (c : ChannelId) (i : Instr),
    (i = .trigger c ∨ i = .triggerInputLow c ∨ i = .latchPoint c ∨ i = .periodEnd c ∨ (∃ m, i = .hello c m) ∨ (∃ condition, i = .headStatus c condition)
      ∨ i = .carrierLost c ∨ i = .carrierPresent c ∨ (∃ seq index samples, i = .row c seq index samples) ∨ ∃ seq n, i = .frameEnd c seq n) →
    exec i s = .next t →
    (∀ d, d ≠ c → t.ch d = s.ch d) ∧ t.regs = s.regs ∧ t.proc = s.proc ∧ t.mem = s.mem ∧ t.pending = s.pending
      ∧ t.cpl = { s.cpl with queue := t.cpl.queue, reserved := t.cpl.reserved }
      ∧ t.port = s.port
end

