-- ==== Sys2Proof/Laws/State.lean ====
section
/-! SUPPORT. One lemma per field per update, so that no later proof unfolds a record update: what reading a channel gives after an update of one, and which fields each shared operation leaves as they were. -/

namespace Sys2Proof

variable {α : Type}

@[simp] theorem Four.get_modify_same (v : Four α) (i : Fin 4) (f : α → α) : (v.modify i f).get i = f (v.get i) := by
  match i with
  | 0 => rfl
  | 1 => rfl
  | 2 => rfl
  | 3 => rfl

theorem Four.get_modify_ne (v : Four α) {i j : Fin 4} (f : α → α) (h : j ≠ i) : (v.modify i f).get j = v.get j := by
  match i, j, h with
  | 0, 0, h => exact absurd rfl h
  | 0, 1, _ => rfl
  | 0, 2, _ => rfl
  | 0, 3, _ => rfl
  | 1, 0, _ => rfl
  | 1, 1, h => exact absurd rfl h
  | 1, 2, _ => rfl
  | 1, 3, _ => rfl
  | 2, 0, _ => rfl
  | 2, 1, _ => rfl
  | 2, 2, h => exact absurd rfl h
  | 2, 3, _ => rfl
  | 3, 0, _ => rfl
  | 3, 1, _ => rfl
  | 3, 2, _ => rfl
  | 3, 3, h => exact absurd rfl h

@[simp] theorem Four.get_map (v : Four α) (i : Fin 4) (f : α → α) : (v.map f).get i = f (v.get i) := by
  match i with
  | 0 => rfl
  | 1 => rfl
  | 2 => rfl
  | 3 => rfl

@[simp] theorem Four.get_same (a : α) (i : Fin 4) : (Four.same a).get i = a := by
  match i with
  | 0 => rfl
  | 1 => rfl
  | 2 => rfl
  | 3 => rfl

theorem Four.ext_get (v w : Four α) (h : ∀ i, v.get i = w.get i) : v = w := by
  have h0 := h 0
  have h1 := h 1
  have h2 := h 2
  have h3 := h 3
  cases v
  cases w
  simp only [Four.get] at h0 h1 h2 h3
  subst h0 h1 h2 h3
  rfl

namespace Machine

/-! ## Channels -/

@[simp] theorem State.ch_upd_same (s : State) (c : ChannelId) (f : Channel → Channel) : (s.upd c f).ch c = f (s.ch c) :=
  Four.get_modify_same _ _ _

theorem State.ch_upd_ne (s : State) {c d : ChannelId} (f : Channel → Channel) (h : d ≠ c) : (s.upd c f).ch d = s.ch d :=
  Four.get_modify_ne _ _ h

/-- Reading a channel after an update of one. -/
theorem State.ch_upd (s : State) (c d : ChannelId) (f : Channel → Channel) :
    (s.upd c f).ch d = if d = c then f (s.ch d) else s.ch d := by
  split
  · next h => subst h; exact State.ch_upd_same _ _ _
  · next h => exact State.ch_upd_ne _ _ h



/-! ## `State.upd`: every field but `chans` -/

@[simp] theorem State.upd_regs (s : State) (c : ChannelId) (f : Channel → Channel) : (s.upd c f).regs = s.regs := rfl
@[simp] theorem State.upd_proc (s : State) (c : ChannelId) (f : Channel → Channel) : (s.upd c f).proc = s.proc := rfl
@[simp] theorem State.upd_cpl (s : State) (c : ChannelId) (f : Channel → Channel) : (s.upd c f).cpl = s.cpl := rfl
@[simp] theorem State.upd_pools (s : State) (c : ChannelId) (f : Channel → Channel) : (s.upd c f).pools = s.pools := rfl
@[simp] theorem State.upd_port (s : State) (c : ChannelId) (f : Channel → Channel) : (s.upd c f).port = s.port := rfl
@[simp] theorem State.upd_mem (s : State) (c : ChannelId) (f : Channel → Channel) : (s.upd c f).mem = s.mem := rfl
@[simp] theorem State.upd_pending (s : State) (c : ChannelId) (f : Channel → Channel) : (s.upd c f).pending = s.pending := rfl
@[simp] theorem State.upd_draws (s : State) (c : ChannelId) (f : Channel → Channel) : (s.upd c f).draws = s.draws := rfl

/-! ## Credits and the holding queue -/

@[simp] theorem State.reserve_regs (s : State) (n : Nat) : (s.reserve n).regs = s.regs := rfl
@[simp] theorem State.reserve_proc (s : State) (n : Nat) : (s.reserve n).proc = s.proc := rfl
@[simp] theorem State.reserve_pools (s : State) (n : Nat) : (s.reserve n).pools = s.pools := rfl
@[simp] theorem State.reserve_chans (s : State) (n : Nat) : (s.reserve n).chans = s.chans := rfl
@[simp] theorem State.reserve_port (s : State) (n : Nat) : (s.reserve n).port = s.port := rfl
@[simp] theorem State.reserve_mem (s : State) (n : Nat) : (s.reserve n).mem = s.mem := rfl
@[simp] theorem State.reserve_pending (s : State) (n : Nat) : (s.reserve n).pending = s.pending := rfl
@[simp] theorem State.reserve_draws (s : State) (n : Nat) : (s.reserve n).draws = s.draws := rfl
@[simp] theorem State.giveBack_regs (s : State) (n : Nat) : (s.giveBack n).regs = s.regs := rfl
@[simp] theorem State.giveBack_proc (s : State) (n : Nat) : (s.giveBack n).proc = s.proc := rfl
@[simp] theorem State.giveBack_pools (s : State) (n : Nat) : (s.giveBack n).pools = s.pools := rfl
@[simp] theorem State.giveBack_chans (s : State) (n : Nat) : (s.giveBack n).chans = s.chans := rfl
@[simp] theorem State.giveBack_port (s : State) (n : Nat) : (s.giveBack n).port = s.port := rfl
@[simp] theorem State.giveBack_mem (s : State) (n : Nat) : (s.giveBack n).mem = s.mem := rfl
@[simp] theorem State.giveBack_pending (s : State) (n : Nat) : (s.giveBack n).pending = s.pending := rfl
@[simp] theorem State.giveBack_draws (s : State) (n : Nat) : (s.giveBack n).draws = s.draws := rfl
@[simp] theorem State.place_regs (s : State) (r : Completion) : (s.place r).regs = s.regs := rfl
@[simp] theorem State.place_proc (s : State) (r : Completion) : (s.place r).proc = s.proc := rfl
@[simp] theorem State.place_pools (s : State) (r : Completion) : (s.place r).pools = s.pools := rfl
@[simp] theorem State.place_chans (s : State) (r : Completion) : (s.place r).chans = s.chans := rfl
@[simp] theorem State.place_port (s : State) (r : Completion) : (s.place r).port = s.port := rfl
@[simp] theorem State.place_mem (s : State) (r : Completion) : (s.place r).mem = s.mem := rfl
@[simp] theorem State.place_pending (s : State) (r : Completion) : (s.place r).pending = s.pending := rfl
@[simp] theorem State.place_draws (s : State) (r : Completion) : (s.place r).draws = s.draws := rfl
@[simp] theorem State.reserve_cpl_tail (s : State) (n : Nat) : (s.reserve n).cpl.tail = s.cpl.tail := rfl
@[simp] theorem State.giveBack_cpl_tail (s : State) (n : Nat) : (s.giveBack n).cpl.tail = s.cpl.tail := rfl
@[simp] theorem State.place_cpl_tail (s : State) (r : Completion) : (s.place r).cpl.tail = s.cpl.tail := rfl
@[simp] theorem State.reserve_cpl_phase (s : State) (n : Nat) : (s.reserve n).cpl.phase = s.cpl.phase := rfl
@[simp] theorem State.giveBack_cpl_phase (s : State) (n : Nat) : (s.giveBack n).cpl.phase = s.cpl.phase := rfl
@[simp] theorem State.place_cpl_phase (s : State) (r : Completion) : (s.place r).cpl.phase = s.cpl.phase := rfl
@[simp] theorem State.reserve_cpl_armed (s : State) (n : Nat) : (s.reserve n).cpl.armed = s.cpl.armed := rfl
@[simp] theorem State.giveBack_cpl_armed (s : State) (n : Nat) : (s.giveBack n).cpl.armed = s.cpl.armed := rfl
@[simp] theorem State.place_cpl_armed (s : State) (r : Completion) : (s.place r).cpl.armed = s.cpl.armed := rfl
@[simp] theorem State.reserve_cpl_write (s : State) (n : Nat) : (s.reserve n).cpl.write = s.cpl.write := rfl
@[simp] theorem State.giveBack_cpl_write (s : State) (n : Nat) : (s.giveBack n).cpl.write = s.cpl.write := rfl
@[simp] theorem State.place_cpl_write (s : State) (r : Completion) : (s.place r).cpl.write = s.cpl.write := rfl
@[simp] theorem State.reserve_queue (s : State) (n : Nat) : (s.reserve n).cpl.queue = s.cpl.queue := rfl
@[simp] theorem State.giveBack_queue (s : State) (n : Nat) : (s.giveBack n).cpl.queue = s.cpl.queue := rfl
@[simp] theorem State.place_queue (s : State) (r : Completion) : (s.place r).cpl.queue = s.cpl.queue ++ [r] := rfl
@[simp] theorem State.reserve_reserved (s : State) (n : Nat) : (s.reserve n).cpl.reserved = s.cpl.reserved + n := rfl
@[simp] theorem State.giveBack_reserved (s : State) (n : Nat) : (s.giveBack n).cpl.reserved = s.cpl.reserved - n := rfl
@[simp] theorem State.place_reserved (s : State) (r : Completion) : (s.place r).cpl.reserved = s.cpl.reserved - 1 := rfl
@[simp] theorem State.ch_reserve (s : State) (n : Nat) (c : ChannelId) : (s.reserve n).ch c = s.ch c := rfl
@[simp] theorem State.ch_giveBack (s : State) (n : Nat) (c : ChannelId) : (s.giveBack n).ch c = s.ch c := rfl
@[simp] theorem State.ch_place (s : State) (r : Completion) (c : ChannelId) : (s.place r).ch c = s.ch c := rfl

/-! ## Free choices, waiting commands, losing an event, sending to a head -/

@[simp] theorem State.drawn_regs (s : State) : (s.drawn ).regs = s.regs := rfl
@[simp] theorem State.drawn_proc (s : State) : (s.drawn ).proc = s.proc := rfl
@[simp] theorem State.drawn_cpl (s : State) : (s.drawn ).cpl = s.cpl := rfl
@[simp] theorem State.drawn_pools (s : State) : (s.drawn ).pools = s.pools := rfl
@[simp] theorem State.drawn_chans (s : State) : (s.drawn ).chans = s.chans := rfl
@[simp] theorem State.drawn_port (s : State) : (s.drawn ).port = s.port := rfl
@[simp] theorem State.drawn_mem (s : State) : (s.drawn ).mem = s.mem := rfl
@[simp] theorem State.drawn_pending (s : State) : (s.drawn ).pending = s.pending := rfl
@[simp] theorem State.withPending_regs (s : State) (rest : List Instr) : (s.withPending rest).regs = s.regs := rfl
@[simp] theorem State.withPending_proc (s : State) (rest : List Instr) : (s.withPending rest).proc = s.proc := rfl
@[simp] theorem State.withPending_cpl (s : State) (rest : List Instr) : (s.withPending rest).cpl = s.cpl := rfl
@[simp] theorem State.withPending_pools (s : State) (rest : List Instr) : (s.withPending rest).pools = s.pools := rfl
@[simp] theorem State.withPending_chans (s : State) (rest : List Instr) : (s.withPending rest).chans = s.chans := rfl
@[simp] theorem State.withPending_port (s : State) (rest : List Instr) : (s.withPending rest).port = s.port := rfl
@[simp] theorem State.withPending_mem (s : State) (rest : List Instr) : (s.withPending rest).mem = s.mem := rfl
@[simp] theorem State.withPending_draws (s : State) (rest : List Instr) : (s.withPending rest).draws = s.draws := rfl
@[simp] theorem State.withPending_pending (s : State) (rest : List Instr) : (s.withPending rest).pending = rest := rfl
@[simp] theorem State.ch_drawn (s : State) (c : ChannelId) : s.drawn.ch c = s.ch c := rfl
@[simp] theorem State.ch_withPending (s : State) (rest : List Instr) (c : ChannelId) : (s.withPending rest).ch c = s.ch c := rfl
@[simp] theorem State.loseEvent_regs (s : State) (c : ChannelId) : (s.loseEvent c).regs = s.regs := rfl
@[simp] theorem State.loseEvent_proc (s : State) (c : ChannelId) : (s.loseEvent c).proc = s.proc := rfl
@[simp] theorem State.loseEvent_cpl (s : State) (c : ChannelId) : (s.loseEvent c).cpl = s.cpl := rfl
@[simp] theorem State.loseEvent_pools (s : State) (c : ChannelId) : (s.loseEvent c).pools = s.pools := rfl
@[simp] theorem State.loseEvent_port (s : State) (c : ChannelId) : (s.loseEvent c).port = s.port := rfl
@[simp] theorem State.loseEvent_mem (s : State) (c : ChannelId) : (s.loseEvent c).mem = s.mem := rfl
@[simp] theorem State.loseEvent_pending (s : State) (c : ChannelId) : (s.loseEvent c).pending = s.pending := rfl
@[simp] theorem State.loseEvent_draws (s : State) (c : ChannelId) : (s.loseEvent c).draws = s.draws := rfl
@[simp] theorem State.send_regs (s : State) (c : ChannelId) (m : LinkMsg) : (s.send c m).regs = s.regs := rfl
@[simp] theorem State.send_proc (s : State) (c : ChannelId) (m : LinkMsg) : (s.send c m).proc = s.proc := rfl
@[simp] theorem State.send_cpl (s : State) (c : ChannelId) (m : LinkMsg) : (s.send c m).cpl = s.cpl := rfl
@[simp] theorem State.send_pools (s : State) (c : ChannelId) (m : LinkMsg) : (s.send c m).pools = s.pools := rfl
@[simp] theorem State.send_port (s : State) (c : ChannelId) (m : LinkMsg) : (s.send c m).port = s.port := rfl
@[simp] theorem State.send_mem (s : State) (c : ChannelId) (m : LinkMsg) : (s.send c m).mem = s.mem := rfl
@[simp] theorem State.send_pending (s : State) (c : ChannelId) (m : LinkMsg) : (s.send c m).pending = s.pending := rfl
@[simp] theorem State.send_draws (s : State) (c : ChannelId) (m : LinkMsg) : (s.send c m).draws = s.draws := rfl


/-! ## Updates of a channel -/

@[simp] theorem Channel.onFrame_state (ch : Channel) (k : ContextId) (f : Frame → Frame) : (ch.onFrame k f).state = ch.state := rfl
@[simp] theorem Channel.onFrame_faultCause (ch : Channel) (k : ContextId) (f : Frame → Frame) : (ch.onFrame k f).faultCause = ch.faultCause := rfl
@[simp] theorem Channel.onFrame_standing (ch : Channel) (k : ContextId) (f : Frame → Frame) : (ch.onFrame k f).standing = ch.standing := rfl
@[simp] theorem Channel.onFrame_lostEvents (ch : Channel) (k : ContextId) (f : Frame → Frame) : (ch.onFrame k f).lostEvents = ch.lostEvents := rfl
@[simp] theorem Channel.onFrame_ending (ch : Channel) (k : ContextId) (f : Frame → Frame) : (ch.onFrame k f).ending = ch.ending := rfl
@[simp] theorem Channel.onFrame_timer (ch : Channel) (k : ContextId) (f : Frame → Frame) : (ch.onFrame k f).timer = ch.timer := rfl
@[simp] theorem Channel.onFrame_table (ch : Channel) (k : ContextId) (f : Frame → Frame) : (ch.onFrame k f).table = ch.table := rfl
@[simp] theorem Channel.onFrame_link (ch : Channel) (k : ContextId) (f : Frame → Frame) : (ch.onFrame k f).link = ch.link := rfl
@[simp] theorem Channel.onFrame_lastFreed (ch : Channel) (k : ContextId) (f : Frame → Frame) : (ch.onFrame k f).lastFreed = ch.lastFreed := rfl
@[simp] theorem Channel.onFrame_combiner (ch : Channel) (k : ContextId) (f : Frame → Frame) : (ch.onFrame k f).combiner = ch.combiner := rfl
@[simp] theorem Channel.onFrame_rows (ch : Channel) (k : ContextId) (f : Frame → Frame) : (ch.onFrame k f).rows = ch.rows := rfl
@[simp] theorem Channel.onFrame_rowWrite (ch : Channel) (k : ContextId) (f : Frame → Frame) : (ch.onFrame k f).rowWrite = ch.rowWrite := rfl
@[simp] theorem Channel.onFrame_headerWrite (ch : Channel) (k : ContextId) (f : Frame → Frame) : (ch.onFrame k f).headerWrite = ch.headerWrite := rfl
@[simp] theorem Channel.onFrame_captures (ch : Channel) (k : ContextId) (f : Frame → Frame) : (ch.onFrame k f).captures = ch.captures := rfl
@[simp] theorem Channel.withHead_state (ch : Channel) (f : Frame) : (ch.withHead f).state = ch.state := rfl
@[simp] theorem Channel.withHead_faultCause (ch : Channel) (f : Frame) : (ch.withHead f).faultCause = ch.faultCause := rfl
@[simp] theorem Channel.withHead_standing (ch : Channel) (f : Frame) : (ch.withHead f).standing = ch.standing := rfl
@[simp] theorem Channel.withHead_lostEvents (ch : Channel) (f : Frame) : (ch.withHead f).lostEvents = ch.lostEvents := rfl
@[simp] theorem Channel.withHead_ending (ch : Channel) (f : Frame) : (ch.withHead f).ending = ch.ending := rfl
@[simp] theorem Channel.withHead_timer (ch : Channel) (f : Frame) : (ch.withHead f).timer = ch.timer := rfl
@[simp] theorem Channel.withHead_table (ch : Channel) (f : Frame) : (ch.withHead f).table = ch.table := rfl
@[simp] theorem Channel.withHead_link (ch : Channel) (f : Frame) : (ch.withHead f).link = ch.link := rfl
@[simp] theorem Channel.withHead_lastFreed (ch : Channel) (f : Frame) : (ch.withHead f).lastFreed = ch.lastFreed := rfl
@[simp] theorem Channel.withHead_combiner (ch : Channel) (f : Frame) : (ch.withHead f).combiner = ch.combiner := rfl
@[simp] theorem Channel.withHead_rows (ch : Channel) (f : Frame) : (ch.withHead f).rows = ch.rows := rfl
@[simp] theorem Channel.withHead_rowWrite (ch : Channel) (f : Frame) : (ch.withHead f).rowWrite = ch.rowWrite := rfl
@[simp] theorem Channel.withHead_headerWrite (ch : Channel) (f : Frame) : (ch.withHead f).headerWrite = ch.headerWrite := rfl
@[simp] theorem Channel.withHead_captures (ch : Channel) (f : Frame) : (ch.withHead f).captures = ch.captures := rfl
@[simp] theorem Channel.abortFrames_state (ch : Channel) : (ch.abortFrames ).state = ch.state := rfl
@[simp] theorem Channel.abortFrames_faultCause (ch : Channel) : (ch.abortFrames ).faultCause = ch.faultCause := rfl
@[simp] theorem Channel.abortFrames_standing (ch : Channel) : (ch.abortFrames ).standing = ch.standing := rfl
@[simp] theorem Channel.abortFrames_lostEvents (ch : Channel) : (ch.abortFrames ).lostEvents = ch.lostEvents := rfl
@[simp] theorem Channel.abortFrames_ending (ch : Channel) : (ch.abortFrames ).ending = ch.ending := rfl
@[simp] theorem Channel.abortFrames_timer (ch : Channel) : (ch.abortFrames ).timer = ch.timer := rfl
@[simp] theorem Channel.abortFrames_table (ch : Channel) : (ch.abortFrames ).table = ch.table := rfl
@[simp] theorem Channel.abortFrames_link (ch : Channel) : (ch.abortFrames ).link = ch.link := rfl
@[simp] theorem Channel.abortFrames_lastFreed (ch : Channel) : (ch.abortFrames ).lastFreed = ch.lastFreed := rfl
@[simp] theorem Channel.abortFrames_rowWrite (ch : Channel) : (ch.abortFrames ).rowWrite = ch.rowWrite := rfl
@[simp] theorem Channel.abortFrames_headerWrite (ch : Channel) : (ch.abortFrames ).headerWrite = ch.headerWrite := rfl
@[simp] theorem Channel.abortFrames_captures (ch : Channel) : (ch.abortFrames ).captures = ch.captures := rfl
@[simp] theorem Channel.flush_state (ch : Channel) (f : Frame) (missed : Bool) : (ch.flush f missed).state = ch.state := rfl
@[simp] theorem Channel.flush_faultCause (ch : Channel) (f : Frame) (missed : Bool) : (ch.flush f missed).faultCause = ch.faultCause := rfl
@[simp] theorem Channel.flush_standing (ch : Channel) (f : Frame) (missed : Bool) : (ch.flush f missed).standing = ch.standing := rfl
@[simp] theorem Channel.flush_lostEvents (ch : Channel) (f : Frame) (missed : Bool) : (ch.flush f missed).lostEvents = ch.lostEvents := rfl
@[simp] theorem Channel.flush_ending (ch : Channel) (f : Frame) (missed : Bool) : (ch.flush f missed).ending = ch.ending := rfl
@[simp] theorem Channel.flush_timer (ch : Channel) (f : Frame) (missed : Bool) : (ch.flush f missed).timer = ch.timer := rfl
@[simp] theorem Channel.flush_table (ch : Channel) (f : Frame) (missed : Bool) : (ch.flush f missed).table = ch.table := rfl
@[simp] theorem Channel.flush_link (ch : Channel) (f : Frame) (missed : Bool) : (ch.flush f missed).link = ch.link := rfl
@[simp] theorem Channel.flush_lastFreed (ch : Channel) (f : Frame) (missed : Bool) : (ch.flush f missed).lastFreed = ch.lastFreed := rfl
@[simp] theorem Channel.flush_rows (ch : Channel) (f : Frame) (missed : Bool) : (ch.flush f missed).rows = ch.rows := rfl
@[simp] theorem Channel.flush_rowWrite (ch : Channel) (f : Frame) (missed : Bool) : (ch.flush f missed).rowWrite = ch.rowWrite := rfl
@[simp] theorem Channel.flush_headerWrite (ch : Channel) (f : Frame) (missed : Bool) : (ch.flush f missed).headerWrite = ch.headerWrite := rfl
@[simp] theorem Channel.flush_captures (ch : Channel) (f : Frame) (missed : Bool) : (ch.flush f missed).captures = ch.captures := rfl
@[simp] theorem Channel.strayRow_state (ch : Channel) : (ch.strayRow ).state = ch.state := rfl
@[simp] theorem Channel.strayRow_faultCause (ch : Channel) : (ch.strayRow ).faultCause = ch.faultCause := rfl
@[simp] theorem Channel.strayRow_standing (ch : Channel) : (ch.strayRow ).standing = ch.standing := rfl
@[simp] theorem Channel.strayRow_lostEvents (ch : Channel) : (ch.strayRow ).lostEvents = ch.lostEvents := rfl
@[simp] theorem Channel.strayRow_ending (ch : Channel) : (ch.strayRow ).ending = ch.ending := rfl
@[simp] theorem Channel.strayRow_timer (ch : Channel) : (ch.strayRow ).timer = ch.timer := rfl
@[simp] theorem Channel.strayRow_table (ch : Channel) : (ch.strayRow ).table = ch.table := rfl
@[simp] theorem Channel.strayRow_frames (ch : Channel) : (ch.strayRow ).frames = ch.frames := rfl
@[simp] theorem Channel.strayRow_lastFreed (ch : Channel) : (ch.strayRow ).lastFreed = ch.lastFreed := rfl
@[simp] theorem Channel.strayRow_combiner (ch : Channel) : (ch.strayRow ).combiner = ch.combiner := rfl
@[simp] theorem Channel.strayRow_rows (ch : Channel) : (ch.strayRow ).rows = ch.rows := rfl
@[simp] theorem Channel.strayRow_rowWrite (ch : Channel) : (ch.strayRow ).rowWrite = ch.rowWrite := rfl
@[simp] theorem Channel.strayRow_headerWrite (ch : Channel) : (ch.strayRow ).headerWrite = ch.headerWrite := rfl
@[simp] theorem Channel.strayRow_captures (ch : Channel) : (ch.strayRow ).captures = ch.captures := rfl
@[simp] theorem Channel.clearCounters_state (ch : Channel) : (ch.clearCounters ).state = ch.state := rfl
@[simp] theorem Channel.clearCounters_faultCause (ch : Channel) : (ch.clearCounters ).faultCause = ch.faultCause := rfl
@[simp] theorem Channel.clearCounters_standing (ch : Channel) : (ch.clearCounters ).standing = ch.standing := rfl
@[simp] theorem Channel.clearCounters_ending (ch : Channel) : (ch.clearCounters ).ending = ch.ending := rfl
@[simp] theorem Channel.clearCounters_table (ch : Channel) : (ch.clearCounters ).table = ch.table := rfl
@[simp] theorem Channel.clearCounters_frames (ch : Channel) : (ch.clearCounters ).frames = ch.frames := rfl
@[simp] theorem Channel.clearCounters_lastFreed (ch : Channel) : (ch.clearCounters ).lastFreed = ch.lastFreed := rfl
@[simp] theorem Channel.clearCounters_combiner (ch : Channel) : (ch.clearCounters ).combiner = ch.combiner := rfl
@[simp] theorem Channel.clearCounters_rows (ch : Channel) : (ch.clearCounters ).rows = ch.rows := rfl
@[simp] theorem Channel.clearCounters_rowWrite (ch : Channel) : (ch.clearCounters ).rowWrite = ch.rowWrite := rfl
@[simp] theorem Channel.clearCounters_headerWrite (ch : Channel) : (ch.clearCounters ).headerWrite = ch.headerWrite := rfl
@[simp] theorem Channel.clearCounters_captures (ch : Channel) : (ch.clearCounters ).captures = ch.captures := rfl
@[simp] theorem Channel.flush_combiner (ch : Channel) (f : Frame) (missed : Bool) : (ch.flush f missed).combiner = Combiner.empty := rfl
@[simp] theorem Channel.abortFrames_combiner (ch : Channel) : ch.abortFrames.combiner = Combiner.empty := rfl
@[simp] theorem FrameTimer.idled_state (t : FrameTimer) : t.idled.state = .idle := rfl
@[simp] theorem FrameTimer.idled_periodLength (t : FrameTimer) : t.idled.periodLength = t.periodLength := rfl
@[simp] theorem FrameTimer.idled_lineLength (t : FrameTimer) : t.idled.lineLength = t.lineLength := rfl
@[simp] theorem FrameTimer.idled_nextSeq (t : FrameTimer) : t.idled.nextSeq = t.nextSeq := rfl
@[simp] theorem FrameTimer.idled_run (t : FrameTimer) : t.idled.run = t.run := rfl
@[simp] theorem FrameTimer.idled_backlog (t : FrameTimer) : t.idled.backlog = t.backlog := rfl
@[simp] theorem FrameTimer.idled_inputHigh (t : FrameTimer) : t.idled.inputHigh = t.inputHigh := rfl
@[simp] theorem SettingsTable.cleared_working (t : SettingsTable) : t.cleared.working = t.working := rfl
@[simp] theorem SettingsTable.started_working (t : SettingsTable) (k : GoverningSet) : (t.started k).working = t.working := rfl
@[simp] theorem SettingsTable.frameStarted_working (t : SettingsTable) (k : GoverningSet) : (t.frameStarted k).working = t.working := rfl
@[simp] theorem SettingsTable.cleared_committed (t : SettingsTable) : t.cleared.committed = t.committed := rfl
@[simp] theorem SettingsTable.started_committed (t : SettingsTable) (k : GoverningSet) : (t.started k).committed = t.committed := rfl
@[simp] theorem SettingsTable.frameStarted_committed (t : SettingsTable) (k : GoverningSet) : (t.frameStarted k).committed = t.committed := rfl
@[simp] theorem SettingsTable.cleared_genCounter (t : SettingsTable) : t.cleared.genCounter = t.genCounter := rfl
@[simp] theorem SettingsTable.started_genCounter (t : SettingsTable) (k : GoverningSet) : (t.started k).genCounter = t.genCounter := rfl
@[simp] theorem SettingsTable.frameStarted_genCounter (t : SettingsTable) (k : GoverningSet) : (t.frameStarted k).genCounter = t.genCounter := rfl
@[simp] theorem SettingsTable.cleared_latched (t : SettingsTable) : t.cleared.latched = none := rfl
@[simp] theorem SettingsTable.cleared_active (t : SettingsTable) : t.cleared.active = none := rfl
@[simp] theorem SettingsTable.cleared_integration (t : SettingsTable) : t.cleared.integration = none := rfl

/-! ## Sending on a link -/

theorem Link.send_up (l : Link) (m : LinkMsg) (h : l.up = true) : l.send m = { l with sent := l.sent ++ [m] } := by
  simp [Link.send, h]

theorem Link.send_down (l : Link) (m : LinkMsg) (h : l.up = false) : l.send m = l := by
  simp [Link.send, h]

@[simp] theorem Link.send_carrier (l : Link) (m : LinkMsg) : (l.send m).carrier = l.carrier := by
  unfold Link.send; split <;> rfl

@[simp] theorem Link.send_geometry (l : Link) (m : LinkMsg) : (l.send m).geometry = l.geometry := by
  unfold Link.send; split <;> rfl

@[simp] theorem Link.send_headFault (l : Link) (m : LinkMsg) : (l.send m).headFault = l.headFault := by
  unfold Link.send; split <;> rfl

@[simp] theorem Link.send_endMiss (l : Link) (m : LinkMsg) : (l.send m).endMiss = l.endMiss := by
  unfold Link.send; split <;> rfl

@[simp] theorem Link.send_stray (l : Link) (m : LinkMsg) : (l.send m).stray = l.stray := by
  unfold Link.send; split <;> rfl


/-! ## `tryFetch` -/

@[simp] theorem State.tryFetch_regs (s : State) : s.tryFetch.regs = s.regs := by
  unfold State.tryFetch; split <;> rfl

@[simp] theorem State.tryFetch_cpl (s : State) : s.tryFetch.cpl = s.cpl := by
  unfold State.tryFetch; split <;> rfl

@[simp] theorem State.tryFetch_pools (s : State) : s.tryFetch.pools = s.pools := by
  unfold State.tryFetch; split <;> rfl

@[simp] theorem State.tryFetch_chans (s : State) : s.tryFetch.chans = s.chans := by
  unfold State.tryFetch; split <;> rfl

@[simp] theorem State.tryFetch_port (s : State) : s.tryFetch.port = s.port := by
  unfold State.tryFetch; split <;> rfl

@[simp] theorem State.tryFetch_mem (s : State) : s.tryFetch.mem = s.mem := by
  unfold State.tryFetch; split <;> rfl

@[simp] theorem State.tryFetch_pending (s : State) : s.tryFetch.pending = s.pending := by
  unfold State.tryFetch; split <;> rfl

@[simp] theorem State.tryFetch_draws (s : State) : s.tryFetch.draws = s.draws := by
  unfold State.tryFetch; split <;> rfl

end Machine

end Sys2Proof
end

