-- ==== Sys2Proof/Laws/Ops.lean ====
section
/-! SUPPORT. What each shared operation can do, said once: the operations that act on one channel (they keep the registers, the processor, host memory, the other channels, and every record already in the holding queue), the offers, and the processor's passages. -/

namespace Sys2Proof.Machine

/-! ## Acting on one channel -/

/-- `t` comes from `s` by acting on channel `c` alone: the registers, the processor, host memory, the waiting commands, the other channels and the port are kept; records may join the holding queue behind those in it; of the channel's settings table only the copies made by SET are sure to be kept. -/
structure ActsOn (c : ChannelId) (s t : State) : Prop where
  regs : t.regs = s.regs
  proc : t.proc = s.proc
  mem : t.mem = s.mem
  pending : t.pending = s.pending
  others : ∀ d, d ≠ c → t.ch d = s.ch d
  queue : ∃ new, t.cpl.queue = s.cpl.queue ++ new
  tail : t.cpl.tail = s.cpl.tail
  phase : t.cpl.phase = s.cpl.phase
  armed : t.cpl.armed = s.cpl.armed
  write : t.cpl.write = s.cpl.write
  port : t.port = s.port
  working : (t.ch c).table.working = (s.ch c).table.working
  committed : (t.ch c).table.committed = (s.ch c).table.committed
  genCounter : (t.ch c).table.genCounter = (s.ch c).table.genCounter

theorem ActsOn.refl (c : ChannelId) (s : State) : ActsOn c s s :=
  ⟨rfl, rfl, rfl, rfl, fun _ _ => rfl, ⟨[], by simp⟩, rfl, rfl, rfl, rfl, rfl, rfl, rfl, rfl⟩

theorem ActsOn.trans {c : ChannelId} {s t u : State} (h : ActsOn c s t) (k : ActsOn c t u) : ActsOn c s u := by
  obtain ⟨a, ha⟩ := h.queue
  obtain ⟨b, hb⟩ := k.queue
  exact ⟨k.regs.trans h.regs, k.proc.trans h.proc, k.mem.trans h.mem, k.pending.trans h.pending,
    fun d hd => (k.others d hd).trans (h.others d hd), ⟨a ++ b, by rw [hb, ha, List.append_assoc]⟩, k.tail.trans h.tail,
    k.phase.trans h.phase, k.armed.trans h.armed, k.write.trans h.write, k.port.trans h.port, k.working.trans h.working,
    k.committed.trans h.committed, k.genCounter.trans h.genCounter⟩

/-- Acting on channel `c` alone, with no buffer taken and no free choice drawn. -/
structure Settles (c : ChannelId) (s t : State) : Prop extends ActsOn c s t where
  pools : t.pools = s.pools
  draws : t.draws = s.draws

theorem Settles.refl (c : ChannelId) (s : State) : Settles c s s :=
  ⟨ActsOn.refl c s, rfl, rfl⟩

theorem Settles.trans {c : ChannelId} {s t u : State} (h : Settles c s t) (k : Settles c t u) : Settles c s u :=
  ⟨h.toActsOn.trans k.toActsOn, k.pools.trans h.pools, k.draws.trans h.draws⟩

/-- A channel update that keeps what SET made. -/
theorem Settles.upd (c : ChannelId) (s : State) (f : Channel → Channel) (hw : (f (s.ch c)).table.working = (s.ch c).table.working)
    (hc : (f (s.ch c)).table.committed = (s.ch c).table.committed) (hg : (f (s.ch c)).table.genCounter = (s.ch c).table.genCounter) :
    Settles c s (s.upd c f) :=
  ⟨⟨rfl, rfl, rfl, rfl, fun _ hd => State.ch_upd_ne s f hd, ⟨[], by simp⟩, rfl, rfl, rfl, rfl, rfl,
    by rw [State.ch_upd_same]; exact hw, by rw [State.ch_upd_same]; exact hc, by rw [State.ch_upd_same]; exact hg⟩, rfl, rfl⟩

theorem Settles.reserve (c : ChannelId) (s : State) (n : Nat) : Settles c s (s.reserve n) :=
  ⟨⟨rfl, rfl, rfl, rfl, fun _ _ => rfl, ⟨[], by simp⟩, rfl, rfl, rfl, rfl, rfl, rfl, rfl, rfl⟩, rfl, rfl⟩

theorem Settles.place (c : ChannelId) (s : State) (r : Completion) : Settles c s (s.place r) :=
  ⟨⟨rfl, rfl, rfl, rfl, fun _ _ => rfl, ⟨[r], rfl⟩, rfl, rfl, rfl, rfl, rfl, rfl, rfl, rfl⟩, rfl, rfl⟩

theorem Settles.loseEvent (c : ChannelId) (s : State) : Settles c s (s.loseEvent c) :=
  Settles.upd c s _ rfl rfl rfl

theorem Settles.send (c : ChannelId) (s : State) (m : LinkMsg) : Settles c s (s.send c m) :=
  Settles.upd c s _ rfl rfl rfl

/-- R154: an offer is placed with a free credit, or counted lost. -/
theorem State.offer_cases (s : State) (c : ChannelId) (r : Completion) :
    (1 ≤ s.creditsFree ∧ s.offer c r = (s.reserve 1).place r) ∨ (s.creditsFree = 0 ∧ s.offer c r = s.loseEvent c) := by
  unfold State.offer
  split
  · next h => exact .inl ⟨h, rfl⟩
  · next h => exact .inr ⟨by omega, rfl⟩

theorem Settles.offer (c : ChannelId) (s : State) (r : Completion) : Settles c s (s.offer c r) := by
  rcases State.offer_cases s c r with ⟨_, h⟩ | ⟨_, h⟩
  · rw [h]; exact (Settles.reserve c s 1).trans (Settles.place c _ r)
  · rw [h]; exact Settles.loseEvent c s

/-! ## Captures and the close of frames -/

theorem Settles.placeClosed (c : ChannelId) (s : State) (caps : List Capture) : Settles c s (s.placeClosed c caps) := by
  induction caps generalizing s with
  | nil => exact Settles.refl c s
  | cons k rest ih => exact (Settles.place c s _).trans (ih _)

/-- The records that closing captures places: one CAPTURE_CLOSED for each, in order, all with the run number held. -/
theorem State.placeClosed_queue (s : State) (c : ChannelId) (caps : List Capture) :
    (s.placeClosed c caps).cpl.queue = s.cpl.queue ++ caps.map (closedRecord c (s.ch c).timer.run) := by
  induction caps generalizing s with
  | nil => simp [State.placeClosed]
  | cons k rest ih => simp [State.placeClosed, ih, List.append_assoc]

@[simp] theorem State.placeClosed_chans (s : State) (c : ChannelId) (caps : List Capture) : (s.placeClosed c caps).chans = s.chans := by
  induction caps generalizing s with
  | nil => rfl
  | cons k rest ih => exact (ih _).trans rfl

@[simp] theorem State.placeClosed_pools (s : State) (c : ChannelId) (caps : List Capture) : (s.placeClosed c caps).pools = s.pools := by
  induction caps generalizing s with
  | nil => rfl
  | cons k rest ih => exact (ih _).trans rfl

@[simp] theorem State.placeClosed_draws (s : State) (c : ChannelId) (caps : List Capture) : (s.placeClosed c caps).draws = s.draws := by
  induction caps generalizing s with
  | nil => rfl
  | cons k rest ih => exact (ih _).trans rfl

theorem Settles.closeCaptures (c : ChannelId) (s : State) (p : Capture → Bool) : Settles c s (s.closeCaptures c p) :=
  (Settles.placeClosed c s _).trans (Settles.upd c _ _ rfl rfl rfl)

/-- What closing captures leaves: the captures not picked, in their order. -/
theorem State.closeCaptures_captures (s : State) (c : ChannelId) (p : Capture → Bool) :
    ((s.closeCaptures c p).ch c).captures = (s.ch c).captures.filter fun k => !p k := by
  simp [State.closeCaptures]

theorem Settles.framePosted (c : ChannelId) (s : State) (tag : Tag) (whole : Bool) : Settles c s (s.framePosted c tag whole) :=
  (Settles.upd c s _ rfl rfl rfl).trans (Settles.closeCaptures c _ _)

theorem Settles.release (c : ChannelId) (s : State) (f : Frame) (whole : Bool) : Settles c s (s.release c f whole) := by
  unfold State.release
  dsimp only
  split
  · exact Settles.upd c s _ rfl rfl rfl
  · exact (Settles.framePosted c s _ whole).trans (Settles.upd c _ _ rfl rfl rfl)

theorem Settles.closeUnwritten (c : ChannelId) (s : State) (f : Frame) : Settles c s (s.closeUnwritten c f) := by
  unfold State.closeUnwritten
  dsimp only
  split
  · exact (Settles.place c _ _).trans (Settles.release c _ f false)
  · exact Settles.release c _ f false

theorem Settles.giveUpHeaders (c : ChannelId) (s : State) : Settles c s (s.giveUpHeaders c) := by
  unfold State.giveUpHeaders
  split
  · exact Settles.refl c s
  · exact Settles.upd c s _ rfl rfl rfl

/-- R129: while the bus writer writes, no header is given up. -/
theorem State.giveUpHeaders_writing (s : State) (c : ChannelId) (h : s.regs.iface.busWrites = true) : s.giveUpHeaders c = s := by
  simp [State.giveUpHeaders, h]

theorem Settles.advanceFrames (c : ChannelId) (fuel : Nat) (s : State) : Settles c s (s.advanceFrames c fuel) := by
  induction fuel generalizing s with
  | zero => exact Settles.refl c s
  | succ fuel ih =>
    unfold State.advanceFrames
    split
    · exact Settles.refl c s
    · dsimp only
      split
      · exact Settles.refl c s
      · split
        · exact Settles.refl c s
        · split
          · exact Settles.upd c s _ rfl rfl rfl
          · exact (Settles.closeUnwritten c s _).trans (ih _)
      · split
        · exact (Settles.closeUnwritten c s _).trans (ih _)
        · exact Settles.refl c s

/-! ## The end of a run -/

theorem Settles.spendStanding (c : ChannelId) (s : State) (event : ChannelEvent) : Settles c s (s.spendStanding c event) :=
  (Settles.place c s _).trans (Settles.upd c _ _ rfl rfl rfl)

theorem Settles.offerHaltStop (c : ChannelId) (s : State) : Settles c s (s.offerHaltStop c) :=
  Settles.offer c s _

theorem Settles.finishEnding (c : ChannelId) (s : State) (e : Ending) : Settles c s (s.finishEnding c e) := by
  unfold State.finishEnding
  dsimp only
  have h : Settles c s ((((s.upd c fun ch => { ch with captures := ch.captures.map fun k => k.drain e.event.closeReason }).closeCaptures c
      Capture.drained).spendStanding c e.event).upd c fun ch => { ch with state := e.event.endState, table := ch.table.cleared, ending := none }) :=
    (Settles.upd c s _ rfl rfl rfl).trans ((Settles.closeCaptures c _ _).trans ((Settles.spendStanding c _ _).trans (Settles.upd c _ _ rfl rfl rfl)))
  split
  · exact h.trans ((Settles.upd c _ _ rfl rfl rfl).trans (Settles.offerHaltStop c _))
  · exact h

theorem Settles.finishStopping (c : ChannelId) (s : State) : Settles c s (s.finishStopping c) :=
  (Settles.spendStanding c s _).trans (Settles.upd c _ _ rfl rfl rfl)

theorem Settles.checkEnd (c : ChannelId) (s : State) : Settles c s (s.checkEnd c) := by
  unfold State.checkEnd
  split
  · exact Settles.finishEnding c s _
  · split
    · exact Settles.finishStopping c s
    · exact Settles.refl c s
  · exact Settles.refl c s

theorem Settles.settle (c : ChannelId) (s : State) : Settles c s (s.settle c) :=
  (Settles.giveUpHeaders c s).trans ((Settles.advanceFrames c _ _).trans (Settles.checkEnd c _))

theorem Settles.abortRun (c : ChannelId) (s : State) (event : ChannelEvent) : Settles c s (s.abortRun c event) :=
  ((Settles.upd c s _ rfl rfl rfl).trans (Settles.send c _ _)).trans (Settles.settle c _)

theorem Settles.faultChannel (c : ChannelId) (s : State) (cause : FaultCause) : Settles c s (s.faultChannel c cause) := by
  unfold State.faultChannel
  split
  · exact (Settles.upd c s _ rfl rfl rfl).trans (Settles.abortRun c _ _)
  · exact Settles.refl c s

/-- A fault reported to a channel outside a run, or in a run that is ending already, changes nothing (R90, R92). -/
theorem State.faultChannel_outside (s : State) (c : ChannelId) (cause : FaultCause) (h : (s.ch c).inFreeRun = false) :
    s.faultChannel c cause = s := by
  simp [State.faultChannel, h]

/-! ## The command processor -/

/-- R133: what `tryFetch` can do: begin a fetch, or nothing. -/
theorem State.tryFetch_cases (s : State) :
    (s.regs.iface = .active ∧ s.proc.state = .idle ∧ s.regs.cmdHead ≠ s.regs.cmdTail
        ∧ s.tryFetch = { s with proc := { state := .fetching, hand := none, read := s.handedRead } })
      ∨ (¬(s.regs.iface = .active ∧ s.proc.state = .idle ∧ s.regs.cmdHead ≠ s.regs.cmdTail) ∧ s.tryFetch = s) := by
  unfold State.tryFetch
  split
  · next h => exact .inl ⟨h.1, h.2.1, h.2.2, rfl⟩
  · next h => exact .inr ⟨h, rfl⟩

/-- R137: with a record in hand and the interface not QUIESCING, the CMD_RESULT is placed, unused credits go back, the head advances, and the next fetch may begin. -/
theorem State.finishCommand_working (s : State) (h : Hand) (code : ResultCode) (gen : Option Gen) (hh : s.proc.hand = some h)
    (hq : s.regs.iface ≠ .quiescing) :
    s.finishCommand code gen
      = State.tryFetch { (s.place (cmdResultRecord h code gen)).giveBack (h.credits - 1) with
          proc := Processor.reset, regs := { s.regs with cmdHead := (s.regs.cmdHead + 1) % s.regs.cmdSize.toNat } } := by
  simp [State.finishCommand, hh, hq]

/-- R136: the processor's question for credits is answered whole or not at all. -/
theorem State.askCredits_cases (s : State) :
    s.askCredits = s ∨ ∃ h want, s.proc.state = .waitCredit ∧ s.proc.hand = some h ∧ want ≤ s.creditsFree
      ∧ want = (if h.credits = 0 then s.creditNeed (commandOf h.bytes) else 1)
      ∧ s.askCredits = { s.reserve want with
          proc := { s.proc with state := .executing, hand := some { h with credits := h.credits + want } } } := by
  unfold State.askCredits
  split
  · next hw =>
    split
    · exact .inl rfl
    · next h hh =>
      dsimp only
      by_cases hn : (if h.credits = 0 then s.creditNeed (commandOf h.bytes) else 1) ≤ s.creditsFree
      · rw [if_pos hn]
        exact .inr ⟨h, _, hw, hh, hn, rfl, rfl⟩
      · rw [if_neg hn]
        exact .inl rfl
  · exact .inl rfl

/-- The commands of the processor act only on a record that is EXECUTING and not yet taken. -/
theorem State.presented_some (s : State) (cmd : Command) (h : s.presented = some cmd) :
    s.proc.state = .executing ∧ ∃ k, s.proc.hand = some k ∧ k.taken = false ∧ commandOf k.bytes = cmd := by
  unfold State.presented at h
  split at h
  · next he =>
    split at h
    · next k hk =>
      split at h
      · cases h
      · next ht => exact ⟨he, k, hk, by simpa using ht, Option.some.inj h⟩
    · cases h
  · cases h

/-! ## The interface -/

/-- R163: the error message of a halt is the only thing `announceHalt` can add. -/
theorem State.announceHalt_cases (s : State) :
    s.announceHalt = s ∨ (s.regs.intEnable = true ∧ s.port.linkUp = true ∧ s.port.msiEnabled = true
      ∧ s.announceHalt = { s with port := { s.port with messages := s.port.messages ++ [.error] } }) := by
  unfold State.announceHalt State.deliver
  split
  · next hi =>
    split
    · next hp => exact .inr ⟨hi, by simp_all, by simp_all, rfl⟩
    · exact .inl rfl
  · exact .inl rfl

/-- R171: while HALTED a further cause changes nothing. -/
theorem State.enterHalted_again (s : State) (cause : HaltCause) (h : s.regs.iface = .halted) : s.enterHalted cause = s := by
  simp [State.enterHalted, h]

end Sys2Proof.Machine
end

