-- ==== Sys2Proof/Laws/FrameStart.lean ====
section
/-! SUPPORT. What a frame start can do: it acts on its own channel, may take the oldest descriptor of one pool, and takes one free choice at most. -/

namespace Sys2Proof.Machine

theorem ActsOn.drawn (c : ChannelId) (s : State) : ActsOn c s s.drawn :=
  ⟨rfl, rfl, rfl, rfl, fun _ _ => rfl, ⟨[], by simp⟩, rfl, rfl, rfl, rfl, rfl, rfl, rfl, rfl⟩

theorem ActsOn.pools (c : ChannelId) (s : State) (pools : Four (List Descriptor)) : ActsOn c s { s with pools := pools } :=
  ⟨rfl, rfl, rfl, rfl, fun _ _ => rfl, ⟨[], by simp⟩, rfl, rfl, rfl, rfl, rfl, rfl, rfl, rfl⟩

/-- Opening a capture changes the captures alone. -/
@[simp] theorem Channel.opening_table (ch : Channel) : ch.opening.table = ch.table := by
  unfold Channel.opening; split <;> rfl

@[simp] theorem Channel.opening_frames (ch : Channel) : ch.opening.frames = ch.frames := by
  unfold Channel.opening; split <;> rfl

@[simp] theorem Channel.opening_timer (ch : Channel) : ch.opening.timer = ch.timer := by
  unfold Channel.opening; split <;> rfl

@[simp] theorem Channel.opening_link (ch : Channel) : ch.opening.link = ch.link := by
  unfold Channel.opening; split <;> rfl

@[simp] theorem Channel.opening_state (ch : Channel) : ch.opening.state = ch.state := by
  unfold Channel.opening; split <;> rfl

/-- R104, R117: what a buffer take can do to its pool: nothing, or take the oldest descriptor away. -/
theorem State.bufferTake_pools (s : State) (c : ChannelId) (k : Capture) (f : Frame) :
    (s.pools.get k.pool = [] ∧ s.bufferTake c k f = (s, { f with dropReason := some .noBuffer }))
      ∨ ∃ d rest, s.pools.get k.pool = d :: rest ∧ (s.bufferTake c k f).1.pools = s.pools.modify k.pool fun _ => rest := by
  unfold State.bufferTake
  split
  · next h => exact .inl ⟨h, rfl⟩
  · next d rest h =>
    refine .inr ⟨d, rest, h, ?_⟩
    dsimp only
    split <;> rfl

theorem ActsOn.bufferTake (c : ChannelId) (s : State) (k : Capture) (f : Frame) : ActsOn c s (s.bufferTake c k f).1 := by
  unfold State.bufferTake
  split
  · exact ActsOn.refl c s
  · dsimp only
    split
    · exact ActsOn.pools c s _
    · exact (ActsOn.pools c s _).trans (Settles.upd c _ _ (by simp [Channel.onCapture]) (by simp [Channel.onCapture])
        (by simp [Channel.onCapture])).toActsOn

theorem ActsOn.assign (c : ChannelId) (s : State) (f : Frame) : ActsOn c s (s.assign c f).1 := by
  unfold State.assign
  split
  · exact ActsOn.refl c s
  · split
    · split
      · dsimp only
        have h : ∀ k : Capture, ActsOn c s ((s.reserve 1).upd c fun ch => ch.onCapture k.tag fun k => { k with inFlight := k.inFlight + 1 }) :=
          fun k => ((Settles.reserve c s 1).trans (Settles.upd c _ _ rfl rfl rfl)).toActsOn
        split
        · exact h _
        · exact (h _).trans (ActsOn.bufferTake c _ _ _)
      · exact (Settles.loseEvent c s).toActsOn
    · exact ActsOn.refl c s

theorem ActsOn.takeFrame (c : ChannelId) (s : State) (f : Frame) : ActsOn c s (s.takeFrame c f) :=
  (ActsOn.assign c s f).trans (Settles.upd c _ _ rfl rfl rfl).toActsOn

theorem ActsOn.frameStart (c : ChannelId) (s : State) : ActsOn c s (s.frameStart c) := by
  unfold State.frameStart
  split
  · exact ActsOn.refl c s
  · next k _ =>
    dsimp only
    have h : ActsOn c s ((s.upd c fun ch =>
        { ch with state := ch.state.frameStarted (s.ch c).timer.nextSeq, timer := ch.timer.frameStarted k,
                  table := ch.table.frameStarted k }).send c .mark) :=
      ((Settles.upd c s _ rfl rfl rfl).trans (Settles.send c _ _)).toActsOn
    split
    · split
      · split
        · split
          · exact h.trans ((ActsOn.drawn c _).trans ((Settles.offer c _ _).toActsOn.trans (ActsOn.takeFrame c _ _)))
          · exact h.trans ((ActsOn.drawn c _).trans ((ActsOn.takeFrame c _ _).trans (Settles.offer c _ _).toActsOn))
        · exact h.trans ((Settles.offer c _ _).toActsOn.trans (ActsOn.takeFrame c _ _))
      · exact h.trans (ActsOn.takeFrame c _ _)
    · have h' : ActsOn c s (State.backlog _ c) := h.trans (Settles.upd c _ _ rfl rfl rfl).toActsOn
      split
      · exact h'.trans (Settles.offer c _ _).toActsOn
      · exact h'

end Sys2Proof.Machine
end

