-- ==== Sys2Proof/Laws/Memory.lean ====
section
/-! SUPPORT. Host memory: a read after a write, and that every write keeps the canonical form. -/

namespace Sys2Proof.Machine

@[simp] theorem Memory.read_nil (a : Nat) : Memory.read [] a = none := rfl

theorem Memory.read_write_same (m : Memory) (a : Nat) (x : Byte) : (m.write a x).read a = some x := by
  induction m with
  | nil => simp [Memory.write, Memory.read]
  | cons cell rest ih =>
    obtain ⟨b, y⟩ := cell
    unfold Memory.write
    split
    · simp [Memory.read]
    · split
      · simp [Memory.read]
      · next h => simp [Memory.read, h, ih]

theorem Memory.read_write_ne (m : Memory) {a b : Nat} (x : Byte) (h : b ≠ a) : (m.write a x).read b = m.read b := by
  induction m with
  | nil => simp [Memory.write, Memory.read, h]
  | cons cell rest ih =>
    obtain ⟨k, y⟩ := cell
    unfold Memory.write
    split
    · simp [Memory.read, h]
    · split
      · next hk => simp [Memory.read, h, ← hk]
      · simp only [Memory.read, ih]

/-- The addresses listed after a write: the old ones and the one written. -/
theorem Memory.mem_write_addr (m : Memory) (a : Nat) (x : Byte) (cell : Host.Cell) (h : cell ∈ m.write a x) :
    cell.1 = a ∨ ∃ old ∈ m, old.1 = cell.1 := by
  induction m with
  | nil =>
    simp only [Memory.write, List.mem_singleton] at h
    exact .inl (by rw [h])
  | cons head rest ih =>
    obtain ⟨b, y⟩ := head
    unfold Memory.write at h
    split at h
    · rcases List.mem_cons.mp h with h | h
      · exact .inl (by rw [h])
      · exact .inr ⟨cell, h, rfl⟩
    · split at h
      · rcases List.mem_cons.mp h with h | h
        · exact .inl (by rw [h])
        · exact .inr ⟨cell, List.mem_cons_of_mem _ h, rfl⟩
      · rcases List.mem_cons.mp h with h | h
        · exact .inr ⟨(b, y), List.mem_cons_self, by rw [h]⟩
        · rcases ih h with h | ⟨old, hm, he⟩
          · exact .inl h
          · exact .inr ⟨old, List.mem_cons_of_mem _ hm, he⟩

theorem Memory.write_wf (m : Memory) (a : Nat) (x : Byte) (h : m.wf) : (m.write a x).wf := by
  induction m with
  | nil => simp [Memory.write, Memory.wf]
  | cons head rest ih =>
    obtain ⟨b, y⟩ := head
    have hr := List.pairwise_cons.mp h
    unfold Memory.write
    split
    · next hab =>
      refine List.pairwise_cons.mpr ⟨?_, h⟩
      intro cell hc
      rcases List.mem_cons.mp hc with hc | hc
      · rw [hc]; exact hab
      · exact Nat.lt_trans hab (hr.1 cell hc)
    · split
      · next he => exact List.pairwise_cons.mpr ⟨fun cell hc => by rw [he]; exact hr.1 cell hc, hr.2⟩
      · next hab hne =>
        refine List.pairwise_cons.mpr ⟨?_, ih hr.2⟩
        intro cell hc
        rcases Memory.mem_write_addr rest a x cell hc with hc | ⟨old, ho, he⟩
        · show b < cell.1
          omega
        · rw [← he]; exact hr.1 old ho

theorem Memory.writeBytes_wf (m : Memory) (a : Nat) (bytes : List Byte) (h : m.wf) : (m.writeBytes a bytes).wf := by
  induction bytes generalizing m a with
  | nil => exact h
  | cons x rest ih => exact ih _ _ (Memory.write_wf m a x h)

theorem Memory.writeErrored_wf (draw k : Nat) (m : Memory) (a : Nat) (bytes : List Byte) (h : m.wf) :
    (Memory.writeErrored draw k m a bytes).wf := by
  induction bytes generalizing m a k with
  | nil => exact h
  | cons x rest ih =>
    unfold Memory.writeErrored
    refine ih _ _ _ ?_
    split
    · exact Memory.write_wf m a x h
    · exact h

/-- A write of bytes leaves every address outside them as it was. -/
theorem Memory.read_writeBytes_outside (m : Memory) (a : Nat) (bytes : List Byte) (b : Nat) (h : b < a ∨ a + bytes.length ≤ b) :
    (m.writeBytes a bytes).read b = m.read b := by
  induction bytes generalizing m a with
  | nil => rfl
  | cons x rest ih =>
    simp only [List.length_cons] at h
    unfold Memory.writeBytes
    rw [ih (m.write a x) (a + 1) (by omega), Memory.read_write_ne m x (by omega)]

/-- A write of bytes puts each where it belongs. -/
theorem Memory.read_writeBytes_inside (m : Memory) (a : Nat) (bytes : List Byte) (i : Nat) (h : i < bytes.length) :
    (m.writeBytes a bytes).read (a + i) = some (bytes.getD i 0) := by
  induction bytes generalizing m a i with
  | nil => simp at h
  | cons x rest ih =>
    unfold Memory.writeBytes
    cases i with
    | zero => rw [Memory.read_writeBytes_outside _ _ _ _ (by omega)]; exact Memory.read_write_same m a x
    | succ i =>
      simp only [List.length_cons] at h
      have hi : a + (i + 1) = a + 1 + i := by omega
      rw [hi, ih (m.write a x) (a + 1) i (by omega)]
      rfl

/-- A write the port reports an error for leaves every address outside its bytes as it was. -/
theorem Memory.read_writeErrored_outside (draw k : Nat) (m : Memory) (a : Nat) (bytes : List Byte) (b : Nat)
    (h : b < a ∨ a + bytes.length ≤ b) : (Memory.writeErrored draw k m a bytes).read b = m.read b := by
  induction bytes generalizing m a k with
  | nil => rfl
  | cons x rest ih =>
    simp only [List.length_cons] at h
    unfold Memory.writeErrored
    rw [ih (k + 1) _ (a + 1) (by omega)]
    split
    · exact Memory.read_write_ne m x (by omega)
    · rfl

theorem Memory.reset_wf : State.reset.mem.wf := List.Pairwise.nil

@[simp] theorem leBytes_length (k n : Nat) : (leBytes k n).length = k := by
  induction k generalizing n with
  | zero => rfl
  | succ k ih => simp [leBytes, ih]

end Sys2Proof.Machine
end

