-- ==== Sys2Proof/Laws/PerInstr.lean ====
section
/-! SUPPORT. Statements about every command as syntax, one lemma per constructor: the operands of a well-formed command lie in the ranges the manual gives them. -/

namespace Sys2Proof.Laws.OperandRanges

/-- The ranges of 4.1, the 64 bytes of a slot (0.7.4), and the writes that are no other row's (R165). -/
def Statement (i : Instr) : Prop :=
  i.wellFormed = true →
    match i with
    | .row _ _ index _ => index < 3072
    | .frameEnd _ _ rowsSent => rowsSent < 3073
    | .fetchComplete _ (.data bytes) => bytes.length = 64
    | .registerWriteIgnored offset bytes _ => bytes = 4 → offset % 4 = 0 → offset ∉ writableOffsets
    | _ => True

theorem powerOn : Statement .powerOn :=
  fun _ => trivial

theorem functionReset (cause : ResetCause) : Statement (.functionReset cause) :=
  fun _ => trivial

theorem enable (reserved : BitVec 30) : Statement (.enable reserved) :=
  fun _ => trivial

theorem disable (reserved : BitVec 30) : Statement (.disable reserved) :=
  fun _ => trivial

theorem configWrite (reg : ConfigReg) (value : Word) : Statement (.configWrite reg value) :=
  fun _ => trivial

theorem cmdTailWrite (value : Word) : Statement (.cmdTailWrite value) :=
  fun _ => trivial

theorem cplHeadWrite (value : Word) : Statement (.cplHeadWrite value) :=
  fun _ => trivial

theorem ifStatusWrite (value : Word) : Statement (.ifStatusWrite value) :=
  fun _ => trivial

theorem intControlWrite (value : Word) : Statement (.intControlWrite value) :=
  fun _ => trivial

theorem registerWriteIgnored (offset bytes : Nat) (value : Word) : Statement (.registerWriteIgnored offset bytes value) :=
  fun h hb ho => by
    have h2 := (Bool.and_eq_true_iff.mp h).2
    subst hb
    simpa [writeIsIgnored, ho] using h2

theorem portDown : Statement .portDown :=
  fun _ => trivial

theorem busMasteringChange (enabled : Bool) : Statement (.busMasteringChange enabled) :=
  fun _ => trivial

theorem fetchComplete (issue : Issue) (result : FetchResult) : Statement (.fetchComplete issue result) :=
  fun h => by
    cases result with
    | data bytes => simpa [Instr.wellFormed, FetchResult.wellFormed] using h
    | error => trivial

theorem recordRejected : Statement .recordRejected :=
  fun _ => trivial

theorem set : Statement .set :=
  fun _ => trivial

theorem start : Statement .start :=
  fun _ => trivial

theorem stop : Statement .stop :=
  fun _ => trivial

theorem capture : Statement .capture :=
  fun _ => trivial

theorem cancel : Statement .cancel :=
  fun _ => trivial

theorem postBuffers : Statement .postBuffers :=
  fun _ => trivial

theorem reclaim : Statement .reclaim :=
  fun _ => trivial

theorem query : Statement .query :=
  fun _ => trivial

theorem completionWrite (issue : Issue) (error : Bool) : Statement (.completionWrite issue error) :=
  fun _ => trivial

theorem trigger (c : ChannelId) : Statement (.trigger c) :=
  fun _ => trivial

theorem latchPoint (c : ChannelId) : Statement (.latchPoint c) :=
  fun _ => trivial

theorem periodEnd (c : ChannelId) : Statement (.periodEnd c) :=
  fun _ => trivial

theorem hello (c : ChannelId) (msg : HelloMsg) : Statement (.hello c msg) :=
  fun _ => trivial

theorem headStatus (c : ChannelId) (condition : HeadCondition) : Statement (.headStatus c condition) :=
  fun _ => trivial

theorem carrierLost (c : ChannelId) : Statement (.carrierLost c) :=
  fun _ => trivial

theorem row (c : ChannelId) (seq : Seq) (index : Nat) (samples : List Sample) : Statement (.row c seq index samples) :=
  fun h => by simp [Instr.wellFormed] at h; omega

theorem frameEnd (c : ChannelId) (seq : Seq) (rowsSent : Nat) : Statement (.frameEnd c seq rowsSent) :=
  fun h => by simp [Instr.wellFormed] at h; omega

theorem rowWrite (c : ChannelId) (issue : Issue) (error : Bool) : Statement (.rowWrite c issue error) :=
  fun _ => trivial

theorem headerWrite (c : ChannelId) (issue : Issue) (error : Bool) : Statement (.headerWrite c issue error) :=
  fun _ => trivial

theorem carrierPresent (c : ChannelId) : Statement (.carrierPresent c) :=
  fun _ => trivial

theorem hostPortLinkUp : Statement .hostPortLinkUp :=
  fun _ => trivial

theorem messageSignalledInterruptsChange (enabled : Bool) : Statement (.messageSignalledInterruptsChange enabled) :=
  fun _ => trivial

theorem triggerInputLow (c : ChannelId) : Statement (.triggerInputLow c) :=
  fun _ => trivial

theorem writeHandedToHostPort (claim : WriteClaim) : Statement (.writeHandedToHostPort claim) :=
  fun _ => trivial

end Sys2Proof.Laws.OperandRanges
end

