-- ==== Sys2Proof/Laws/Registers.lean ====
section
/-! SUPPORT. The operations on a channel read no register, but for the giving up of headers, which asks whether the bus writer writes: run on `s` with other registers, each gives what it gives on `s`, with those registers. So a record answered in QUIESCING acts as in ACTIVE until its CMD_RESULT (R169). -/

namespace Sys2Proof.Machine

/-- `s` with the registers `r`. -/
def State.withRegs (s : State) (r : Registers) : State :=
  { s with regs := r }

section
variable (s : State) (r r' : Registers) (c : ChannelId)

@[simp] theorem State.withRegs_regs : (s.withRegs r).regs = r := rfl
@[simp] theorem State.withRegs_ch : (s.withRegs r).ch c = s.ch c := rfl
@[simp] theorem State.withRegs_proc : (s.withRegs r).proc = s.proc := rfl
@[simp] theorem State.withRegs_cpl : (s.withRegs r).cpl = s.cpl := rfl
@[simp] theorem State.withRegs_draws : (s.withRegs r).draws = s.draws := rfl
@[simp] theorem State.withRegs_pools : (s.withRegs r).pools = s.pools := rfl
@[simp] theorem State.withRegs_port : (s.withRegs r).port = s.port := rfl
@[simp] theorem State.withRegs_withRegs : (s.withRegs r).withRegs r' = s.withRegs r' := rfl
@[simp] theorem State.withRegs_creditsFree : (s.withRegs r).creditsFree = s.creditsFree := rfl
@[simp] theorem State.withRegs_presented : (s.withRegs r).presented = s.presented := rfl
@[simp] theorem State.withRegs_handCredits : (s.withRegs r).handCredits = s.handCredits := rfl
@[simp] theorem State.upd_withRegs (f : Channel → Channel) : (s.withRegs r).upd c f = (s.upd c f).withRegs r := rfl
@[simp] theorem State.reserve_withRegs (n : Nat) : (s.withRegs r).reserve n = (s.reserve n).withRegs r := rfl
@[simp] theorem State.giveBack_withRegs (n : Nat) : (s.withRegs r).giveBack n = (s.giveBack n).withRegs r := rfl
@[simp] theorem State.place_withRegs (x : Completion) : (s.withRegs r).place x = (s.place x).withRegs r := rfl
@[simp] theorem State.drawn_withRegs : (s.withRegs r).drawn = s.drawn.withRegs r := rfl
@[simp] theorem State.send_withRegs (m : LinkMsg) : (s.withRegs r).send c m = (s.send c m).withRegs r := rfl
@[simp] theorem State.loseEvent_withRegs : (s.withRegs r).loseEvent c = (s.loseEvent c).withRegs r := rfl
@[simp] theorem State.backlog_withRegs : (s.withRegs r).backlog c = (s.backlog c).withRegs r := rfl

@[simp] theorem State.offer_withRegs (x : Completion) : (s.withRegs r).offer c x = (s.offer c x).withRegs r := by
  by_cases h : 1 ≤ s.creditsFree <;> simp [State.offer, h]

@[simp] theorem State.handSpends_withRegs : (s.withRegs r).handSpends = s.handSpends.withRegs r := by
  simp only [State.handSpends, State.withRegs_proc]
  split <;> rfl

@[simp] theorem State.handTaken_withRegs : (s.withRegs r).handTaken = s.handTaken.withRegs r := by
  simp only [State.handTaken, State.withRegs_proc]
  split <;> rfl

/-! ## Captures and frames -/

@[simp] theorem State.placeClosed_withRegs (caps : List Capture) : (s.withRegs r).placeClosed c caps = (s.placeClosed c caps).withRegs r := by
  induction caps generalizing s with
  | nil => rfl
  | cons k rest ih => exact ih (s.place (closedRecord c (s.ch c).timer.run k))

@[simp] theorem State.closeCaptures_withRegs (p : Capture → Bool) :
    (s.withRegs r).closeCaptures c p = (s.closeCaptures c p).withRegs r := by
  simp [State.closeCaptures]

@[simp] theorem State.framePosted_withRegs (tag : Tag) (whole : Bool) :
    (s.withRegs r).framePosted c tag whole = (s.framePosted c tag whole).withRegs r := by
  simp [State.framePosted]

@[simp] theorem State.release_withRegs (f : Frame) (whole : Bool) :
    (s.withRegs r).release c f whole = (s.release c f whole).withRegs r := by
  unfold State.release
  cases f.tag <;> simp

@[simp] theorem State.closeUnwritten_withRegs (f : Frame) : (s.withRegs r).closeUnwritten c f = (s.closeUnwritten c f).withRegs r := by
  unfold State.closeUnwritten
  cases f.credit <;> simp

@[simp] theorem State.advanceFrames_withRegs (fuel : Nat) :
    (s.withRegs r).advanceFrames c fuel = (s.advanceFrames c fuel).withRegs r := by
  induction fuel generalizing s with
  | zero => rfl
  | succ fuel ih =>
    simp only [State.advanceFrames, State.withRegs_ch, State.closeUnwritten_withRegs, State.upd_withRegs, ih]
    split
    · rfl
    · split
      · rfl
      · split
        · rfl
        · split <;> rfl
      · split <;> rfl

/-! ## The end of a run -/

@[simp] theorem State.spendStanding_withRegs (e : ChannelEvent) : (s.withRegs r).spendStanding c e = (s.spendStanding c e).withRegs r := by
  simp [State.spendStanding]

@[simp] theorem State.offerHaltStop_withRegs : (s.withRegs r).offerHaltStop c = (s.offerHaltStop c).withRegs r := by
  simp [State.offerHaltStop]

@[simp] theorem State.finishEnding_withRegs (e : Ending) : (s.withRegs r).finishEnding c e = (s.finishEnding c e).withRegs r := by
  simp only [State.finishEnding, State.upd_withRegs, State.closeCaptures_withRegs, State.spendStanding_withRegs, State.offerHaltStop_withRegs]
  split <;> rfl

@[simp] theorem State.finishStopping_withRegs : (s.withRegs r).finishStopping c = (s.finishStopping c).withRegs r := by
  simp [State.finishStopping]

@[simp] theorem State.checkEnd_withRegs : (s.withRegs r).checkEnd c = (s.checkEnd c).withRegs r := by
  simp only [State.checkEnd, State.withRegs_ch, State.finishEnding_withRegs, State.finishStopping_withRegs]
  split
  · rfl
  · split <;> rfl
  · rfl

/-- The giving up of headers asks the registers only whether the bus writer writes. -/
theorem State.giveUpHeaders_withRegs (h : r.iface.busWrites = s.regs.iface.busWrites) :
    (s.withRegs r).giveUpHeaders c = (s.giveUpHeaders c).withRegs r := by
  simp only [State.giveUpHeaders, State.withRegs_regs, h, State.upd_withRegs]
  split <;> rfl

theorem State.settle_withRegs (h : r.iface.busWrites = s.regs.iface.busWrites) : (s.withRegs r).settle c = (s.settle c).withRegs r := by
  simp [State.settle, State.giveUpHeaders_withRegs s r c h]

theorem State.abortRun_withRegs (e : ChannelEvent) (h : r.iface.busWrites = s.regs.iface.busWrites) :
    (s.withRegs r).abortRun c e = (s.abortRun c e).withRegs r := by
  simp only [State.abortRun, State.upd_withRegs, State.send_withRegs]
  exact State.settle_withRegs _ r c h

/-! ## The frame start -/

theorem State.bufferTake_withRegs (k : Capture) (f : Frame) :
    (s.withRegs r).bufferTake c k f = (((s.bufferTake c k f).1).withRegs r, (s.bufferTake c k f).2) := by
  simp only [State.bufferTake, State.withRegs_pools]
  split
  · rfl
  · split <;> rfl

theorem State.assign_withRegs (f : Frame) :
    (s.withRegs r).assign c f = (((s.assign c f).1).withRegs r, (s.assign c f).2) := by
  simp only [State.assign, State.withRegs_ch, State.withRegs_creditsFree, State.reserve_withRegs, State.upd_withRegs,
    State.loseEvent_withRegs, State.bufferTake_withRegs]
  split
  · rfl
  · split
    · split
      · split <;> rfl
      · rfl
    · rfl

@[simp] theorem State.takeFrame_withRegs (f : Frame) : (s.withRegs r).takeFrame c f = (s.takeFrame c f).withRegs r := by
  simp [State.takeFrame, State.assign_withRegs]

@[simp] theorem State.frameAsks_withRegs (f : Frame) : (s.withRegs r).frameAsks c f = s.frameAsks c f := rfl

@[simp] theorem State.frameStart_withRegs : (s.withRegs r).frameStart c = (s.frameStart c).withRegs r := by
  simp only [State.frameStart, State.withRegs_ch, State.upd_withRegs, State.send_withRegs, State.withRegs_creditsFree,
    State.frameAsks_withRegs, State.withRegs_draws, State.drawn_withRegs, State.offer_withRegs, State.takeFrame_withRegs,
    State.backlog_withRegs]
  split
  · rfl
  · split
    · split
      · split
        · split <;> rfl
        · rfl
      · rfl
    · split <;> rfl

/-! ## The entry to DISABLED -/

theorem State.settleAll_withRegs (h : r.iface.busWrites = s.regs.iface.busWrites) :
    (s.withRegs r).eachChannel (fun d t => t.settle d) = (s.eachChannel fun d t => t.settle d).withRegs r := by
  have k : ∀ (t : State) (d : ChannelId), (t.settle d).regs = t.regs := fun t d => (Settles.settle d t).regs
  simp only [State.eachChannel]
  rw [State.settle_withRegs s r 0 h, State.settle_withRegs _ r 1 (by rw [k]; exact h), State.settle_withRegs _ r 2 (by rw [k, k]; exact h),
    State.settle_withRegs _ r 3 (by rw [k, k, k]; exact h)]

/-- The entry to DISABLED asks the registers nothing. -/
theorem State.enterDisabled_withRegs : (s.withRegs r).enterDisabled = s.enterDisabled.withRegs { r with iface := .disabled } :=
  State.settleAll_withRegs (s.withRegs { s.regs with iface := .disabled }) { r with iface := .disabled } rfl

/-- The registers of a record answered as in ACTIVE with the ring empty behind it. -/
def Registers.lastRecord (r : Registers) : Registers :=
  { r with iface := .active, cmdTail := (r.cmdHead + 1) % r.cmdSize.toNat }

/-- R169: in QUIESCING the CMD_RESULT of the record in hand is placed as in ACTIVE with the ring empty behind it, and then the interface enters DISABLED. -/
theorem State.finishCommand_quiescing (h : Hand) (code : ResultCode) (gen : Option Gen) (hh : s.proc.hand = some h)
    (hq : s.regs.iface = .quiescing) :
    s.finishCommand code gen = (((s.withRegs s.regs.lastRecord).finishCommand code gen).enterDisabled).withRegs
        { s.regs with iface := .disabled, cmdHead := (s.regs.cmdHead + 1) % s.regs.cmdSize.toNat }
      ∧ ((s.withRegs s.regs.lastRecord).finishCommand code gen).proc = Processor.reset
      ∧ ((s.withRegs s.regs.lastRecord).finishCommand code gen).regs.iface = .active := by
  have e : (s.withRegs s.regs.lastRecord).finishCommand code gen
      = State.withRegs { (s.place (cmdResultRecord h code gen)).giveBack (h.credits - 1) with proc := Processor.reset }
          { s.regs.lastRecord with cmdHead := (s.regs.cmdHead + 1) % s.regs.cmdSize.toNat } := by
    rw [State.finishCommand_working (s.withRegs s.regs.lastRecord) h code gen hh IfState.noConfusion]
    exact if_neg fun x => x.2.2 rfl
  have w : s.finishCommand code gen
      = State.enterDisabled (State.withRegs { (s.place (cmdResultRecord h code gen)).giveBack (h.credits - 1) with proc := Processor.reset }
          { s.regs with cmdHead := (s.regs.cmdHead + 1) % s.regs.cmdSize.toNat }) := by
    simp only [State.finishCommand, hh]
    exact if_pos hq
  refine ⟨?_, by rw [e]; rfl, by rw [e]; rfl⟩
  rw [e, w, State.enterDisabled_withRegs, State.enterDisabled_withRegs, State.withRegs_withRegs]

end

end Sys2Proof.Machine
end

