-- ==== Sys2Proof/Tests/Slice0.lean ====
section
/-! SUPPORT. Small tests: the refusals of WellFormed, the manual's own tables and examples one step at a time, and for every statement with premises a state and operands that meet them, clause by clause at the boundary values. -/

namespace Sys2Proof.Tests

open Sys2Proof Sys2Proof.Machine

/-! ## Small states -/

/-- A head of 2048 columns and 1536 rows with both depths. -/
def geo : Geometry :=
  ⟨2048, 1536, true, true, 63, 1⟩

/-- A complete set: `rows` rows of 64 columns from the corner, 40 lines of 700 units, exposure 30. -/
def fullSet (m : Mode) (rows : Nat) (src : StartSource) : FullSettings :=
  ⟨m, .d12, .normal, 0, rows, 0, 64, none, 700, 40, 0, src, 30⟩

/-- The same set as a settings record. -/
def recordOf (f : FullSettings) : Settings :=
  { mode := some f.mode, depth := some f.depth, flip := some f.flip, vStart := some f.vStart, vRows := some f.vRows,
    hStart := some f.hStart, hWidth := some f.hWidth, gain := f.gain, lp := some f.lp, lf := some f.lf, stretch := some f.stretch,
    startSource := some f.startSource, exposure := some f.exposure }

/-- The interface ACTIVE with rings of 64 and 32 slots and an aperture of 4 MiB, the port open for everything. -/
def live : State :=
  { State.reset with
    regs := { Registers.reset with
      iface := .active, intEnable := true, apertureSize := 4, cplBaseLo := 4096, cmdSize := 64, cplSize := 32 }
    port := { Port.reset with linkUp := true, busMastering := true, msiEnabled := true } }

/-- Channel 0 changed by `f`. -/
def on0 (f : Channel → Channel) (s : State) : State :=
  s.upd 0 f

/-- `live` with the head of channel 0 present and a complete set of generation 1 committed. -/
def ready (src : StartSource) (report : Bool) : State :=
  live.upd 0 fun ch => { ch with
    link := { ch.link with geometry := some geo }
    table := { ch.table with
      working := recordOf (fullSet .full 16 src), genCounter := 1
      committed := some ⟨recordOf (fullSet .full 16 src), 1, report⟩ } }

/-- Channel 0 RUNNING, in frame 1 of run 1, at line 0. -/
def running (src : StartSource) (report : Bool) : State :=
  ((ready src report).upd 0 fun ch => { ch with
    state := .running, standing := true
    timer := { ch.timer with
      state := .period, periodLength := 40, lineLength := 700, pending := some src, nextSeq := 2, run := 1 }
    table := { ch.table with
      latched := some ⟨fullSet .full 16 src, 1, report⟩, active := some ⟨fullSet .full 16 src, 1, report⟩
      integration := some ⟨30, 1⟩ } }).reserve 1

/-- Channel 0 at line `n`. -/
def atLine (n : Nat) (s : State) : State :=
  s.upd 0 fun ch => { ch with timer := { ch.timer with line := n } }

/-- Channel 0 waiting for a trigger. -/
def waiting (s : State) : State :=
  s.upd 0 fun ch => { ch with timer := { ch.timer with state := .waiting } }

/-- Channel 0 in state `st`. -/
def inState (st : ChannelState) (s : State) : State :=
  s.upd 0 fun ch => { ch with state := st }

/-- A record in hand, EXECUTING with `credits`. -/
def inHand (bytes : List Byte) (credits : Nat) (s : State) : State :=
  { s with
    regs := { s.regs with cmdTail := (s.regs.cmdHead + 1) % 64 }
    cpl := { s.cpl with reserved := s.cpl.reserved + credits }
    proc := { state := .executing, hand := some ⟨s.regs.cmdHead, bytes, credits, false⟩, read := none } }

/-- `n` records wait in the holding queue. -/
def queued (n : Nat) (s : State) : State :=
  { s with cpl := { s.cpl with queue := List.replicate n (.triggerMissed 0 1 0) } }

/-- A buffer of 2112 bytes, the frame size needed by 64 × 16 in FULL (R49). -/
def buf : Descriptor :=
  ⟨0x1000, 2112, 7⟩

/-- Frame 1 READING in context 0, untaken. -/
def frame : Frame :=
  newFrame .ctx0 1 1 ⟨fullSet .full 16 .trigger, 1, false⟩ ⟨30, 1⟩ false

/-- Frame 1 READING in context 0, taken by tag 5 with a buffer. -/
def framed : Frame :=
  { frame with tag := some 5, hold := .buffer buf, credit := true }

/-- Capture 5 of pool 0, OPEN, with no count, `n` frames in flight. -/
def capture (n : Nat) : Capture :=
  { tag := 5, pool := 0, count := 0, remaining := 0, guardGen := none, delivered := 0, inFlight := n, state := .opened, reason := none }

/-- Channel 0 with one more frame, which its combiner serves if it is READING. -/
def withFrame (f : Frame) (s : State) : State :=
  (s.upd 0 fun ch => { ch with
    frames := ch.frames ++ [f], combiner := if f.stage = .reading then Combiner.fresh f.ctx 0 f.snapshot.outWidth else ch.combiner }).reserve
    (bitNat f.credit)

/-- Channel 0 with one more capture. -/
def withCapture (k : Capture) (s : State) : State :=
  (s.upd 0 fun ch => { ch with captures := ch.captures ++ [k] }).reserve 1

/-- Channel 0 with one more row in its output row queue. -/
def withRow (r : OutputRow) (s : State) : State :=
  s.upd 0 fun ch => { ch with rows := ch.rows ++ [r] }

/-- `running` with frame 1 taken by the OPEN capture 5. -/
def capturing (src : StartSource) : State :=
  withFrame framed (withCapture (capture 1) (running src false))

/-! ## WellFormed refuses an ill-formed operand -/

theorem test_wf_writable_offset : (Instr.registerWriteIgnored 0x2C 4 0).wellFormed = false := by decide
theorem test_wf_readonly_offset : (Instr.registerWriteIgnored 0x30 4 0).wellFormed = true := by decide
theorem test_wf_access_width : (Instr.registerWriteIgnored 0x30 3 0).wellFormed = false := by decide
theorem test_wf_slot_size : (Instr.fetchComplete .current (.data (List.replicate 63 0))).wellFormed = false := by decide
theorem test_wf_row_index : (Instr.row 0 0 3072 []).wellFormed = false := by decide
theorem test_wf_rows_sent : (Instr.frameEnd 0 0 3073).wellFormed = false := by decide

/-- No row of the table gives bits. -/
theorem test_no_word_spells_a_command : decodeTableWord 8 1 = none := by decide

/-! ## The manual's tables -/

/-- R49's table: pitch and frame size needed. -/
theorem test_r49_mean3 : (let p := { (fullSet .mean3 1023 .timer).snapshot with hWidth := 2040 }; (p.outWidth, p.pitch, p.outRows, p.frameSize))
    = (680, 1408, 341, 480192) := by decide
theorem test_r49_vbin4 : (let p := { (fullSet .vbin4 64 .timer).snapshot with hWidth := 520 }; (p.outWidth, p.pitch, p.outRows, p.frameSize))
    = (520, 1088, 16, 17472) := by decide
theorem test_r49_skip2 : (let p := { (fullSet .skip2 600 .timer).snapshot with hWidth := 1024 }; (p.outWidth, p.pitch, p.outRows, p.frameSize))
    = (512, 1024, 300, 307264) := by decide

/-- R51: for N = 4 the sum itself, for N = 2 twice the sum, and at most 16,380. -/
theorem test_r51_words : (Mode.mean2.word 7, Mode.skip2.word 7, Mode.full.word 7, Mode.mean3.word (9 * 4095), Mode.mean3.word 1)
    = (7, 14, 7, 16380, 0) := by decide

/-- C8 for a head of 2048 columns: 632 units a line at depth 12, 376 at depth 10 (R28). -/
theorem test_c8_shortest_line : (geo.shortestLine .d12, geo.shortestLine .d10) = (632, 376) := by decide

/-- 11.2: a STOP with ABORT of channel 3, and a kind code that names no command. -/
theorem test_record_stop : commandOf [3, 3, 1, 0, 9, 0, 0, 0] = .stop 3 true := by decide
theorem test_record_bad_kind : commandOf [9, 0, 0, 0, 9, 0, 0, 0] = .rejected .badKind := by decide

/-! ## The manual's examples, one step at a time -/

/-- What a step leaves in the state it answers with. -/
def after {α : Type} (i : Instr) (s : State) (f : State → α) : Option α :=
  match exec i s with
  | .next t => some (f t)
  | .fault _ => none
  | .refused _ => none

/-- 1.7 at 6.00 ms: a trigger in a trigger-started frame's period is missed. -/
theorem test_1_7_trigger_missed : after (.trigger 0) (running .trigger false) (fun t => (t.cpl.queue, (t.ch 0).timer.state))
    = some ([.triggerMissed 0 1 1], .period) := by decide

/-- 1.7 at 7.00 ms: the period ends, and the timer waits. -/
theorem test_1_7_period_end : after (.periodEnd 0) (atLine 24 (running .trigger false)) (fun t => (t.ch 0).timer.state) = some .waiting := by decide

/-- 1.7 at 9.30 ms: a trigger in WAITING starts the frame, with the mark to the head. -/
theorem test_1_7_trigger_starts : after (.trigger 0) (waiting (running .trigger false))
    (fun t => ((t.ch 0).timer.nextSeq, (t.ch 0).link.sent, (t.ch 0).frames.map Frame.seq)) = some (3, [.mark], [2]) := by decide

/-- 1.7 at 12.00 ms: a STOP withdraws the frame that waits for its trigger. -/
theorem test_1_7_stop_withdraws : after .stop (inHand [3, 0] 1 (waiting (running .trigger false)))
    (fun t => ((t.ch 0).state, (t.ch 0).timer.state, (t.ch 0).link.sent)) = some (.off, .idle, [.halt]) := by decide

/-- 3.10: a VBIN4 frame of 64 rows at next row 10, group 2 open with two rows, over a head of 64 columns. -/
def vbin : State :=
  (withFrame { framed with snapshot := (fullSet .vbin4 64 .timer).snapshot, nextRow := 10, produced := 2 } (running .timer false)).upd 0 fun ch =>
    { ch with
      link := { ch.link with geometry := some { geo with width := 64 } }
      combiner := { ch.combiner with group := 2, rowsInGroup := 2 } }

/-- 3.10: row 13 with row 10 expected. -/
theorem test_3_10_gap : after (.row 0 1 13 (List.replicate 64 1)) vbin (fun t =>
    ((t.ch 0).frames.map fun f => (f.nextRow, f.produced, f.lost, f.flags.gap), (t.ch 0).rows))
    = some ([(14, 2, 2, true)], [⟨.ctx0, 2, none⟩]) := by decide

/-- 3.10: group 3 is then open, with one row and the invalid mark. -/
theorem test_3_10_open_group : after (.row 0 1 13 (List.replicate 64 1)) vbin (fun t =>
    ((t.ch 0).combiner.group, (t.ch 0).combiner.rowsInGroup, (t.ch 0).combiner.invalid)) = some (3, 1, true) := by decide

/-- 3.10: a repeat of a row is stray. -/
theorem test_3_10_repeat : after (.row 0 1 9 (List.replicate 64 1)) vbin (fun t =>
    ((t.ch 0).link.stray, (t.ch 0).frames.map Frame.nextRow)) = some (1, [10]) := by decide

/-- 3.10: FRAME_END with two rows of the last group outstanding. -/
theorem test_3_10_short : after (.frameEnd 0 1 62) (vbin.upd 0 fun ch => { ch with frames := ch.frames.map fun f => { f with nextRow := 62, lost := 2 } })
    (fun t => (t.ch 0).frames.map fun f => (f.stage, f.lost, f.flags.short)) = some [(.closing, 3, true)] := by decide

/-- 4.7: the second missed frame end in a row faults the channel with HEAD_SILENT; the captures and the frame end. -/
theorem test_4_7_first_miss : after (.latchPoint 0) (capturing .timer) (fun t =>
    ((t.ch 0).link.endMiss, (t.ch 0).state, (t.ch 0).frames.map fun f => (f.stage, f.lost, f.flags.short)))
    = some (1, .running, [(.closing, 16, true)]) := by decide

/-- 5.4: a FAULT of the head; with no frame in use the captures close and the event follows. -/
theorem test_5_4_head_fault : after (.headStatus 0 (.fault 3)) (withCapture (capture 0) (running .timer false)) (fun t =>
    ((t.ch 0).state, (t.ch 0).link.sent, t.cpl.queue, t.cpl.reserved))
    = some (.faulted, [.halt], [.captureClosed ⟨0, 1, 5, 0, .fault, 0⟩, .channelEvent 0 1 (.faulted (.headFault 3)) 2], 0) := by decide

/-- 8.10 at 0.01 ms: a kind that names no command. -/
theorem test_8_10_bad_kind : after .recordRejected (inHand [9, 7, 0, 0, 5] 1 live) (fun t => (t.cpl.queue, t.regs.cmdHead, t.proc.state))
    = some ([.cmdResult ⟨0, 9, 7, 5, .badKind, none⟩], 1, .idle) := by decide

/-- 10.10: CMD_TAIL = 64 with 64 slots halts the interface, stops channel 0 and ends the command in hand. -/
theorem test_10_10_tail_past_ring : after (.cmdTailWrite 64) (inHand [7, 2] 1 (running .timer false)) (fun t =>
    (t.regs.iface, t.regs.haltCause, t.regs.cmdTail, t.proc.state)) = some (.halted, .ringIndex, 1, .idle) := by decide

/-- 10.10: channel 0 is OFF with STOPPED (HALT) queued, and the error message is sent. -/
theorem test_10_10_channel_stopped : after (.cmdTailWrite 64) (inHand [7, 2] 1 (running .timer false)) (fun t =>
    ((t.ch 0).state, t.cpl.queue, t.port.messages)) = some (.off, [.channelEvent 0 1 (.stopped .halt) 2], [.error]) := by decide

/-- 10.10: RING_SIZES written in HALTED. -/
theorem test_10_10_config_ignored : after (.configWrite .ringSizes 0x00100010) { live with regs := { live.regs with iface := .halted } }
    (fun t => (t.regs.configIgnored, t.regs.cmdSize)) = some (true, 64) := by decide

/-! ## Sound states -/

/-- `queueSound` as a check that does not run through every tag there is. -/
def soundQueue (ch : Channel) : Bool :=
  decide (ch.captures.Pairwise fun j k => j.tag ≠ k.tag)
    && (!ch.state.runs || ch.standingCaptures.head?.all (fun k => k.state == .opened) && ch.standingCaptures.tail.all (fun k => k.state == .queued))
    && (ch.state.runs || ch.captures.all (fun k => k.state != .opened))
    && ch.captures.all (fun k => k.state != .draining || k.reason.isSome && k.inFlight != 0)
    && ch.captures.all (fun k => k.inFlight == (ch.frames.filter fun f => f.tag == some k.tag).length)
    && ch.frames.all (fun f => f.tag.all fun t => ch.captures.any fun k => k.tag == t)

theorem sound_of (ch : Channel) (h : soundQueue ch = true) : ch.queueSound := by
  simp only [soundQueue, Bool.and_eq_true, Bool.or_eq_true, Bool.not_eq_true', decide_eq_true_eq, List.all_eq_true, List.any_eq_true,
    Option.all_eq_true, beq_iff_eq, bne_iff_ne] at h
  obtain ⟨⟨⟨⟨⟨h1, h2⟩, h3⟩, h4⟩, h5⟩, h6⟩ := h
  refine ⟨h1, fun hr => ?_, fun hr => ?_, fun k hk hd => ?_, h5, fun f hf t ht => h6 f hf t ht⟩
  · rcases h2 with h2 | h2
    · rw [hr] at h2; cases h2
    · exact h2
  · rcases h3 with h3 | h3
    · rw [hr] at h3; cases h3
    · exact h3
  · rcases h4 k hk with h | h
    · exact absurd hd h
    · exact h

/-- The credit ledger, the row accounts and the four capture queues are sound. -/
structure Sound (s : State) : Prop where
  ledger : s.ledger
  rows : s.rowsSound
  queues : ∀ c : ChannelId, (s.ch c).queueSound

/-- `Sound` as a check. -/
def soundState (s : State) : Bool :=
  decide s.ledger && decide s.rowsSound && decide (∀ c : ChannelId, soundQueue (s.ch c) = true)

theorem of_sound {s : State} (h : soundState s = true) : Sound s := by
  simp only [soundState, Bool.and_eq_true, decide_eq_true_eq] at h
  exact ⟨h.1.1, h.1.2, fun c => sound_of _ (h.2 c)⟩

/-! ## Frames at the end of their life -/

/-- Frame 1 with all its rows written, in CLOSING. -/
def closed : Frame :=
  { framed with stage := .closing, nextRow := 16, produced := 16, lostEvents := some 0 }

/-- A valid output row of 64 words. -/
def outRow : OutputRow :=
  ⟨.ctx0, 0, some (List.replicate 64 7)⟩

/-- A DRAINING frame with its last row in the queue, and a CLOSING one. -/
def drainingRow : State :=
  withRow outRow (withFrame { framed with stage := .draining, nextRow := 16, produced := 15 } (withCapture (capture 1) (running .timer false)))

def closingFrame : State :=
  withFrame closed (withCapture (capture 1) (running .timer false))

/-- The port holds a row write of channel 0, or a header write. -/
def handRow0 (s : State) : State :=
  on0 (fun ch => { ch with rowWrite := some ⟨0x1040, [1, 2]⟩ }) s

def handHeader0 (s : State) : State :=
  on0 (fun ch => { ch with headerWrite := some ⟨0x1000, [1, 2]⟩ }) s

/-- The end of channel 0's run waits for its frames, now aborted, to close. -/
def endingWith (event : ChannelEvent) (thenHalt : Bool) (s : State) : State :=
  on0 (fun ch => { ch with
    ending := some ⟨event, thenHalt⟩, timer := ch.timer.idled, combiner := Combiner.empty
    frames := ch.frames.map fun f => { f with flags := { f.flags with aborted := true } } }) s

/-- Every frame of channel 0 has given its header up. -/
def headerless (s : State) : State :=
  on0 (fun ch => { ch with frames := ch.frames.map fun f => { f with noHeader := true } }) s

/-- The interface in state `i`. -/
def inIface (i : IfState) (s : State) : State :=
  { s with regs := { s.regs with iface := i } }

/-- A STOP with ABORT of channel 0 in hand that the channel has taken. -/
def stopTaken (st : ProcState) (s : State) : State :=
  { s with
    cpl := { s.cpl with reserved := s.cpl.reserved + 1 }
    proc := { state := st, hand := some ⟨s.regs.cmdHead, [3, 0, 1], 1, true⟩, read := none } }

/-! ## Premises that are met: steps, registers, HALTED -/

theorem witness_StepRunsFrontCommand : { State.reset with pending := [.start, .stop] }.pending = .start :: [.stop] := rfl

/-- Four timers: inside a line, at the end of the line before the latch point's line, of the one below it, and of the last line but one. -/
def fourTimers : State :=
  let t (line lineTime : Nat) : Channel :=
    { Channel.reset with timer := { FrameTimer.reset with state := .period, line := line, lineTime := lineTime, periodLength := 40, lineLength := 700 } }
  { State.reset with chans := ⟨t 0 698, t 22 699, t 23 699, t 38 699⟩ }

theorem witness_IdleStepLetsTenNanosecondsPass : fourTimers.pending = [] ∧ (∀ c, (fourTimers.ch c).timer.state = .period)
    ∧ (State.reset.ch 0).timer.state ≠ .period
    ∧ (fourTimers.ch 0).timer.lineTime + 1 < 700 ∧ 700 ≤ (fourTimers.ch 1).timer.lineTime + 1
    ∧ (fourTimers.ch 1).timer.line + 17 < 40 ∧ (fourTimers.ch 2).timer.line + 17 = 40
    ∧ 40 ≤ (fourTimers.ch 3).timer.line + 16 ∧ (fourTimers.ch 3).timer.line + 1 < 40 := by decide

/-- The end of the last line of the period. -/
theorem witness_IdleStepLetsTenNanosecondsPass_last :
    let s := on0 (fun ch => { ch with timer := { (fourTimers.ch 3).timer with line := 39 } }) State.reset
    s.pending = [] ∧ (s.ch 0).timer.state = .period ∧ (s.ch 0).timer.lineLength ≤ (s.ch 0).timer.lineTime + 1
      ∧ (s.ch 0).timer.periodLength ≤ (s.ch 0).timer.line + 1 := by decide

/-- A row, a header and a record write are out at the port. -/
def writesOut : State :=
  let w : BusWrite := ⟨0x1000, [1, 2]⟩
  { on0 (fun ch => { ch with rowWrite := some w, headerWrite := some w }) (queued 1 live) with
    cpl := { (queued 1 live).cpl with write := some w } }

theorem witness_FunctionResetKeepsTheHeads : (∃ w, w ∈ (writesOut.ch 0).rowWrite) ∧ (∃ w, w ∈ (writesOut.ch 0).headerWrite)
    ∧ (∃ w, w ∈ writesOut.cpl.write) ∧ (inHand [2] 2 live).proc.read = none
    ∧ { live.proc with read := some ⟨0, 64⟩ }.read = some ⟨0, 64⟩ := ⟨⟨_, rfl⟩, ⟨_, rfl⟩, ⟨_, rfl⟩, rfl, rfl⟩

/-- The index registers at their greatest value, a read of a register's last bytes, and one beyond a register's end. -/
theorem witness_RegistersReadTheirLayout : ({ live.regs with cmdTail := 4095 }.cmdTail < 4096 ∧ { live.regs with cmdHead := 4095 }.cmdHead < 4096
    ∧ { live.regs with cplHead := 4095 }.cplHead < 4096) ∧ 0x34 < 0x35 ∧ 0x2E % 4 + 2 ≤ 4 ∧ 4 < 0x2F % 4 + 2 := by decide

/-- A narrow read of RING_SIZES: its upper half is the completion ring's size. -/
theorem test_r165_narrow_read : live.readRegisterBytes 0x2A 2 = [32, 0] := by decide

/-- DISABLED, the rings at their least and greatest size, the completion ring ending where the aperture ends. -/
def fitting : State :=
  { State.reset with regs := { Registers.reset with
      apertureBase := 1, apertureSize := 1, cmdBaseLo := 0x100000, cmdSize := 16, cplBaseLo := 0x1E0000, cplSize := 4096, cmdTail := 15 } }

theorem witness_EnableMakesTheFourChecks : fitting.regs.iface = .disabled
    ∧ ((∃ k, 4 ≤ k ∧ k ≤ 12 ∧ fitting.regs.cmdSize.toNat = 2 ^ k) ∧ (∃ k, 4 ≤ k ∧ k ≤ 12 ∧ fitting.regs.cplSize.toNat = 2 ^ k)
      ∧ (fitting.regs.cmdBase % 64 = 0 ∧ fitting.regs.apertureBase.toNat * 1048576 ≤ fitting.regs.cmdBase
        ∧ fitting.regs.cmdBase + 64 * fitting.regs.cmdSize.toNat ≤ (fitting.regs.apertureBase.toNat + fitting.regs.apertureSize.toNat) * 1048576)
      ∧ (fitting.regs.cplBase % 64 = 0 ∧ fitting.regs.apertureBase.toNat * 1048576 ≤ fitting.regs.cplBase
        ∧ fitting.regs.cplBase + 32 * fitting.regs.cplSize.toNat ≤ (fitting.regs.apertureBase.toNat + fitting.regs.apertureSize.toNat) * 1048576)) :=
  ⟨rfl, ⟨4, by decide⟩, ⟨12, by decide⟩, by decide, by decide⟩

/-- The completion ring one slot past the aperture: one check is false. QUIESCING, ACTIVE and HALTED are each some state's. -/
theorem witness_EnableMakesTheFourChecks_refused :
    ¬ ({ fitting.regs with cplBaseLo := 0x1E0040 }.cplBase + 32 * fitting.regs.cplSize.toNat
        ≤ (fitting.regs.apertureBase.toNat + fitting.regs.apertureSize.toNat) * 1048576)
    ∧ { live.regs with iface := .quiescing }.iface = .quiescing ∧ (inHand [2] 2 live).proc.state ≠ .idle
    ∧ live.regs.iface = .active ∧ { live.regs with iface := .halted }.iface = .halted := by decide

theorem witness_DisableQuiescesOrDisables : (inHand [2] 2 live).regs.iface = .active ∧ (inHand [2] 2 live).proc.state ≠ .idle
    ∧ State.reset.regs.iface ≠ .active := by decide

/-- A fault's aborted frame: with its header to write, with that header at the port, and with a row at the port. -/
def faultedClosing : State :=
  endingWith (.faulted .linkLost) false closingFrame

def faultedDraining : State :=
  endingWith (.faulted .linkLost) false (handRow0 drainingRow)

theorem witness_DisableQuiescesOrDisables_frames : Sound (capturing .timer) ∧ Sound faultedClosing ∧ Sound (handHeader0 faultedClosing)
    ∧ Sound faultedDraining ∧ faultedClosing.regs.iface = .active ∧ faultedClosing.proc.state = .idle ∧ (faultedClosing.ch 0).ending ≠ none
    ∧ (faultedClosing.ch 0).frames.map (fun f => (f.tag, f.credit, f.hold, f.flags.aborted)) = [(some 5, true, .buffer buf, true)]
    ∧ (faultedDraining.ch 0).frames.map Frame.stage = [.draining] :=
  ⟨of_sound (by decide), of_sound (by decide), of_sound (by decide), of_sound (by decide), by and_intros <;> decide⟩

/-- R129: the entry to DISABLED closes a fault's aborted frame, and the run ends. -/
theorem test_r129_disable : after (.disable 0) faultedClosing (fun t => ((t.ch 0).state, t.cpl.queue))
    = some (.faulted, [.frameDropped ⟨0, 1, 1, 5, .aborted, some buf⟩, .captureClosed ⟨0, 1, 5, 0, .fault, 0⟩, .channelEvent 0 1 (.faulted .linkLost) 2]) := by
  decide

/-- QUIESCING, with a QUERY in hand, which the command answers with the interface ACTIVE; and with a START and no run ending. -/
def queryQuiescing : State :=
  inIface .quiescing (inHand [8, 0] 2 (running .timer false))

theorem witness_DisableQuiescesOrDisables_quiescing :
    queryQuiescing.regs.iface = .quiescing ∧ queryQuiescing.proc.hand ≠ none ∧ (queryQuiescing.regs.cmdHead + 1) % queryQuiescing.regs.cmdSize.toNat = 1
    ∧ after .query { queryQuiescing with regs := { queryQuiescing.regs with iface := .active, cmdTail := 1 } } (fun u => u.proc.hand) = some none
    ∧ Sound (inIface .quiescing (inHand [2, 0] 2 (ready .trigger false)))
    ∧ (∀ c : ChannelId, ((inIface .quiescing (inHand [2, 0] 2 (ready .trigger false))).ch c).ending = none) := by
  and_intros <;> first
    | exact of_sound (by decide)
    | decide

/-- R129, R169: the CMD_RESULT of a record of channel 1 answered in QUIESCING enters DISABLED, where channel 0's aborted frame gives its header up. -/
theorem test_r169_answered_in_quiescing : after .query (inIface .quiescing (inHand [8, 1] 2 faultedClosing)) (fun t => ((t.ch 0).state, t.cpl.queue.drop 2))
    = some (.faulted, [.frameDropped ⟨0, 1, 1, 5, .aborted, some buf⟩, .captureClosed ⟨0, 1, 5, 0, .fault, 0⟩, .channelEvent 0 1 (.faulted .linkLost) 2]) := by
  decide

theorem witness_ConfigWriteConfiguresItsRing : live.regs.iface ≠ .disabled ∧ State.reset.regs.iface = .disabled
    ∧ { writesOut.regs with iface := .disabled }.iface = .disabled ∧ (∃ w, w ∈ writesOut.cpl.write) :=
  ⟨by decide, by decide, rfl, ⟨_, rfl⟩⟩

/-- The tail one below the size and at the size, no valid size, and HALTED. -/
theorem witness_CommandTailWriteMovesTailOrHalts : live.regs.iface ≠ .halted ∧ (∃ k, 4 ≤ k ∧ k ≤ 12 ∧ live.regs.cmdSize.toNat = 2 ^ k)
    ∧ (63 : Word).toNat < live.regs.cmdSize.toNat ∧ live.regs.cmdSize.toNat ≤ (64 : Word).toNat
    ∧ (¬∃ k, 4 ≤ k ∧ k ≤ 12 ∧ State.reset.regs.cmdSize.toNat = 2 ^ k) ∧ { live.regs with iface := .halted }.iface = .halted :=
  ⟨by decide, ⟨6, by decide⟩, by decide, by decide, fun ⟨k, _, _, h⟩ => absurd h (Nat.ne_of_lt (Nat.two_pow_pos k)), rfl⟩

/-- Head 32 of 32 slots is head 0, which equals the tail; head 1 differs from it. -/
theorem witness_CompletionHeadWriteArmsTheMessage : (∃ k, 4 ≤ k ∧ k ≤ 12 ∧ live.regs.cplSize.toNat = 2 ^ k)
    ∧ (¬∃ k, 4 ≤ k ∧ k ≤ 12 ∧ State.reset.regs.cplSize.toNat = 2 ^ k) ∧ (1 : Word).toNat % live.regs.cplSize.toNat ≠ live.cpl.tail
    ∧ live.regs.intEnable = true ∧ live.regs.iface ≠ .halted ∧ (32 : Word).toNat % live.regs.cplSize.toNat = live.cpl.tail :=
  ⟨⟨5, by decide⟩, fun ⟨k, _, _, h⟩ => absurd h (Nat.ne_of_lt (Nat.two_pow_pos k)), by decide, rfl, by decide, by decide⟩

theorem witness_InterruptControlArmsOrSilences : (2 : Word).getLsbD 0 = false ∧ (1 : Word).getLsbD 0 = true
    ∧ { live.regs with cplHead := 1 }.cplHead ≠ live.cpl.tail ∧ live.regs.iface ≠ .halted ∧ live.regs.cplHead = live.cpl.tail := by decide

theorem witness_IgnoredRegisterWriteChangesNothing : 0x34 < 0x38 ∧ 0x2E % 4 ≠ 0 ∧ (2 : Nat) ≠ 4
    ∧ (0x34 % 4 = 0 ∧ 0x34 ≠ 0x00 ∧ 0x34 ≠ 0x30 ∧ 0x34 ≤ 0x34) := by decide

/-- A tail at the ring's size, and the link that goes down; a channel that is OFF, in a run with no frame, with one, FAULTED with and without a credit free, and with its run ending. -/
theorem witness_HaltStopsProcessorAndChannels : live.regs.iface ≠ .halted
    ∧ (∃ k, 4 ≤ k ∧ k ≤ 12 ∧ live.regs.cmdSize.toNat = 2 ^ k) ∧ live.regs.cmdSize.toNat ≤ (64 : Word).toNat ∧ live.port.linkUp = true
    ∧ Sound live ∧ Sound (running .timer false) ∧ Sound (capturing .timer) ∧ Sound (inState .faulted live) ∧ Sound (queued 61 (inState .faulted live))
    ∧ Sound faultedClosing :=
  ⟨by decide, ⟨6, by decide⟩, by decide, by decide, of_sound (by decide), of_sound (by decide), of_sound (by decide), of_sound (by decide),
    of_sound (by decide), of_sound (by decide)⟩

/-- A STOP with ABORT taken and waiting, whose frame closes at the entry to HALTED, or has its header at the port. -/
theorem witness_HaltStopsProcessorAndChannels_taken :
    let s := stopTaken .executing (endingWith (.stopped .abort) false closingFrame)
    Sound s ∧ Sound (handHeader0 s) ∧ s.waitingStop = some 0 ∧ s.regs.iface ≠ .halted :=
  ⟨of_sound (by decide), of_sound (by decide), by decide, by decide⟩

/-- R171, R128: so the head moves with a tail at the ring's size, which keeps the tail. -/
theorem test_r171_head_moves : after (.cmdTailWrite 64) (stopTaken .executing (endingWith (.stopped .abort) false closingFrame))
    (fun t => (t.regs.cmdHead, t.regs.cmdTail)) = some (1, 0) := by decide

/-- R149, R128: at HALTED such a STOP keeps its CMD_RESULT, after its frame's result, its capture's and the event. -/
theorem test_r149_taken_stop : after .portDown (stopTaken .executing (endingWith (.stopped .abort) false closingFrame))
    (fun t => (t.cpl.queue.drop 2, t.regs.cmdHead, t.proc.hand))
    = some ([.channelEvent 0 1 (.stopped .abort) 2, .cmdResult ⟨0, 3, 0, 0, .ok, none⟩], 1, none) := by decide

/-- The processor of `live` waits for a read the port holds. -/
def fetching : State :=
  { live with regs := { live.regs with cmdTail := 1 }, proc := { state := .fetching, hand := none, read := some ⟨0, 64⟩ } }

theorem witness_HaltStopsProcessorAndChannels_fetch : fetching.regs.iface ≠ .halted ∧ fetching.proc.read ≠ none ∧ Sound fetching :=
  ⟨by decide, by decide, of_sound (by decide)⟩

/-- The interface HALTED, the port's link up. -/
def halted : State :=
  { live with regs := { live.regs with iface := .halted, haltCause := .ringIndex } }

theorem witness_SwitchEventsMoveOneSwitch : State.reset.port.linkUp = false ∧ halted.regs.iface = .halted ∧ live.port.linkUp = true
    ∧ live.regs.iface ≠ .halted ∧ fetching.proc.state = .fetching ∧ { fetching.proc with read := none }.read = none := by and_intros <;> decide

theorem witness_HaltedIsLeftByResetAlone : halted.regs.iface = .halted ∧ exec .hostPortLinkUp halted = .next halted := ⟨rfl, rfl⟩

/-! ## Premises that are met: the command processor and its commands -/

/-- A need of two is met with 62 records queued and not with 63; a STOP of a FAULTED channel needs two. -/
theorem witness_FetchCompleteTakesTheRecord : (queued 62 fetching).proc.read ≠ none
    ∧ commandOf [8, 0] = .query 0 false ∧ (queued 62 fetching).cpl.queue.length + (queued 62 fetching).cpl.reserved + 2 ≤ 64
    ∧ 64 < (queued 63 fetching).cpl.queue.length + (queued 63 fetching).cpl.reserved + 2
    ∧ commandOf [3, 0, 1] = .stop 0 true ∧ ((inState .faulted fetching).ch 0).state = .faulted
    ∧ live.proc.read = none := by decide

theorem witness_CommandRecordsReadAsLaidOut : (List.replicate 7 (0 : Byte)).length = 7 ∧ 1 ≤ [buf].length ∧ [buf, buf, buf].length ≤ 3 := by decide

/-- Kinds 9 and 0, targets and pools 4, counts 0 and 4. -/
theorem witness_RecordChecksRejectInOrder : (inHand [9, 0] 1 live).proc.state = .executing ∧ (∃ h ∈ (inHand [9, 0] 1 live).proc.hand, h.taken = false)
    ∧ 8 < (byteAt [9, 0] 0).toNat ∧ (byteAt [0, 0] 0).toNat = 0 ∧ 1 ≤ (byteAt [8, 4] 0).toNat ∧ 3 < (byteAt [8, 4] 1).toNat
    ∧ byteAt [4, 3, 0, 0, 0, 0, 0, 0, 4] 0 = 4 ∧ 3 < (byteAt [4, 3, 0, 0, 0, 0, 0, 0, 4] 8).toNat
    ∧ byteAt [6, 3, 0, 0, 0, 0, 0, 0, 4] 0 = 6 ∧ 3 < (byteAt [6, 3, 0, 0, 0, 0, 0, 0, 4] 8).toNat
    ∧ (byteAt [6, 3, 0, 0, 0, 0, 0, 0, 0] 8).toNat = 0 := by decide

theorem witness_CommandsNotOfferedChangeNothing : State.reset.presented = none := by decide

/-- A SET of channel 0 with these flags that marks the mode, code `mode`, alone. -/
def setMode (flags mode : Byte) : List Byte :=
  [1, 0, flags, 0, 0, 0, 0, 0, 1, 0, mode, 0]

/-- A mode code out of range; HOLD; a commit with SKIP2, whose 16 columns divide 64; a commit with MEAN3, whose 24 do not. -/
theorem witness_SetTakesOneOfFourOutcomes :
    (inHand (setMode 0 5) 1 (ready .timer false)).presented = some (.set 0 ⟨false, false, false⟩ (editsOf (setMode 0 5)))
    ∧ (editsOf (setMode 0 5)).inRange = false ∧ (editsOf (setMode 3 4)).inRange = true ∧ flagAt (setMode 3 4) 0 = true
    ∧ ((recordOf (fullSet .full 16 .timer)).edited (editsOf (setMode 0 3))).combinationOk (some geo) = true
    ∧ ((recordOf (fullSet .full 16 .timer)).edited (editsOf (setMode 0 2))).combinationOk (some geo) = false := by decide

/-- Every field present at the least value of its range, and at the greatest. -/
theorem witness_RangeCheckAndEditFollowTheTable :
    (RawEdits.mk (some 0) (some 10) (some 0) (some 0) (some 16) (some 0) (some 64) (some 0) (some 400) (some 40) (some 0) (some 0) (some 1)).inRange = true
    ∧ (RawEdits.mk (some 4) (some 12) (some 1) (some 3071) (some 3072) (some 4095) (some 4096) (some 255) (some 65535) (some 65535) (some 15) (some 1)
        (some 65535)).inRange = true := by and_intros <;> decide

/-- A START in hand with its two credits. -/
def startInHand (s : State) : State :=
  inHand [2, 0] 2 s

theorem witness_StartRejectedByTheFirstFailedCheck :
    (startInHand (running .timer false)).presented = some (.start 0)
    ∧ (startInHand (running .timer false)).ledger ∧ (startInHand (running .timer false)).regs.iface ≠ .quiescing
    ∧ ((startInHand (running .timer false)).ch 0).state ≠ .off
    ∧ (startInHand live).presented = some (.start 0) ∧ ((startInHand live).ch 0).state = .off
    ∧ ((startInHand live).ch 0).link.geometry = none ∧ (startInHand live).ledger := by and_intros <;> decide

/-- `ready` with another committed set. -/
def committing (k : Option CommittedSet) : State :=
  startInHand (on0 (fun ch => { ch with table := { ch.table with committed := k } }) (ready .timer false))

theorem witness_StartRejectedByTheFirstFailedCheck_set :
    (committing none).presented = some (.start 0) ∧ ((committing none).ch 0).state = .off ∧ ((committing none).ch 0).link.geometry ≠ none
    ∧ ((committing none).ch 0).link.headFault = none ∧ (∀ k ∈ ((committing none).ch 0).table.committed, k.fields.mode = none)
    ∧ ((committing (some ⟨recordOf (fullSet .mean3 48 .timer), 1, false⟩)).ch 0).link.geometry = some geo
    ∧ CommittedSet.governing ⟨recordOf (fullSet .mean3 48 .timer), 1, false⟩ = some ⟨fullSet .mean3 48 .timer, 1, false⟩
    ∧ (recordOf (fullSet .mean3 48 .timer)).combinationOk (some geo) = false := by and_intros <;> decide

/-- What both accepted forms of START ask, with and without the report; two credits are free for it. -/
theorem witness_StartAccepted (src : StartSource) (report : Bool) :
    (startInHand (ready src report)).presented = some (.start 0) ∧ (startInHand (ready src report)).ledger
    ∧ ((startInHand (ready src report)).ch 0).state = .off
    ∧ ((startInHand (ready src report)).ch 0).link.geometry = some geo ∧ ((startInHand (ready src report)).ch 0).link.headFault = none
    ∧ ((startInHand (ready src report)).ch 0).table.committed = some ⟨recordOf (fullSet .full 16 src), 1, report⟩
    ∧ CommittedSet.governing ⟨recordOf (fullSet .full 16 src), 1, report⟩ = some ⟨fullSet .full 16 src, 1, report⟩
    ∧ (recordOf (fullSet .full 16 src)).combinationOk (some geo) = true ∧ (fullSet .full 16 src).startSource = src
    ∧ (startInHand (ready src report)).regs.iface ≠ .quiescing
    ∧ (startInHand (ready src report)).cpl.queue.length + (startInHand (ready src report)).cpl.reserved + 2 ≤ 64 := by
  cases src <;> cases report <;> and_intros <;> decide

/-- A START whose capture 5, with `guard`, waits in the queue of channel 0, beside `n` records. -/
def startCapturing (report : Bool) (guard : Option Gen) (n : Nat) : State :=
  startInHand (queued n (withCapture { capture 0 with state := .queued, guardGen := guard } (ready .timer report)))

/-- Two credits free, one and none; a guard one newer than the set. -/
theorem witness_StartAcceptedStartsFrameZero :
    (startCapturing true none 60).presented = some (.start 0) ∧ (startCapturing true none 60).ledger ∧ ((startCapturing true none 60).ch 0).queueSound
    ∧ ((startCapturing true none 60).ch 0).state = .off ∧ ((startCapturing true none 60).ch 0).captures.head? = some { capture 0 with state := .queued }
    ∧ (startCapturing true none 59).cpl.queue.length + (startCapturing true none 59).cpl.reserved + 2 = 64
    ∧ (startCapturing true none 60).cpl.queue.length + (startCapturing true none 60).cpl.reserved = 63
    ∧ (startCapturing true none 61).cpl.queue.length + (startCapturing true none 61).cpl.reserved = 64
    ∧ (startCapturing true none 61).ledger ∧ (∃ h ∈ (startCapturing true none 61).proc.hand, h.credits = 2)
    ∧ (startCapturing true (some 2) 60).ledger ∧ ((startCapturing true (some 2) 60).ch 0).queueSound ∧ 32768 ≤ ((1 : Gen) - 2).toNat := by
  and_intros <;> first
    | exact sound_of _ (by decide)
    | decide

/-- R103: frame 0 of a run is settling, and in flight for the capture that wants it. -/
theorem test_r103_frame_zero : after .start (startCapturing false none 0) (fun t =>
    ((t.ch 0).frames.map (fun f => (f.tag, f.credit, f.dropReason)), (t.ch 0).captures.map fun k => (k.state, k.inFlight)))
    = some ([(some 5, true, some .settling)], [(.opened, 1)]) := by decide

/-- A STOP in hand. -/
def stopInHand (abort : Byte) (credits : Nat) (s : State) : State :=
  inHand [3, 0, abort] credits s

/-- A run that ends (a fault waits for its frame's header) lets a STOP, a CAPTURE, a QUERY, and a CANCEL of its OPEN capture wait. -/
theorem witness_commands_wait_for_the_end :
    (stopInHand 0 1 faultedClosing).presented = some (.stop 0 false) ∧ ((stopInHand 0 1 faultedClosing).ch 0).ending ≠ none
    ∧ (inHand [4, 0, 0, 0, 0, 0, 0, 0, 0, 0, 9, 0, 3, 0, 0, 0] 2 faultedClosing).presented = some (.capture 0 0 9 3 none)
    ∧ (inHand [5, 0, 0, 0, 0, 0, 0, 0, 5, 0] 1 faultedClosing).presented = some (.cancel 0 5)
    ∧ (∃ k ∈ (faultedClosing.ch 0).captures, k.tag = 5 ∧ k.state ≠ .draining)
    ∧ (inHand [8, 0, 1] 2 faultedClosing).presented = some (.query 0 true) := by decide

/-- OFF, STOPPING, and FAULTED with two credits, with one and one free, and with one and none free. -/
theorem witness_StopRejectedOrClearsAFault :
    (stopInHand 0 1 live).presented = some (.stop 0 false) ∧ ((stopInHand 0 1 live).ch 0).state = .off
    ∧ ((stopInHand 0 1 (inState .stopping (running .timer false))).ch 0).state = .stopping
    ∧ ((inState .faulted live).ch 0).state = .faulted ∧ ((inState .faulted live).ch 0).ending = none ∧ ((inState .faulted live).ch 0).frames = []
    ∧ (stopInHand 0 2 (inState .faulted live)).presented = some (.stop 0 false) ∧ (∃ h ∈ (stopInHand 0 2 live).proc.hand, 2 ≤ h.credits)
    ∧ (∃ h ∈ (stopInHand 0 1 live).proc.hand, h.credits = 1)
    ∧ (stopInHand 0 1 (queued 62 live)).cpl.queue.length + (stopInHand 0 1 (queued 62 live)).cpl.reserved < 64
    ∧ 64 ≤ (stopInHand 0 1 (queued 63 live)).cpl.queue.length + (stopInHand 0 1 (queued 63 live)).cpl.reserved := by and_intros <;> decide

/-- A STOP of a running period with a frame READING, with one DRAINING, of a channel that waits with no frame, and of one that waits with a frame in use. -/
def stopReading : State :=
  stopInHand 0 1 (capturing .trigger)

def stopWaiting : State :=
  stopInHand 0 1 (waiting (withCapture (capture 0) (running .trigger false)))

theorem witness_StopWithoutAbortLetsTheFrameFinish :
    stopReading.presented = some (.stop 0 false) ∧ Sound stopReading ∧ (stopReading.ch 0).state.runs = true
    ∧ (stopReading.ch 0).ending = none ∧ (stopReading.ch 0).timer.state = .period ∧ Sound (stopInHand 0 1 drainingRow)
    ∧ stopWaiting.presented = some (.stop 0 false) ∧ Sound stopWaiting ∧ (stopWaiting.ch 0).state.runs = true
    ∧ (stopWaiting.ch 0).timer.state = .waiting ∧ (stopWaiting.ch 0).frames = []
    ∧ Sound (stopInHand 0 1 (waiting closingFrame)) ∧ ((waiting closingFrame).ch 0).frames ≠ []
    ∧ ((atLine 24 (running .timer false)).ch 0).timer.periodLength ≤ ((atLine 24 (running .timer false)).ch 0).timer.line + 16 := by
  and_intros <;> first
    | exact of_sound (by decide)
    | decide

/-- Frame 1 dropped for want of a buffer, still READING. -/
def droppedFrame : Frame :=
  { frame with tag := some 5, credit := true, dropReason := some .noBuffer }

/-- A STOP with ABORT of a channel with no frame in use, and of one whose frame's header the port holds. -/
def abortIdle : State :=
  stopInHand 1 1 (withCapture (capture 0) (running .timer false))

def abortClosing : State :=
  handHeader0 (stopInHand 1 1 closingFrame)

/-- With a READING frame that has a buffer, has none, is untaken; and with a buffer where the interface does not write. -/
theorem witness_StopWithAbortEndsTheRun :
    abortIdle.presented = some (.stop 0 true) ∧ Sound abortIdle ∧ (abortIdle.ch 0).state.inRun = true ∧ (abortIdle.ch 0).ending = none
    ∧ (abortIdle.ch 0).rowWrite = none ∧ (abortIdle.ch 0).frames = [] ∧ Sound abortClosing
    ∧ after .stop abortClosing (fun t => (t.ch 0).frames) = some [closed]
    ∧ Sound (stopInHand 1 1 (capturing .timer)) ∧ ((capturing .timer).ch 0).rowWrite = none ∧ framed.hold.isBuffer = true
    ∧ Sound (stopInHand 1 1 (withFrame droppedFrame (withCapture (capture 1) (running .timer false)))) ∧ droppedFrame.hold.isBuffer = false
    ∧ Sound (stopInHand 1 1 (withFrame frame (running .timer false))) ∧ frame.tag = none ∧ frame.credit = false
    ∧ Sound (inIface .disabled (stopInHand 1 1 (capturing .timer))) ∧ IfState.disabled.busWrites = false := by
  and_intros <;> first
    | exact of_sound (by decide)
    | decide

/-- Channel 0 with the frames `f` of capture 5 and, behind it, `g` of capture 6. -/
def twoInUse (f g : Frame) : State :=
  withFrame { g with ctx := .ctx1, seq := 2 } (withFrame f (withCapture { capture 1 with tag := 6, state := .queued } (withCapture (capture 1) (running .timer false))))

/-- The later frame, READING, with a buffer and without one; an earlier frame without a buffer, with its last row in the queue. -/
def behind : Frame :=
  { framed with tag := some 6 }

def behindDropped : Frame :=
  { droppedFrame with tag := some 6 }

def firstDropped : Frame :=
  { droppedFrame with stage := .draining, nextRow := 16, produced := 15 }

/-- Two frames in use at an abort: the header of the earlier out at the port; both with buffers; the later alone; and neither, or where the interface does not write; and both aborted, of a run that is ending. -/
theorem witness_two_frames_aborted :
    Sound (handHeader0 (twoInUse closed behind)) ∧ Sound (twoInUse closed behind) ∧ Sound (withRow outRow (twoInUse firstDropped behind))
    ∧ Sound (withRow outRow (twoInUse firstDropped behindDropped)) ∧ Sound (inIface .disabled (twoInUse closed behind))
    ∧ Sound (stopInHand 1 1 (twoInUse closed behind)) ∧ Sound (endingWith (.faulted .linkLost) false (twoInUse closed { behind with stage := .draining }))
    ∧ closed.tag.isSome = closed.credit ∧ behind.tag.isSome = behind.credit
    ∧ firstDropped.tag.isSome = firstDropped.credit ∧ firstDropped.hold.isBuffer = false ∧ ((twoInUse closed behind).ch 0).rowWrite = none
    ∧ ((twoInUse closed behind).ch 0).frames = [closed, { behind with ctx := .ctx1, seq := 2 }] := by
  and_intros <;> first
    | exact of_sound (by decide)
    | decide

/-- R124, R128: the aborted frames post in sequence order, then their captures close, then the event follows. -/
theorem test_r128_two_frames : after (.carrierLost 0) (inIface .disabled (twoInUse closed behind)) (fun t => t.cpl.queue)
    = some [.frameDropped ⟨0, 1, 1, 5, .aborted, some buf⟩, .frameDropped ⟨0, 1, 2, 6, .aborted, some buf⟩, .captureClosed ⟨0, 1, 5, 0, .fault, 0⟩,
        .captureClosed ⟨0, 1, 6, 0, .fault, 0⟩, .channelEvent 0 1 (.faulted .linkLost) 2] := by decide

/-- R129: the entry to DISABLED closes both in the same order. -/
theorem test_r129_two_frames : after (.disable 0) (endingWith (.faulted .linkLost) false (twoInUse closed { behind with stage := .draining }))
    (fun t => t.cpl.queue.take 2) = some [.frameDropped ⟨0, 1, 1, 5, .aborted, some buf⟩, .frameDropped ⟨0, 1, 2, 6, .aborted, some buf⟩] := by decide

/-- R128: an aborted frame with a buffer closes with its header first, and the STOP waits for it with the channel as it was. -/
theorem test_r128_waits : after .stop (stopInHand 1 1 (capturing .timer)) (fun t =>
    ((t.ch 0).frames.map (fun f => (f.stage, f.flags.aborted)), (t.ch 0).state, (t.ch 0).captures.map Capture.state, t.cpl.queue))
    = some ([(.closing, true)], .running, [.opened], []) := by decide

/-- A CAPTURE of `tag` on channel 0 into pool 0, with count 3, in hand. -/
def captureInHand (tag : Byte) (s : State) : State :=
  inHand [4, 0, 0, 0, 0, 0, 0, 0, 0, 0, tag, 0, 3, 0, 0, 0] 2 s

/-- Room and a new tag; the same tag; four captures. -/
def captureNew : State :=
  captureInHand 9 (withCapture (capture 0) (running .timer false))

def captureFull : State :=
  let k (t : Tag) : Capture := { capture 0 with state := .queued, tag := t }
  captureInHand 9 (withCapture (k 4) (withCapture (k 3) (withCapture (k 2) (withCapture (k 1) live))))

theorem witness_CaptureJoinsTheQueue_queues : (captureNew.ch 0).queueSound ∧ (captureFull.ch 0).queueSound :=
  ⟨sound_of _ (by decide), sound_of _ (by decide)⟩

theorem witness_CaptureJoinsTheQueue :
    captureNew.presented = some (.capture 0 0 9 3 none) ∧ captureNew.ledger
    ∧ (captureNew.ch 0).captures.length < 4 ∧ (∀ k ∈ (captureNew.ch 0).captures, k.tag ≠ 9) ∧ captureNew.regs.iface ≠ .quiescing
    ∧ (captureInHand 5 (running .timer false)).presented = some (.capture 0 0 5 3 none) ∧ (∃ k ∈ (captureNew.ch 0).captures, k.tag = 5)
    ∧ captureFull.presented = some (.capture 0 0 9 3 none) ∧ captureFull.ledger
    ∧ 4 ≤ (captureFull.ch 0).captures.length ∧ (captureFull.ch 0).ending = none ∧ (captureNew.ch 0).ending = none := by and_intros <;> decide

/-- A CANCEL of `tag` on channel 0, which holds capture 5 as `k`, in hand. -/
def cancelInHand (tag : Byte) (s : State) : State :=
  inHand [5, 0, 0, 0, 0, 0, 0, 0, tag, 0] 1 s

/-- Capture 5 after its count is done, its last frame in flight. -/
def draining : Capture :=
  { tag := 5, pool := 0, count := 3, remaining := 0, guardGen := none, delivered := 2, inFlight := 1, state := .draining, reason := some .complete }

theorem witness_CancelClosesOrDrains_queues : (captureNew.ch 0).queueSound ∧ ((capturing .timer).ch 0).queueSound
    ∧ ((withFrame framed (withCapture draining (running .timer false))).ch 0).queueSound :=
  ⟨sound_of _ (by decide), sound_of _ (by decide), sound_of _ (by decide)⟩

/-- A capture with no frame in flight, one with one, and a DRAINING one; and an unknown tag. -/
theorem witness_CancelClosesOrDrains :
    (cancelInHand 5 (running .timer false)).presented = some (.cancel 0 5)
    ∧ (∃ k ∈ (captureNew.ch 0).captures, k.tag = 5 ∧ k.state ≠ .draining ∧ k.inFlight = 0)
    ∧ (∃ k ∈ ((capturing .timer).ch 0).captures, k.tag = 5 ∧ k.state ≠ .draining ∧ k.inFlight ≠ 0) ∧ draining.state = .draining
    ∧ (cancelInHand 6 (running .timer false)).presented = some (.cancel 0 6)
    ∧ (∀ k ∈ (captureNew.ch 0).captures, k.tag ≠ 6) ∧ (cancelInHand 5 (running .timer false)).regs.iface ≠ .quiescing := by and_intros <;> decide

/-- R109: while a fault's aborted frame closes, a CANCEL of its DRAINING capture, and of a tag the queue does not hold, is taken. -/
def cancelEnding (tag : Byte) : State :=
  cancelInHand tag (endingWith (.faulted .linkLost) false (withFrame closed (withCapture draining (running .timer false))))

theorem witness_CancelClosesOrDrains_ending :
    (cancelEnding 5).presented = some (.cancel 0 5) ∧ ((cancelEnding 5).ch 0).ending ≠ none ∧ Sound (cancelEnding 5)
    ∧ (∀ k ∈ ((cancelEnding 5).ch 0).captures, k.tag = 5 → k.state = .draining) ∧ (∀ k ∈ ((cancelEnding 6).ch 0).captures, k.tag ≠ 6) := by
  and_intros <;> first
    | exact of_sound (by decide)
    | decide

theorem test_r109_cancel_after_fault : after .cancel (cancelEnding 5) (fun t => ((t.ch 0).captures.map Capture.reason, t.cpl.queue))
    = some ([some .cancelled], [.cmdResult ⟨0, 5, 0, 0, .ok, none⟩]) := by decide

/-- The longest descriptor in an aperture of 4 MiB, and the same one a step further on; room for exactly one more, and for none. -/
theorem witness_PostBuffersAppendsAllOrNone :
    (inHand (6 :: 0 :: List.replicate 6 0 ++ 1 :: List.replicate 55 0) 1 live).presented = some (.postBuffers 0 [⟨0, 0, 0⟩])
    ∧ (64 ∣ (Descriptor.mk 0 4194304 1).addr.toNat ∧ 64 ∣ (Descriptor.mk 0 4194304 1).length.toNat
      ∧ (Descriptor.mk 0 4194304 1).addr.toNat + (Descriptor.mk 0 4194304 1).length.toNat
        ≤ live.regs.apertureBase.toNat * 1048576 + live.regs.apertureSize.toNat * 1048576)
    ∧ ¬((Descriptor.mk 64 4194304 1).addr.toNat + (Descriptor.mk 64 4194304 1).length.toNat
        ≤ live.regs.apertureBase.toNat * 1048576 + live.regs.apertureSize.toNat * 1048576)
    ∧ (List.replicate 63 buf).length + [buf].length ≤ 64 ∧ 64 < (List.replicate 64 buf).length + [buf].length ∧ live.regs.iface ≠ .quiescing := by
  and_intros <;> decide

/-- A pool with and without a descriptor; a step's credit held, free, and not free. -/
theorem witness_ReclaimReturnsTheOldestDescriptor :
    (inHand [7, 0] 1 live).presented = some (.reclaim 0) ∧ (∃ h ∈ (inHand [7, 0] 1 live).proc.hand, 1 ≤ h.credits ∧ h.credits = 1)
    ∧ (inHand [7, 0] 1 live).pools.get 0 = [] ∧ (inHand [7, 0] 1 live).ledger ∧ (inHand [7, 0] 1 live).regs.iface ≠ .quiescing
    ∧ ({ live.pools with c0 := [buf] }).get 0 = [buf] ∧ (inHand [7, 0] 2 live).presented = some (.reclaim 0)
    ∧ (∃ h ∈ (inHand [7, 0] 2 live).proc.hand, 2 ≤ h.credits)
    ∧ (inHand [7, 0] 1 (queued 62 live)).cpl.queue.length + (inHand [7, 0] 1 (queued 62 live)).cpl.reserved < 64
    ∧ 64 ≤ (inHand [7, 0] 1 (queued 63 live)).cpl.queue.length + (inHand [7, 0] 1 (queued 63 live)).cpl.reserved := by and_intros <;> decide

theorem witness_QueryReportsThenClearsThreeCounters (clear : Bool) :
    (inHand [8, 0, byteOf (bitNat clear)] 2 (running .timer false)).presented = some (.query 0 clear)
    ∧ (inHand [8, 0, byteOf (bitNat clear)] 2 (running .timer false)).ledger ∧ (inHand [8, 0, byteOf (bitNat clear)] 2 (running .timer false)).rowsSound
    ∧ (inHand [8, 0, byteOf (bitNat clear)] 2 (running .timer false)).regs.iface ≠ .quiescing := by cases clear <;> and_intros <;> decide

/-! ## Premises that are met: the bus writer -/

/-- The ring has room at tail 0 with head 2, and is full with head 1. -/
theorem witness_WritesAreHandedUnderTheirConditions :
    (live.regs.iface = .active ∧ live.port.busMastering = true) ∧ live.cpl.write = none ∧ (queued 1 live).cpl.queue = [.triggerMissed 0 1 0]
    ∧ (live.cpl.tail + 1) % live.regs.cplSize.toNat ≠ 2 ∧ (live.cpl.tail + 1) % live.regs.cplSize.toNat = 1
    ∧ ¬((State.reset.regs.iface = .active ∨ State.reset.regs.iface = .quiescing) ∧ State.reset.port.busMastering = true)
    ∧ (drainingRow.ch 0).rowWrite = none ∧ (drainingRow.ch 0).rows = [outRow]
    ∧ ((drainingRow.ch 0).frames.find? (fun f => f.ctx == outRow.ctx)).map Frame.hold = some (.buffer buf)
    ∧ (closingFrame.ch 0).headerWrite = none ∧ ((closingFrame.ch 0).frames.map Frame.stage) = [.closing]
    ∧ ((closingFrame.ch 0).frames.map Frame.hold) = [.buffer buf] ∧ (∀ f ∈ ((capturing .timer).ch 0).frames.head?, f.stage ≠ .closing) := by
  and_intros <;> decide

/-- A record write out, the armed flag set, and a START that waits for its two credits: with 63 records queued it has them after the write of one, with 64 not. -/
def recordOut (n : Nat) (armed : Bool) : State :=
  { live with
    cpl := { queue := List.replicate n (.triggerMissed 0 1 0), reserved := 0, tail := 31, phase := true, armed := armed, write := some ⟨5088, [1, 2]⟩ }
    proc := { state := .waitCredit, hand := some ⟨0, [2, 0], 0, false⟩, read := none } }

theorem witness_CompletionWriteAdvancesTheTail :
    (recordOut 63 true).cpl.write = some ⟨5088, [1, 2]⟩ ∧ (recordOut 63 true).cpl.armed = true ∧ (recordOut 63 true).regs.intEnable = true
    ∧ (recordOut 63 true).regs.iface ≠ .halted ∧ (recordOut 63 false).cpl.armed = false ∧ (recordOut 63 true).proc.state = .waitCredit
    ∧ (∃ h ∈ (recordOut 63 true).proc.hand, h.credits = 0 ∧ (recordOut 63 true).creditNeed (commandOf h.bytes) = 2)
    ∧ (recordOut 63 true).cpl.queue.tail.length + 0 + 2 ≤ 64 ∧ 64 < (recordOut 64 true).cpl.queue.tail.length + 0 + 2
    ∧ live.cpl.write = none ∧ live.cpl.queue = [] ∧ live.proc.hand = none := by and_intros <;> decide

/-- The wrap of the ring: the write at slot 31 leaves tail 0 and phase 0. -/
theorem test_ring_wraps : after (.completionWrite .current false) (recordOut 1 true) (fun t => (t.cpl.tail, t.cpl.phase, t.mem))
    = some (0, false, [(5088, 1), (5089, 2)]) := by decide

theorem witness_AbandonedWritesChangeMemoryAlone :
    ({ live.port with abandonedWrites := [(.record, ⟨64, [1]⟩), (.row 0, ⟨128, [2]⟩)] }).abandonedWrites = [(.record, ⟨64, [1]⟩)] ++ (.row 0, ⟨128, [2]⟩) :: []
    ∧ (∀ x ∈ [(WriteClaim.record, (⟨64, [1]⟩ : BusWrite))], x.1 ≠ .row 0) ∧ (∀ x ∈ live.port.abandonedWrites, x.1 ≠ .row 0) := by and_intros <;> decide

/-- The last row of a DRAINING frame is out at the port. -/
def rowOut : State :=
  handRow0 drainingRow

/-- Behind a frame in CLOSING, a row of the later frame, READING, is out at the port. -/
def laterRowOut : State :=
  handRow0 (withRow { outRow with ctx := .ctx1 } (withFrame { frame with ctx := .ctx1, seq := 2, nextRow := 1 } closingFrame))

/-- Entry 4: a row not yet handed is handed and written in one step. -/
theorem test_handed_and_made : after (.rowWrite 0 .current false) drainingRow (fun t => ((t.ch 0).rows, (t.ch 0).frames.map Frame.stage))
    = some ([], [.closing]) := by decide

theorem witness_RowWriteTakesTheOldestRow :
    (rowOut.ch 0).rowWrite = some ⟨0x1040, [1, 2]⟩ ∧ (rowOut.ch 0).rows = outRow :: [] ∧ Sound rowOut
    ∧ (∃ f ∈ (rowOut.ch 0).frames.head?, f.stage = .draining ∧ f.hold = .buffer buf ∧ f.noHeader = false ∧ f.ctx = outRow.ctx)
    ∧ Sound laterRowOut ∧ (∃ f ∈ (laterRowOut.ch 0).frames.head?, f.stage = .closing)
    ∧ (live.ch 0).rowWrite = none ∧ (live.ch 0).rows = [] := by
  and_intros <;> first
    | exact of_sound (by decide)
    | decide

/-- With its header given up, in DISABLED; and in HALTED with a STOP that waits for it. -/
def lastRowOut : State :=
  inIface .disabled (headerless faultedDraining)

def lastRowOutHalted : State :=
  inIface .halted (stopTaken .idle (headerless (endingWith (.stopped .abort) false rowOut)))

theorem witness_RowWriteTakesTheOldestRow_headerless :
    Sound lastRowOut ∧ Sound lastRowOutHalted ∧ lastRowOutHalted.waitingStop = some 0 ∧ lastRowOut.waitingStop = none
    ∧ (lastRowOut.ch 0).rows = [outRow] ∧ (lastRowOut.ch 0).frames.map (fun f => (f.noHeader, f.tag, f.stage)) = [(true, some 5, .draining)] :=
  ⟨of_sound (by decide), of_sound (by decide), by and_intros <;> decide⟩

/-- With a later frame behind it: both headers given up, in DISABLED; and the earlier one's alone, in ACTIVE. -/
def lastRowOutTwo : State :=
  endingWith (.faulted .linkLost) false (handRow0 (withRow outRow
    (twoInUse { framed with stage := .draining, nextRow := 16, produced := 15 } { behind with stage := .draining })))

theorem witness_RowWriteTakesTheOldestRow_later :
    Sound (inIface .disabled (headerless lastRowOutTwo))
    ∧ Sound (on0 (fun ch => { ch with frames := ch.frames.map fun f => { f with noHeader := f.ctx == .ctx0 } }) lastRowOutTwo)
    ∧ (lastRowOutTwo.ch 0).frames.map (fun f => (f.tag, f.credit, f.hold.isBuffer)) = [(some 5, true, true), (some 6, true, true)] :=
  ⟨of_sound (by decide), of_sound (by decide), by decide⟩

/-- R128: the later frame's result follows, and then the run ends. -/
theorem test_row_then_later : after (.rowWrite 0 .current false) (inIface .disabled (headerless lastRowOutTwo)) (fun t => (t.cpl.queue.take 2, (t.ch 0).state))
    = some ([.frameDropped ⟨0, 1, 1, 5, .aborted, some buf⟩, .frameDropped ⟨0, 1, 2, 6, .aborted, some buf⟩], .faulted) := by decide

/-- Entry 27: the row is written, then the frame posts and the run ends. -/
theorem test_row_then_end : after (.rowWrite 0 .current false) lastRowOut (fun t => ((t.ch 0).state, t.cpl.queue))
    = some (.faulted, [.frameDropped ⟨0, 1, 1, 5, .aborted, some buf⟩, .captureClosed ⟨0, 1, 5, 0, .fault, 0⟩, .channelEvent 0 1 (.faulted .linkLost) 2]) := by
  decide

/-- The header of a CLOSING frame is out at the port; and of the earlier of two frames. -/
def headerOut : State :=
  handHeader0 closingFrame

def twoFrames (g : Frame) : State :=
  withFrame { g with ctx := .ctx1, seq := 2 } headerOut

/-- A later frame READING, DRAINING with a row queued, with its rows done and a buffer, and without a buffer. -/
def laterBuffered : Frame :=
  { frame with stage := .draining, nextRow := 16, produced := 16, tag := some 6, hold := .buffer buf, credit := true }

def laterDropped : Frame :=
  { laterBuffered with hold := .nothing, dropReason := some .noBuffer }

def twoCaptures (g : Frame) : State :=
  withFrame { g with ctx := .ctx1, seq := 2 } (handHeader0 (withCapture { capture 1 with tag := 6, state := .queued } closingFrame))

theorem witness_HeaderWriteDeliversTheFrame :
    (headerOut.ch 0).headerWrite = some ⟨0x1000, [1, 2]⟩ ∧ (headerOut.ch 0).frames = [closed] ∧ closed.hold = .buffer buf ∧ closed.tag = some 5
    ∧ Sound headerOut ∧ (headerOut.ch 0).ending = none ∧ headerOut.waitingStop = none ∧ (live.ch 0).headerWrite = none ∧ (live.ch 0).frames = []
    ∧ Sound (twoFrames frame) ∧ Sound (withRow { outRow with ctx := .ctx1 } (twoCaptures { laterBuffered with produced := 15 }))
    ∧ Sound (twoCaptures laterBuffered) ∧ Sound (twoCaptures laterDropped) := by
  and_intros <;> first
    | exact of_sound (by decide)
    | decide

/-- The last frame of a STOPPING channel with its timer IDLE, of a fault, of a STOP that waits, and of an ended run that HALTED found faulted. -/
def stoppingIdle : State :=
  on0 (fun ch => { ch with state := .stopping, timer := ch.timer.idled, captures := [{ capture 1 with state := .draining, reason := some .stopped }] }) headerOut

def faultedHalted (n : Nat) : State :=
  queued n (inIface .halted (on0 (fun ch => { ch with frames := [closed] }) (endingWith (.faulted .linkLost) true headerOut)))

theorem witness_HeaderWriteDeliversTheFrame_ends :
    Sound stoppingIdle ∧ Sound (handHeader0 faultedClosing) ∧ Sound (stopTaken .executing (endingWith (.stopped .abort) false headerOut))
    ∧ Sound (faultedHalted 61) ∧ Sound (faultedHalted 60) ∧ (stoppingIdle.ch 0).state = .stopping ∧ (stoppingIdle.ch 0).timer.state = .idle
    ∧ (stopTaken .executing (endingWith (.stopped .abort) false headerOut)).waitingStop = some 0
    ∧ (faultedHalted 61).cpl.queue.length + (faultedHalted 61).cpl.reserved = 64 := by
  and_intros <;> first
    | exact of_sound (by decide)
    | decide

/-- A second frame that closes behind the first, of a run that goes on and of one that is ending. -/
theorem witness_HeaderWriteDeliversTheFrame_behind :
    Sound (twoCaptures laterDropped) ∧ laterDropped.tag.isSome = laterDropped.credit ∧ ((twoCaptures laterDropped).ch 0).ending = none
    ∧ Sound (endingWith (.faulted .linkLost) false (twoCaptures laterDropped)) :=
  ⟨of_sound (by decide), by decide, by decide, of_sound (by decide)⟩

/-- R125, R128: both frames' results, and then the end of the run. -/
theorem test_r128_behind : after (.headerWrite 0 .current false) (endingWith (.faulted .linkLost) false (twoCaptures laterDropped))
    (fun t => (t.cpl.queue.drop 1, (t.ch 0).state))
    = some ([.frameDropped ⟨0, 1, 2, 6, .aborted, none⟩, .captureClosed ⟨0, 1, 5, 0, .fault, 0⟩, .captureClosed ⟨0, 1, 6, 0, .fault, 0⟩,
        .channelEvent 0 1 (.faulted .linkLost) 2], .faulted) := by decide

/-- R105, R87: the frame, its DRAINING capture behind it, and then the end of the run. -/
theorem test_r87_last_close : after (.headerWrite 0 .current false) stoppingIdle (fun t => ((t.ch 0).state, t.cpl.queue))
    = some (.off, [.frameDone ⟨0, 1, 1, 5, buf, ⟨false, false, false, false⟩, 16, 0⟩, .captureClosed ⟨0, 1, 5, 0, .stopped, 1⟩,
        .channelEvent 0 1 (.stopped .stop) 2]) := by decide

/-- R124, R125: the later frame's result follows the earlier one's. -/
theorem test_r124_order : after (.headerWrite 0 .current false) (twoCaptures laterDropped) (fun t => t.cpl.queue)
    = some [.frameDone ⟨0, 1, 1, 5, buf, ⟨false, false, false, false⟩, 16, 0⟩, .frameDropped ⟨0, 1, 2, 6, .noBuffer, none⟩] := by decide

/-! ## Premises that are met: the frame timer -/

theorem witness_TriggerIsIgnoredOutsideARun : (live.ch 0).state = .off ∧ ((inState .faulted live).ch 0).state = .faulted
    ∧ ((inState .stopping (running .timer false)).ch 0).state = .stopping ∧ live.ledger ∧ (inState .faulted live).ledger := by and_intros <;> decide

/-- One credit free with 62 records queued beside the standing credit, and none with 63. -/
theorem witness_TriggerInPeriodIsMissedOrIgnored :
    ((running .trigger false).ch 0).timer.inputHigh = false ∧ ((running .trigger false).ch 0).state.runs = true
    ∧ ((running .trigger false).ch 0).timer.state = .period ∧ ((running .trigger false).ch 0).timer.pending = some .trigger
    ∧ ((running .timer false).ch 0).timer.pending ≠ some .trigger ∧ (faultedClosing.ch 0).timer.inputHigh = false ∧ (faultedClosing.ch 0).timer.state = .idle
    ∧ (queued 62 (running .trigger false)).cpl.queue.length + (queued 62 (running .trigger false)).cpl.reserved < 64
    ∧ 64 ≤ (queued 63 (running .trigger false)).cpl.queue.length + (queued 63 (running .trigger false)).cpl.reserved := by and_intros <;> decide

/-- The two ways a frame starts: a trigger in WAITING, and a period end with the source TIMER; with no frame and with two frames in use. -/
def bothInUse : State :=
  withFrame { frame with ctx := .ctx1, stage := .draining } (withFrame { frame with stage := .draining } (atLine 24 (running .timer true)))

theorem witness_FrameStartTakesTheLatchedSet :
    (waiting (running .trigger false)).startsFrame 0 (.trigger 0) ∧ (atLine 24 (running .timer true)).startsFrame 0 (.periodEnd 0)
    ∧ ((running .timer true).ch 0).table.latched = some ⟨fullSet .full 16 .timer, 1, true⟩
    ∧ ((atLine 24 (running .timer true)).ch 0).frames = [] ∧ bothInUse.startsFrame 0 (.periodEnd 0) ∧ 2 ≤ (bothInUse.ch 0).frames.length := by
  and_intros <;> decide

/-- A frame starts at the next period end with a report due (the frame-0 mark is set) and the OPEN capture 5. -/
def reporting (n : Nat) : State :=
  queued n (on0 (fun ch => { ch with table := { ch.table with frame0Mark := true } }) (withCapture (capture 0) (atLine 24 (running .timer true))))

/-- Due with two credits free, with one, which the frame asks for, and with none; not due without the mark. -/
theorem witness_GenAppliedIsOfferedAtItsFrameStart :
    (reporting 60).startsFrame 0 (.periodEnd 0) ∧ ((reporting 60).ch 0).table.latched = some ⟨fullSet .full 16 .timer, 1, true⟩
    ∧ ((reporting 60).ch 0).table.frame0Mark = true ∧ (reporting 60).cpl.queue.length + (reporting 60).cpl.reserved + 2 = 64
    ∧ (reporting 61).cpl.queue.length + (reporting 61).cpl.reserved = 63 ∧ (reporting 62).cpl.queue.length + (reporting 62).cpl.reserved = 64
    ∧ ((reporting 60).ch 0).captures.find? (fun q => q.state == .opened) = some (capture 0) ∧ (capture 0).guardGen = none
    ∧ ((atLine 24 (running .timer true)).ch 0).table.active = some ⟨fullSet .full 16 .timer, 1, true⟩
    ∧ ((atLine 24 (running .timer true)).ch 0).table.frame0Mark = false := by and_intros <;> decide

/-- Channel 0 at a period end with one capture and `pool` in pool 0. -/
def taking (k : Capture) (pool : List Descriptor) : State :=
  { withCapture k (atLine 24 (running .timer false)) with pools := ⟨pool, [], [], []⟩ }

/-- An OPEN capture with an empty pool, a buffer just long enough, and one too short; a guard one newer than the set; 64 credits taken. -/
theorem witness_CaptureTakesTheFrame :
    (taking (capture 0) [buf]).startsFrame 0 (.periodEnd 0) ∧ ((taking (capture 0) [buf]).ch 0).table.latched = some ⟨fullSet .full 16 .timer, 1, false⟩
    ∧ ((taking (capture 0) [buf]).ch 0).frames.length < 2 ∧ (taking (capture 0) []).pools.get 0 = [] ∧ (taking (capture 0) [buf]).pools.get 0 = [buf]
    ∧ 64 + 16 / Mode.full.v * ((2 * (64 / Mode.full.h) + 63) / 64 * 64) = buf.length.toNat
    ∧ (taking (capture 0) [buf]).cpl.queue.length + (taking (capture 0) [buf]).cpl.reserved < 64
    ∧ 64 ≤ (queued 62 (taking (capture 0) [buf])).cpl.queue.length + (queued 62 (taking (capture 0) [buf])).cpl.reserved
    ∧ 32768 ≤ ((1 : Gen) - 2).toNat ∧ ((1 : Gen) - 1).toNat < 32768 ∧ (capture 0).count = 0 := by and_intros <;> decide

/-- What becomes of the frame a capture takes. -/
def taken (s : State) : Option (List (Option DropReason × Hold)) :=
  after (.periodEnd 0) s fun t => (t.ch 0).frames.map fun f => (f.dropReason, f.hold)

/-- A settling frame (the set before was of another mode), a descriptor one step too short, the last two of a count, and a set whose report was offered. -/
theorem witness_CaptureTakesTheFrame_drops :
    taken (on0 (fun ch => { ch with table := { ch.table with active := some ⟨fullSet .mean2 16 .timer, 1, false⟩ } }) (taking (capture 0) [buf]))
      = some [(some .settling, .nothing)]
    ∧ taken (taking (capture 0) []) = some [(some .noBuffer, .nothing)]
    ∧ taken (taking (capture 0) [{ buf with length := 2048 }]) = some [(some .bufferSmall, .short { buf with length := 2048 })]
    ∧ taken (taking (capture 0) [buf]) = some [(none, .buffer buf)]
    ∧ ((running .timer true).ch 0).table.frame0Mark = false ∧ (∃ p ∈ ((running .timer true).ch 0).table.active, p.gen = 1)
    ∧ { capture 0 with count := 2, remaining := 2 }.remaining = 2 := by and_intros <;> decide

theorem witness_CaptureTakesTheFrame_queue : ((taking (capture 0) [buf]).ch 0).queueSound ∧ ((taking { capture 0 with count := 1, remaining := 1 } [buf]).ch 0).queueSound
    ∧ ((taking { capture 0 with guardGen := some 2 } [buf]).ch 0).queueSound ∧ ((reporting 61).ch 0).queueSound ∧ ((reporting 61).ch 0).frames.length < 2 :=
  ⟨sound_of _ (by decide), sound_of _ (by decide), sound_of _ (by decide), sound_of _ (by decide), by decide⟩

/-- R104: a count of two has one left. -/
theorem test_r104_counts : after (.periodEnd 0) (taking { capture 0 with count := 2, remaining := 2 } [buf])
    (fun t => (t.ch 0).captures.map fun k => (k.inFlight, k.remaining, k.state)) = some [(1, 1, .opened)] := by decide

/-- R104: a count of one is done with this buffer. -/
theorem test_r104_complete : after (.periodEnd 0) (taking { capture 0 with count := 1, remaining := 1 } [buf])
    (fun t => (t.ch 0).captures.map fun k => (k.inFlight, k.remaining, k.state)) = some [(1, 0, .draining)] := by decide

/-- One line before the latch point and at it; with no frame READING, with one and no miss yet, and with one after a miss; STOPPING. -/
theorem witness_LatchPointLatchesAndOrders :
    ((atLine 23 (running .timer false)).ch 0).timer.state = .period ∧ ((atLine 23 (running .timer false)).ch 0).timer.line + 16 < 40
    ∧ 40 ≤ ((atLine 24 (running .timer false)).ch 0).timer.line + 16 ∧ ((atLine 23 (running .timer false)).ch 0).agrees
    ∧ ((running .timer false).ch 0).table.committed = some ⟨recordOf (fullSet .full 16 .timer), 1, false⟩
    ∧ CommittedSet.governing ⟨recordOf (fullSet .full 16 .timer), 1, false⟩ = some ⟨fullSet .full 16 .timer, 1, false⟩
    ∧ ((running .timer false).ch 0).reading = none ∧ ((running .timer false).ch 0).link.endMiss = 0
    ∧ ((inState .stopping (running .timer false)).ch 0).agrees ∧ ((capturing .timer).ch 0).reading ≠ none ∧ ((capturing .timer).ch 0).agrees
    ∧ ((capturing .timer).ch 0).rowsSound ∧ (on0 (fun ch => { ch with link := { ch.link with endMiss := 1 } }) (capturing .timer) |>.ch 0).rowsSound := by
  and_intros <;> decide

/-- The channel has missed one frame end. -/
def missedOnce (s : State) : State :=
  on0 (fun ch => { ch with link := { ch.link with endMiss := 1 } }) s

/-- A frame READING at the latch point, after no miss and after one: with a buffer (and where the interface does not write), untaken, dropped, and behind another. -/
theorem witness_LatchPointLatchesAndOrders_missed :
    Sound (capturing .timer) ∧ Sound (missedOnce (capturing .timer)) ∧ Sound (missedOnce (inIface .disabled (capturing .timer)))
    ∧ Sound (missedOnce (withFrame frame (running .timer false))) ∧ Sound (missedOnce (withFrame droppedFrame (withCapture (capture 1) (running .timer false))))
    ∧ Sound (missedOnce (twoInUse closed behind)) ∧ ((missedOnce (capturing .timer)).ch 0).reading = some framed ∧ ((capturing .timer).ch 0).rowWrite = none
    ∧ ((capturing .timer).ch 0).rows = [] ∧ (1 : Nat) ≤ ((missedOnce (capturing .timer)).ch 0).link.endMiss := by
  and_intros <;> first
    | exact of_sound (by decide)
    | decide

/-- R58, R77: the frame flushed at the latch point counts its rows lost, and posts where it closes at once. -/
theorem test_r77_flushed : after (.latchPoint 0) (withFrame { droppedFrame with nextRow := 10, produced := 10 } (withCapture draining (running .timer false)))
    (fun t => ((t.ch 0).frames, t.cpl.queue))
    = some ([], [.frameDropped ⟨0, 1, 1, 5, .noBuffer, none⟩, .captureClosed ⟨0, 1, 5, 0, .complete, 2⟩]) := by decide

/-- Channel 0 STOPPING at the end of its period. -/
def stoppingAt (s : State) : State :=
  inState .stopping (atLine 24 s)

theorem witness_PeriodEndWaitsOrEndsTheRun :
    ((atLine 24 (running .trigger false)).ch 0).timer.pending = some .trigger ∧ 40 ≤ ((atLine 24 (running .trigger false)).ch 0).timer.line + 16
    ∧ ((atLine 23 (running .trigger false)).ch 0).timer.line + 16 < 40
    ∧ ((inState .stopping (atLine 24 (running .timer false))).ch 0).agrees ∧ ((inState .stopping (atLine 24 (running .timer false))).ch 0).frames = []
    ∧ ((inState .stopping (atLine 24 closingFrame)).ch 0).agrees ∧ ((inState .stopping (atLine 24 closingFrame)).ch 0).frames ≠ []
    ∧ (stoppingAt closingFrame).ledger ∧ (stoppingAt closingFrame).rowsSound ∧ (stoppingAt drainingRow).ledger
    ∧ (stoppingAt drainingRow).rowsSound ∧ ((stoppingAt drainingRow).ch 0).rows ≠ [] := by and_intros <;> decide

/-! ## Premises that are met: heads and rows -/

/-- A running channel with carrier: with no frame in use, with one whose header the port holds, and with a READING one: with a buffer, dropped, untaken, and where the interface does not write. -/
theorem witness_HeadFailureFaultsTheChannel :
    ((running .timer false).ch 0).state.inRun = true ∧ ((running .timer false).ch 0).link.carrier = true ∧ ((running .timer false).ch 0).ending = none
    ∧ ((running .timer false).ch 0).rowWrite = none ∧ ((running .timer false).ch 0).frames = [] ∧ (1 : Byte) ≠ 0
    ∧ Sound (running .timer false) ∧ Sound headerOut ∧ Sound (capturing .timer) ∧ Sound (inIface .disabled (capturing .timer))
    ∧ Sound (withFrame droppedFrame (withCapture (capture 1) (running .timer false))) ∧ Sound (withFrame frame (running .timer false))
    ∧ after (.carrierLost 0) headerOut (fun t => (t.ch 0).frames) = some [closed] := by
  and_intros <;> first
    | exact of_sound (by decide)
    | decide

/-- The least and the greatest HELLO in range, and one of width 255. -/
theorem witness_HeadMessagesAndCarrierMoveTheLink :
    (256 ≤ (HelloMsg.mk 256 64 [10] 0 1).width ∧ 64 ≤ (HelloMsg.mk 256 64 [10] 0 1).height ∧ (HelloMsg.mk 256 64 [10] 0 1).depths ≠ [])
    ∧ ((HelloMsg.mk 4096 3072 [10, 12] 255 1).width ≤ 4096 ∧ (HelloMsg.mk 4096 3072 [10, 12] 255 1).height ≤ 3072
      ∧ (∀ d ∈ (HelloMsg.mk 4096 3072 [10, 12] 255 1).depths, d = 10 ∨ d = 12) ∧ (HelloMsg.mk 4096 3072 [10, 12] 255 1).maxGain ≤ 255)
    ∧ ¬(256 ≤ (HelloMsg.mk 255 64 [10] 0 1).width) ∧ (live.ch 0).link.carrier = true ∧ (live.ch 0).link.geometry = none
    ∧ ((ready .timer false).ch 0).link.geometry.isSome = true ∧ ((ready .timer false).ch 0).state.inRun = false
    ∧ (faultedClosing.ch 0).ending ≠ none ∧ { (live.ch 0).link with carrier := false }.carrier = false := by and_intros <;> decide

/-- No frame READING; and of a READING frame every reason at its boundary: the sequence, an index below the next, v_rows, and W − 1 samples. -/
theorem witness_RowsThatNoFrameAcceptsAreStray :
    (live.ch 0).link.carrier = true ∧ (live.ch 0).reading.isNone = true ∧ ((capturing .timer).ch 0).reading = some framed
    ∧ framed.seq ≠ 2 ∧ framed.snapshot.vRows ≤ 16 ∧ (9 : Nat) < { framed with nextRow := 10 }.nextRow ∧ 2047 ≠ geo.width
    ∧ { (live.ch 0).link with carrier := false }.carrier = false := by and_intros <;> decide

/-- `vbin` meets the premises for rows 10 (in order), 11 (last of its group), 13 (past a group) and 63 (the last). -/
theorem witness_AcceptedRowsBuildOutputRows :
    (vbin.ch 0).link.carrier = true ∧ (vbin.ch 0).link.geometry = some { geo with width := 64 } ∧ (vbin.ch 0).reading.map Frame.nextRow = some 10
    ∧ (vbin.ch 0).reading.map (fun f => f.snapshot.vRows) = some 64 ∧ (10 : Nat) ≤ 10 ∧ (63 : Nat) < 64
    ∧ (List.replicate 64 (1 : Sample)).length = 64 ∧ (vbin.ch 0).rowsSound ∧ 0 + 64 ≤ (List.replicate 64 (1 : Sample)).length ∧ Mode.vbin4.h ∣ 64
    ∧ (vbin.ch 0).rows.length + (63 / 4 - 10 / 4) ≥ 8 ∧ (vbin.ch 0).rows.length + (13 / 4 - 10 / 4) < 8 := by and_intros <;> decide

/-- With eight rows queued no group passed and row 11 the last of its group; and with seven, row 17, which passes two groups. -/
theorem witness_AcceptedRowsBuildOutputRows_overflow :
    let full (n : Nat) : State := on0 (fun ch => { ch with rows := List.replicate n ⟨.ctx0, 0, none⟩ }) vbin
    ((full 8).ch 0).rowsSound ∧ ((full 8).ch 0).rows.length + (11 / 4 - 10 / 4) = 8 ∧ (11 + 1) % 4 = 0
    ∧ ((full 7).ch 0).rowsSound ∧ 8 < ((full 7).ch 0).rows.length + (17 / 4 - 10 / 4) ∧ ((full 8).ch 0).reading = ((full 7).ch 0).reading
    ∧ after (.row 0 1 17 (List.replicate 64 1)) (full 7) (fun t => ((t.ch 0).rows.length, (t.ch 0).frames.map fun f => (f.lost, f.flags.overflow)))
      = some (8, [(3, true)]) := by and_intros <;> decide

/-- R55: after a gap that passed group 2 the sums of group 3 are those of row 12 alone. -/
theorem test_r55_sums_start_anew : after (.row 0 1 12 (List.replicate 64 1)) (on0 (fun ch => { ch with combiner := { ch.combiner with sums := List.replicate 64 5 } }) vbin)
    (fun t => ((t.ch 0).combiner.group, (t.ch 0).combiner.rowsInGroup, (t.ch 0).combiner.invalid, (t.ch 0).combiner.sums.take 1)) = some (3, 1, false, [1]) := by decide

/-- R60: a frame without a buffer sets no OVERFLOW, with eight rows of an earlier frame queued. -/
theorem test_r60_no_overflow : after (.row 0 1 0 (List.replicate 64 1)) (on0 (fun ch => { ch with rows := List.replicate 8 ⟨.ctx1, 0, none⟩ }) (withFrame frame (running .timer false) |> on0 fun ch => { ch with link := { ch.link with geometry := some { geo with width := 64 } } }))
    (fun t => (t.ch 0).frames.map fun f => (f.flags.overflow, f.produced)) = some [(false, 1)] := by decide

/-- Frame `f`, READING, with its first row done and in the queue. -/
def rowQueued (f : Frame) : State :=
  withRow outRow (withFrame { f with nextRow := 1 } (withCapture (capture 1) (running .timer false)))

/-- A buffered, an untaken and a dropped frame READING; with and without a row in the queue. -/
theorem witness_FrameEndFlushesTheFrame :
    ((capturing .timer).ch 0).link.carrier = true ∧ ((capturing .timer).ch 0).link.geometry.isSome = true
    ∧ ((capturing .timer).ch 0).reading = some framed ∧ (16 : Nat) ≤ 16 ∧ Sound (capturing .timer) ∧ ((capturing .timer).ch 0).rows = []
    ∧ ((withFrame frame (running .timer false)).ch 0).frames = [frame] ∧ frame.hold.isBuffer = false ∧ frame.credit = false ∧ frame.tag = none
    ∧ Sound (withFrame frame (running .timer false)) ∧ Sound (rowQueued framed) ∧ (∃ r ∈ ((rowQueued framed).ch 0).rows, r.ctx = framed.ctx)
    ∧ Sound (inState .stopping (withFrame frame (running .timer false))) := by
  and_intros <;> first
    | exact of_sound (by decide)
    | decide

/-- A dropped frame READING, whose capture goes on, or closes with it; and a READING frame behind an earlier one. -/
theorem witness_FrameEndFlushesTheFrame_dropped :
    Sound (withFrame droppedFrame (withCapture (capture 1) (running .timer false)))
    ∧ Sound (withFrame droppedFrame (withCapture { draining with inFlight := 1 } (running .timer false)))
    ∧ ((withFrame droppedFrame (withCapture (capture 1) (running .timer false))).ch 0).reading = some droppedFrame
    ∧ droppedFrame.hold.isBuffer = false ∧ droppedFrame.dropReason = some .noBuffer ∧ droppedFrame.credit = true
    ∧ Sound (twoFrames frame) ∧ ((twoFrames frame).ch 0).frames = [closed, { frame with ctx := .ctx1, seq := 2 }] := by
  and_intros <;> first
    | exact of_sound (by decide)
    | decide

/-- R105: the close of a DRAINING capture with its last frame, behind that frame's result. -/
theorem test_r105_closes : after (.frameEnd 0 1 16) (withFrame droppedFrame (withCapture draining (running .timer false))) (fun t => t.cpl.queue)
    = some [.frameDropped ⟨0, 1, 1, 5, .noBuffer, none⟩, .captureClosed ⟨0, 1, 5, 0, .complete, 2⟩] := by decide

theorem witness_OutputWordIsFourTimesTheMean : (List.replicate 9 (4095 : Sample)).length = 9 ∧ (List.replicate 1 (0 : Sample)).length = 1
    ∧ ((List.replicate 9 (4095 : Sample)).map BitVec.toNat).sum = 36855 := by simp

/-- Greatest numbers a field holds. -/
theorem witness_RecordsAndHeadersReadBack : (65535 : Nat) < 65536 ∧ framed.snapshot.hWidth < 65536 ∧ framed.snapshot.pitch < 65536 ∧ (4294967295 : Nat) < 4294967296
    ∧ geo.width < 8192 ∧ geo.height < 65536 ∧ geo.maxGain < 256 ∧ 2 * [1, 65535].length ≤ 4 ∧ (∀ w ∈ [1, 65535], w < 65536) := by and_intros <;> decide

/-! ## Premises that are met: what every step keeps -/

/-- A capturing channel, its latch point next. -/
def stepping : State :=
  { capturing .timer with pending := [.latchPoint 0] }

/-- What `step` leaves in the state it answers with. -/
def stepped {α : Type} (s : State) (f : State → α) : Option α :=
  match step s with
  | .next t => some (f t)
  | .fault _ => none
  | .refused _ => none

theorem witness_EveryStepKeepsTheCreditLedger : stepping.ledger ∧ stepped stepping (fun t => (t.ch 0).link.endMiss) = some 1 := by and_intros <;> decide

theorem witness_EveryStepKeepsTheBounds : stepping.bounded ∧ stepping.mem.wf ∧ stepped stepping (fun t => (t.ch 0).link.endMiss) = some 1 := by
  and_intros <;> decide

theorem witness_EveryStepKeepsTheCaptureQueues : (∀ c : ChannelId, (stepping.ch c).queueSound) ∧ stepped stepping (fun t => (t.ch 0).link.endMiss) = some 1 :=
  ⟨fun c => sound_of _ (by revert c; decide), by decide⟩

theorem witness_EveryStepKeepsTheRowAccounts : stepping.ledger ∧ stepping.rowsSound ∧ stepped stepping (fun t => (t.ch 0).link.endMiss) = some 1 := by
  and_intros <;> decide

theorem witness_OnlyTheirCommandsChangeThem : after .hostPortLinkUp live (fun t => t.mem) = some [] ∧ after .set live (fun t => t.pools.c0) = some [] := by
  and_intros <;> decide

theorem witness_ChannelEventsLeaveTheOthersAlone : after (.latchPoint 0) (capturing .timer) (fun t => (t.ch 0).link.endMiss) = some 1 := by decide

end Sys2Proof.Tests
end

section
/-! The frame timer outside a run (R6, R10): a trigger the channel ignores raises the filter's output and nothing else. -/

namespace Sys2Proof

variable {α : Type}

theorem Four.modify_eq_self (v : Four α) (i : Fin 4) (f : α → α) (h : f (v.get i) = v.get i) : v.modify i f = v :=
  Four.ext_get _ _ fun j => by
    by_cases hj : j = i
    · subst hj
      simpa using h
    · exact Four.get_modify_ne v f hj

namespace Machine

/-! ## Channels -/

/-- An update that leaves its channel as it was leaves the state as it was. -/
theorem State.upd_eq_self (s : State) (c : ChannelId) (f : Channel → Channel) (h : f (s.ch c) = s.ch c) : s.upd c f = s :=
  congrArg (fun chans => { s with chans := chans }) (Four.modify_eq_self s.chans c f h)

theorem ChannelState.runs_eq_false_iff (st : ChannelState) : st.runs = false ↔ st = .off ∨ st = .faulted ∨ st = .stopping := by
  cases st <;> simp [ChannelState.runs]

/-! ## Triggers (R6, R10) -/

/-- R6: the output of the channel's trigger filter is high. -/
def Channel.triggerHigh (ch : Channel) : Channel :=
  { ch with timer := { ch.timer with inputHigh := true } }

@[simp] theorem Channel.triggerHigh_state (ch : Channel) : ch.triggerHigh.state = ch.state := rfl

theorem Channel.triggerHigh_eq_self {ch : Channel} (h : ch.timer.inputHigh = true) : ch.triggerHigh = ch := by
  rw [Channel.triggerHigh, ← h]

/-- R6, R7: a TRIGGER leaves the filter's output high; only from a low output does the frame timer take a trigger. -/
theorem exec_trigger (c : ChannelId) (s : State) :
    exec (.trigger c) s
      = if (s.ch c).timer.inputHigh then .next s else .next ((s.upd c Channel.triggerHigh).triggerTaken c) := rfl

/-- R10: outside STARTING and RUNNING the frame timer takes no trigger. -/
theorem State.triggerTaken_of_not_runs {s : State} {c : ChannelId} (h : (s.ch c).state.runs = false) : s.triggerTaken c = s := by
  simp [State.triggerTaken, h]

theorem exec_trigger_of_not_runs {s : State} {c : ChannelId} (h : (s.ch c).state.runs = false) :
    exec (.trigger c) s = .next (s.upd c Channel.triggerHigh) := by
  rw [exec_trigger]
  split
  · next hhigh => rw [State.upd_eq_self s c _ (Channel.triggerHigh_eq_self hhigh)]
  · rw [State.triggerTaken_of_not_runs (by simpa using h)]

/-! ## The timer in OFF and FAULTED (R10) -/

theorem Channel.agrees.timer_idle {ch : Channel} (h : ch.agrees) (hout : ch.state.inRun = false) : ch.timer.state = .idle :=
  have ⟨_, outOfRun, _⟩ := h
  (outOfRun hout).left

theorem State.ledger.agrees {s : State} (h : s.ledger) (c : ChannelId) : (s.ch c).agrees :=
  have ⟨_, _, _, channels, _⟩ := h
  (channels c).left

theorem ChannelState.inRun_of_off_or_faulted {st : ChannelState} (h : st = .off ∨ st = .faulted) : st.inRun = false := by
  obtain rfl | rfl := h <;> rfl

/-- Settles O41: the channel does not run, so the trigger is not taken; in OFF and FAULTED the ledger's agreement of the
channel with its state has the timer IDLE. -/
theorem triggerIsIgnoredOutsideARun : Obligations.TriggerIsIgnoredOutsideARun := fun _ c hstate =>
  ⟨exec_trigger_of_not_runs ((ChannelState.runs_eq_false_iff _).mpr hstate),
    fun hledger hout => (hledger.agrees c).timer_idle (ChannelState.inRun_of_off_or_faulted hout)⟩

end Machine

end Sys2Proof
end

section
/-! The output word of a block of samples (R51): four times the mean of the samples, rounded to the nearest whole number. -/

namespace Sys2Proof.Machine

/-- R51: every sample counts whole, and none is above 4,095. -/
theorem sum_toNat_samples_le (block : List Sample) : (block.map BitVec.toNat).sum ≤ block.length * 4095 := by
  induction block with
  | nil => exact Nat.le_refl 0
  | cons x xs ih =>
    have hx : x.toNat < 4096 := x.isLt
    rw [List.map_cons, List.sum_cons, List.length_cons]
    omega

theorem Mode.samples_pos (m : Mode) : 0 < m.samples := by
  cases m <;> decide

@[simp] theorem Mode.word_full (sum : Nat) : Mode.full.word sum = sum := rfl

theorem Mode.word_of_ne_full {m : Mode} (hm : m ≠ .full) (sum : Nat) :
    m.word sum = (4 * sum + m.samples / 2) / m.samples := by
  cases m with
  | full => exact absurd rfl hm
  | mean2 | mean3 | skip2 | vbin4 => rfl

/-- R51: the greatest word is four times the greatest sample, the rounding term ⌊N/2⌋ being less than N. -/
theorem Mode.word_le_of_ne_full {m : Mode} (hm : m ≠ .full) {sum : Nat} (hsum : sum ≤ m.samples * 4095) :
    m.word sum ≤ 16380 := by
  have hround : m.samples / 2 < m.samples := Nat.div_lt_self m.samples_pos Nat.one_lt_two
  rw [Mode.word_of_ne_full hm, ← Nat.lt_succ_iff, Nat.div_lt_iff_lt_mul m.samples_pos]
  omega

theorem Mode.ne_full_of_samples_ne_one {m : Mode} (h : m.samples ≠ 1) : m ≠ .full := by
  rintro rfl
  exact h rfl

theorem Mode.word_of_samples_eq_four {m : Mode} (h : m.samples = 4) (sum : Nat) : m.word sum = sum := by
  rw [Mode.word_of_ne_full (Mode.ne_full_of_samples_ne_one (by omega)), h]
  omega

theorem Mode.word_of_samples_eq_two {m : Mode} (h : m.samples = 2) (sum : Nat) : m.word sum = 2 * sum := by
  rw [Mode.word_of_ne_full (Mode.ne_full_of_samples_ne_one (by omega)), h]
  omega

/-- Settles O53: a block of N samples sums to at most 4095·N, from which both bounds follow; in FULL the block is one
sample, which is its own sum. -/
theorem outputWordIsFourTimesTheMean : Obligations.OutputWordIsFourTimesTheMean := by
  intro m block sum N hN hlength hsum
  obtain rfl : N = m.samples := hN.trans (by cases m <;> rfl)
  have hle : sum ≤ m.samples * 4095 := hsum ▸ hlength ▸ sum_toNat_samples_le block
  refine ⟨?_, fun hm => ⟨Mode.word_of_ne_full hm sum, Mode.word_le_of_ne_full hm hle⟩,
    fun h => Mode.word_of_samples_eq_four h sum, fun h => Mode.word_of_samples_eq_two h sum⟩
  rintro rfl
  obtain ⟨x, rfl⟩ := List.length_eq_one_iff.mp hlength
  rw [Mode.word_full]
  exact ⟨by simp [hsum], hle⟩

end Sys2Proof.Machine
end

section
/-! General facts about lists and numbers that the development uses beyond those of Lean's own library. -/

namespace Sys2Proof.Machine

/-- In a list whose images under `f` are all different an element is known by its image. -/
theorem eq_of_nodup_map {α β : Type} {f : α → β} {l : List α} (h : (l.map f).Nodup) {x y : α} (hx : x ∈ l) (hy : y ∈ l) (he : f x = f y) : x = y := by
  induction l with
  | nil => cases hx
  | cons z rest ih =>
    obtain ⟨fresh, unique⟩ := List.nodup_cons.mp h
    obtain first | later := List.mem_cons.mp hx
    · obtain first' | later' := List.mem_cons.mp hy
      · exact first.trans first'.symm
      · exact absurd (List.mem_map.mpr ⟨y, later', by rw [← he, first]⟩) fresh
    · obtain first' | later' := List.mem_cons.mp hy
      · exact absurd (List.mem_map.mpr ⟨x, later, by rw [he, first']⟩) fresh
      · exact ih unique later later'

theorem congrArg_both {α β γ : Type} (f : α → β → γ) {a a' : α} {b b' : β} (ha : a = a') (hb : b = b') : f a b = f a' b' := by
  rw [ha, hb]

theorem getD_append_right {α : Type} {a : List α} (b : List α) {n : Nat} (h : a.length ≤ n) {d : α} : (a ++ b).getD n d = b.getD (n - a.length) d := by
  rw [List.getD_eq_getElem?_getD, List.getD_eq_getElem?_getD, List.getElem?_append_right h]

theorem getD_append_left {α : Type} {a : List α} (b : List α) {n : Nat} (h : n < a.length) {d : α} : (a ++ b).getD n d = a.getD n d := by
  rw [List.getD_eq_getElem?_getD, List.getD_eq_getElem?_getD, List.getElem?_append_left h]

end Sys2Proof.Machine
end

section
/-! What closing captures, frames and runs does, as a change of one channel and the records it posts: every shared operation of chapters 5 to 7 on channel `c` is one `State.emit`, its channel and records computed from the channel alone (R105, R111, R124, R125, R128, R129). -/

namespace Sys2Proof.Machine

/-! ## A change of one channel with the records it posts -/

/-- Channel `c` becomes `ch`, and the records `r` join the holding queue, each with one reserved credit (R150, R151). -/
def State.emit (s : State) (c : ChannelId) (ch : Channel) (r : List Completion) : State :=
  { s with
    chans := s.chans.modify c fun _ => ch
    cpl := { s.cpl with queue := s.cpl.queue ++ r, reserved := s.cpl.reserved - r.length } }

section
variable (s : State) (c : ChannelId) (ch : Channel) (r : List Completion)

@[simp] theorem State.emit_regs : (s.emit c ch r).regs = s.regs := rfl
@[simp] theorem State.emit_proc : (s.emit c ch r).proc = s.proc := rfl
@[simp] theorem State.emit_pools : (s.emit c ch r).pools = s.pools := rfl
@[simp] theorem State.emit_port : (s.emit c ch r).port = s.port := rfl
@[simp] theorem State.emit_mem : (s.emit c ch r).mem = s.mem := rfl
@[simp] theorem State.emit_pending : (s.emit c ch r).pending = s.pending := rfl
@[simp] theorem State.emit_draws : (s.emit c ch r).draws = s.draws := rfl
@[simp] theorem State.emit_queue : (s.emit c ch r).cpl.queue = s.cpl.queue ++ r := rfl
@[simp] theorem State.emit_reserved : (s.emit c ch r).cpl.reserved = s.cpl.reserved - r.length := rfl
theorem State.emit_cpl :
    (s.emit c ch r).cpl = { s.cpl with queue := s.cpl.queue ++ r, reserved := s.cpl.reserved - r.length } := rfl

@[simp] theorem State.emit_ch_same : (s.emit c ch r).ch c = ch := Four.get_modify_same _ _ _

theorem State.emit_ch_ne {d : ChannelId} (h : d ≠ c) : (s.emit c ch r).ch d = s.ch d := Four.get_modify_ne _ _ h

/-- Reading a channel after an emission. -/
theorem State.emit_ch (d : ChannelId) : (s.emit c ch r).ch d = if d = c then ch else s.ch d := by
  split
  · next h => rw [h, State.emit_ch_same]
  · next h => exact State.emit_ch_ne s c ch r h
end

theorem Four.modify_modify {α : Type} (v : Four α) (i : Fin 4) (f g : α → α) : (v.modify i f).modify i g = v.modify i fun x => g (f x) :=
  Four.ext_get _ _ fun j => by
    by_cases h : j = i
    · rw [h, Four.get_modify_same, Four.get_modify_same, Four.get_modify_same]
    · rw [Four.get_modify_ne _ _ h, Four.get_modify_ne _ _ h, Four.get_modify_ne _ _ h]

theorem Four.modify_eq_of_get {α : Type} (v : Four α) (i : Fin 4) (f : α → α) : v.modify i f = v.modify i fun _ => f (v.get i) :=
  Four.ext_get _ _ fun j => by
    by_cases h : j = i
    · rw [h, Four.get_modify_same, Four.get_modify_same]
    · rw [Four.get_modify_ne _ _ h, Four.get_modify_ne _ _ h]

/-- Two emissions of one channel are one. -/
@[simp] theorem State.emit_emit (s : State) (c : ChannelId) (a b : Channel) (q r : List Completion) :
    (s.emit c a q).emit c b r = s.emit c b (q ++ r) := by
  simp only [State.emit, Four.modify_modify, List.append_assoc, List.length_append, Nat.sub_sub]

/-- Nothing posted and the channel as it was: the state as it was. -/
theorem State.emit_self (s : State) (c : ChannelId) : s.emit c (s.ch c) [] = s := by
  rw [State.emit, Four.modify_eq_self s.chans c _ rfl, List.append_nil, List.length_nil, Nat.sub_zero]

theorem State.upd_eq_emit (s : State) (c : ChannelId) (f : Channel → Channel) : s.upd c f = s.emit c (f (s.ch c)) [] := by
  rw [State.upd, Four.modify_eq_of_get, State.emit, List.append_nil, List.length_nil, Nat.sub_zero, State.ch]

theorem State.place_eq_emit (s : State) (c : ChannelId) (r : Completion) : s.place r = s.emit c (s.ch c) [r] := by
  rw [State.emit, Four.modify_eq_self s.chans c _ rfl, State.place, List.length_singleton]

theorem State.send_eq_emit (s : State) (c : ChannelId) (m : LinkMsg) :
    s.send c m = s.emit c { s.ch c with link := (s.ch c).link.send m } [] :=
  State.upd_eq_emit s c _

@[simp] theorem State.emit_upd (s : State) (c : ChannelId) (ch : Channel) (r : List Completion) (f : Channel → Channel) :
    (s.emit c ch r).upd c f = s.emit c (f ch) r := by
  rw [State.upd_eq_emit, State.emit_emit, State.emit_ch_same, List.append_nil]

@[simp] theorem State.emit_place (s : State) (c : ChannelId) (ch : Channel) (r : List Completion) (x : Completion) :
    (s.emit c ch r).place x = s.emit c ch (r ++ [x]) := by
  rw [State.place_eq_emit _ c, State.emit_emit, State.emit_ch_same]

/-! ## Closing captures (R105, R106) -/

/-- The channel without the captures that `p` picks. -/
def Channel.without (ch : Channel) (p : Capture → Bool) : Channel :=
  { ch with captures := ch.captures.filter fun k => !p k }

/-- The CAPTURE_CLOSED of every capture that `p` picks, in queue order. -/
def Channel.closeRecords (ch : Channel) (c : ChannelId) (p : Capture → Bool) : List Completion :=
  (ch.captures.filter p).map (closedRecord c ch.timer.run)

theorem State.placeClosed_eq_emit (s : State) (c : ChannelId) (caps : List Capture) :
    s.placeClosed c caps = s.emit c (s.ch c) (caps.map (closedRecord c (s.ch c).timer.run)) := by
  induction caps generalizing s with
  | nil => exact (State.emit_self s c).symm
  | cons k rest ih => rw [State.placeClosed, ih, State.place_eq_emit s c, State.emit_emit, State.emit_ch_same]; rfl

theorem State.closeCaptures_eq_emit (s : State) (c : ChannelId) (p : Capture → Bool) :
    s.closeCaptures c p = s.emit c ((s.ch c).without p) ((s.ch c).closeRecords c p) := by
  rw [State.closeCaptures, State.placeClosed_eq_emit, State.emit_upd]; rfl

/-! ## A frame leaves its capture and its context (R105, R125) -/

/-- R105: one frame in flight less, one delivered more for a whole frame. -/
def Capture.posted (k : Capture) (tag : Tag) (whole : Bool) : Capture :=
  if k.tag = tag then { k with inFlight := k.inFlight - 1, delivered := if whole then satDelivered k.delivered else k.delivered } else k

/-- The captures after a frame that carries `tag` is posted, before any of them closes. -/
def Channel.credited (ch : Channel) (tag : Tag) (whole : Bool) : Channel :=
  { ch with captures := ch.captures.map fun k => k.posted tag whole }

/-- R105: the captures that close when a frame that carries `tag` is posted. -/
def Capture.closesWith (tag : Tag) (k : Capture) : Bool :=
  k.tag == tag && k.drained

/-- The captures of a channel after its frame `f` is posted. -/
def Channel.capturesLeft (ch : Channel) (f : Frame) (whole : Bool) : List Capture :=
  match f.tag with
  | none => ch.captures
  | some tag => ((ch.credited tag whole).without (Capture.closesWith tag)).captures

/-- The CAPTURE_CLOSED that follow the result of frame `f`. -/
def Channel.releaseRecords (ch : Channel) (c : ChannelId) (f : Frame) (whole : Bool) : List Completion :=
  match f.tag with
  | none => []
  | some tag => (ch.credited tag whole).closeRecords c (Capture.closesWith tag)

/-- Steps 4 and 5 of R125 for the earliest frame `f`. -/
def Channel.released (ch : Channel) (f : Frame) (whole : Bool) : Channel :=
  { ch with captures := ch.capturesLeft f whole, frames := ch.frames.tail, lastFreed := some f.ctx }

theorem State.release_eq_emit (s : State) (c : ChannelId) (f : Frame) (whole : Bool) :
    s.release c f whole = s.emit c ((s.ch c).released f whole) ((s.ch c).releaseRecords c f whole) := by
  unfold State.release Channel.released Channel.releaseRecords Channel.capturesLeft
  cases f.tag with
  | none => exact State.upd_eq_emit s c _
  | some tag =>
    simp only [State.framePosted, State.closeCaptures_eq_emit, State.upd_eq_emit s c, State.emit_emit, State.emit_ch_same, State.emit_upd,
      List.nil_append]
    rfl

/-- The records of a frame that closes without a header (R125, R126). -/
def Channel.unwrittenRecords (ch : Channel) (c : ChannelId) (f : Frame) : List Completion :=
  (if f.credit then [frameDroppedRecord c f] else []) ++ ch.releaseRecords c f false

theorem State.closeUnwritten_eq_emit (s : State) (c : ChannelId) (f : Frame) :
    s.closeUnwritten c f = s.emit c ((s.ch c).released f false) ((s.ch c).unwrittenRecords c f) := by
  unfold State.closeUnwritten Channel.unwrittenRecords
  cases f.credit with
  | false => exact State.release_eq_emit s c f false
  | true =>
    simp only [if_true, State.release_eq_emit, State.place_eq_emit s c, State.emit_ch_same, State.emit_emit]

/-! ## The frames go on (R123, R124, R125, R128, R129) -/

/-- The earliest frame `f` closes without a header: its rows are done and it has no header to write, or it gave its header up. -/
def Channel.drops (ch : Channel) (f : Frame) : Bool :=
  match f.stage with
  | .reading => false
  | .draining => !ch.rowsRemain f.ctx && !(f.hold.isBuffer && !f.noHeader)
  | .closing => f.noHeader

/-- The earliest frame `f` enters CLOSING: its rows are done and it has a header to write. -/
def Channel.entersClosing (ch : Channel) (f : Frame) : Bool :=
  f.stage == .draining && !ch.rowsRemain f.ctx && f.hold.isBuffer && !f.noHeader

/-- R125 step 1: frame `f` in CLOSING, with the lost-event counter `n` sampled. -/
def Frame.closingAt (f : Frame) (n : Nat) : Frame :=
  { f with stage := .closing, lostEvents := some n }

/-- The channel after its frames have gone on as far as they can, at most `fuel` of them closing. -/
def Channel.advance (ch : Channel) (fuel : Nat) : Channel :=
  match fuel with
  | 0 => ch
  | fuel + 1 =>
    match ch.frames with
    | [] => ch
    | f :: _ =>
      if ch.drops f then (ch.released f false).advance fuel
      else if ch.entersClosing f then ch.withHead (f.closingAt ch.lostEvents)
      else ch

/-- The records posted while the frames go on. -/
def Channel.advanceRecords (ch : Channel) (c : ChannelId) (fuel : Nat) : List Completion :=
  match fuel with
  | 0 => []
  | fuel + 1 =>
    match ch.frames with
    | [] => []
    | f :: _ => if ch.drops f then ch.unwrittenRecords c f ++ (ch.released f false).advanceRecords c fuel else []

/-- The sample of the lost-event counter in a frame that closes at once is in none of its records. -/
theorem State.closeUnwritten_sampled (s : State) (c : ChannelId) (f : Frame) (n : Nat) :
    s.closeUnwritten c (f.sampled n) = s.closeUnwritten c f := rfl

theorem State.advanceFrames_eq_emit (s : State) (c : ChannelId) (fuel : Nat) :
    s.advanceFrames c fuel = s.emit c ((s.ch c).advance fuel) ((s.ch c).advanceRecords c fuel) := by
  induction fuel generalizing s with
  | zero => exact (State.emit_self s c).symm
  | succ fuel ih =>
    unfold State.advanceFrames Channel.advance Channel.advanceRecords
    have dropped (f : Frame) : (s.closeUnwritten c f).advanceFrames c fuel
        = s.emit c (((s.ch c).released f false).advance fuel)
            ((s.ch c).unwrittenRecords c f ++ ((s.ch c).released f false).advanceRecords c fuel) := by
      rw [ih, State.closeUnwritten_eq_emit, State.emit_emit, State.emit_ch_same]
    cases hf : (s.ch c).frames with
    | nil => exact (State.emit_self s c).symm
    | cons f rest =>
      simp only [State.closeUnwritten_sampled, dropped]
      cases hs : f.stage with
      | reading => simp [Channel.drops, Channel.entersClosing, hs, State.emit_self]
      | draining =>
        cases hr : (s.ch c).rowsRemain f.ctx <;> cases hb : f.hold.isBuffer <;> cases hn : f.noHeader <;>
          simp [Channel.drops, Channel.entersClosing, hs, hr, hb, hn, State.emit_self, State.upd_eq_emit] <;> rfl
      | closing => cases hn : f.noHeader <;> simp [Channel.drops, Channel.entersClosing, hs, hn, State.emit_self]

/-! ## The end of a run (R87, R111, R112, R128) -/

/-- The channel once its run has ended as `e` says, its captures closed and its event made. -/
def Channel.finished (ch : Channel) (e : Ending) : Channel :=
  { ch with
    captures := (ch.captures.map fun k => k.drain e.event.closeReason).filter fun k => !k.drained
    standing := false, state := e.event.endState, table := ch.table.cleared, ending := none }

/-- The records of the end of a run: the captures that close, in queue order, and the channel's event. -/
def Channel.finishRecords (ch : Channel) (c : ChannelId) (event : ChannelEvent) : List Completion :=
  ((ch.captures.map fun k => k.drain event.closeReason).filter Capture.drained).map (closedRecord c ch.timer.run)
    ++ [channelEventRecord c ch event]

/-- HALTED ends a run that it found faulted: the channel is OFF, and STOPPED (HALT) is offered (R95). -/
def State.haltedAfter (s : State) (c : ChannelId) : State :=
  (s.upd c fun ch => { ch with state := .off }).offerHaltStop c

theorem State.finishEnding_eq_emit (s : State) (c : ChannelId) (e : Ending) :
    s.finishEnding c e = if e.thenHalt then (s.emit c ((s.ch c).finished e) ((s.ch c).finishRecords c e.event)).haltedAfter c
      else s.emit c ((s.ch c).finished e) ((s.ch c).finishRecords c e.event) := by
  unfold State.finishEnding State.haltedAfter
  simp only [State.closeCaptures_eq_emit, State.upd_eq_emit s c, State.emit_emit, State.emit_ch_same, State.spendStanding, State.emit_place,
    State.emit_upd, List.nil_append]
  rfl

/-- R87: the channel that goes from STOPPING to OFF. -/
def Channel.stoppedOff (ch : Channel) : Channel :=
  { ch with standing := false, state := .off, table := ch.table.cleared }

theorem State.finishStopping_eq_emit (s : State) (c : ChannelId) :
    s.finishStopping c = s.emit c (s.ch c).stoppedOff [channelEventRecord c (s.ch c) (.stopped .stop)] := by
  unfold State.finishStopping State.spendStanding
  rw [State.place_eq_emit s c, State.emit_upd, State.emit_upd]
  rfl

/-- The channel after the check whether its run has ended. -/
def Channel.ended (ch : Channel) : Channel :=
  match ch.frames, ch.ending with
  | [], some e => ch.finished e
  | [], none => if ch.state = .stopping ∧ ch.timer.state = .idle then ch.stoppedOff else ch
  | _ :: _, _ => ch

/-- The records of that check. -/
def Channel.endedRecords (ch : Channel) (c : ChannelId) : List Completion :=
  match ch.frames, ch.ending with
  | [], some e => ch.finishRecords c e.event
  | [], none => if ch.state = .stopping ∧ ch.timer.state = .idle then [channelEventRecord c ch (.stopped .stop)] else []
  | _ :: _, _ => []

/-- HALTED found the run faulted, and nothing keeps it from its end any more. -/
def Channel.haltsNow (ch : Channel) : Bool :=
  match ch.frames, ch.ending with
  | [], some e => e.thenHalt
  | _, _ => false

theorem State.checkEnd_eq_emit (s : State) (c : ChannelId) :
    s.checkEnd c = if (s.ch c).haltsNow then (s.emit c (s.ch c).ended ((s.ch c).endedRecords c)).haltedAfter c
      else s.emit c (s.ch c).ended ((s.ch c).endedRecords c) := by
  unfold State.checkEnd Channel.ended Channel.endedRecords Channel.haltsNow
  cases (s.ch c).frames with
  | cons f rest => exact (State.emit_self s c).symm
  | nil =>
    cases (s.ch c).ending with
    | some e => exact State.finishEnding_eq_emit s c e
    | none =>
      by_cases h : (s.ch c).state = .stopping ∧ (s.ch c).timer.state = .idle
      · simp only [if_pos h]; exact State.finishStopping_eq_emit s c
      · simp only [if_neg h]; exact (State.emit_self s c).symm

/-- R129: every aborted frame whose header is not handed has given it up. -/
def Channel.givenUp (ch : Channel) : Channel :=
  { ch with frames := ch.frames.map fun f => f.giveUpHeader ch.headerWrite.isSome }

/-- The channel as the frames of `State.settle` find it: headers are given up where the interface does not write. -/
def Channel.decided (ch : Channel) (writes : Bool) : Channel :=
  if writes then ch else ch.givenUp

/-- The channel once its frames have gone on, before its run may end. -/
def Channel.advanced (ch : Channel) (writes : Bool) : Channel :=
  (ch.decided writes).advance ch.frames.length

/-- The channel once its frames and its run have gone on as far as they can. -/
def Channel.settled (ch : Channel) (writes : Bool) : Channel :=
  (ch.advanced writes).ended

/-- The records of `Channel.settled`. -/
def Channel.settledRecords (ch : Channel) (c : ChannelId) (writes : Bool) : List Completion :=
  (ch.decided writes).advanceRecords c ch.frames.length ++ (ch.advanced writes).endedRecords c

/-- What `State.settle` does: one emission, with STOPPED (HALT) offered behind it where HALTED found the run faulted. -/
theorem State.settle_eq_emit (s : State) (c : ChannelId) :
    s.settle c = if ((s.ch c).advanced s.regs.iface.busWrites).haltsNow then
        (s.emit c ((s.ch c).settled s.regs.iface.busWrites) ((s.ch c).settledRecords c s.regs.iface.busWrites)).haltedAfter c
      else s.emit c ((s.ch c).settled s.regs.iface.busWrites) ((s.ch c).settledRecords c s.regs.iface.busWrites) := by
  have given : s.giveUpHeaders c = s.emit c ((s.ch c).decided s.regs.iface.busWrites) [] := by
    unfold State.giveUpHeaders Channel.decided
    cases s.regs.iface.busWrites with
    | true => exact (State.emit_self s c).symm
    | false => exact State.upd_eq_emit s c _
  rw [State.settle, given, State.advanceFrames_eq_emit, State.emit_emit, State.checkEnd_eq_emit, State.emit_emit, State.emit_ch_same,
    State.emit_ch_same]
  rfl

/-- Outside HALTED no end of a run waits to report HALT, and settling is one emission. -/
theorem State.settle_eq_emit_of_not_halts {s : State} {c : ChannelId} (h : ((s.ch c).advanced s.regs.iface.busWrites).haltsNow = false) :
    s.settle c = s.emit c ((s.ch c).settled s.regs.iface.busWrites) ((s.ch c).settledRecords c s.regs.iface.busWrites) := by
  rw [State.settle_eq_emit, h]
  exact if_neg Bool.false_ne_true

/-! ## What stays of the channel while its frames and its run go on -/

/-- What the release of a frame and the entry to CLOSING leave, the frames' going on leaves. -/
theorem Channel.advance_kept {α : Type} (g : Channel → α) (released : ∀ ch f, g (Channel.released ch f false) = g ch)
    (closing : ∀ ch f, g (Channel.withHead ch f) = g ch) (ch : Channel) (fuel : Nat) : g (ch.advance fuel) = g ch := by
  induction fuel generalizing ch with
  | zero => rfl
  | succ fuel ih =>
    unfold Channel.advance
    split
    · rfl
    · split
      · exact (ih _).trans (released _ _)
      · split
        · exact closing _ _
        · rfl

@[simp] theorem Channel.advance_state (ch : Channel) (fuel : Nat) : (ch.advance fuel).state = ch.state :=
  Channel.advance_kept Channel.state (fun _ _ => rfl) (fun _ _ => rfl) ch fuel
@[simp] theorem Channel.advance_faultCause (ch : Channel) (fuel : Nat) : (ch.advance fuel).faultCause = ch.faultCause :=
  Channel.advance_kept Channel.faultCause (fun _ _ => rfl) (fun _ _ => rfl) ch fuel
@[simp] theorem Channel.advance_standing (ch : Channel) (fuel : Nat) : (ch.advance fuel).standing = ch.standing :=
  Channel.advance_kept Channel.standing (fun _ _ => rfl) (fun _ _ => rfl) ch fuel
@[simp] theorem Channel.advance_lostEvents (ch : Channel) (fuel : Nat) : (ch.advance fuel).lostEvents = ch.lostEvents :=
  Channel.advance_kept Channel.lostEvents (fun _ _ => rfl) (fun _ _ => rfl) ch fuel
@[simp] theorem Channel.advance_ending (ch : Channel) (fuel : Nat) : (ch.advance fuel).ending = ch.ending :=
  Channel.advance_kept Channel.ending (fun _ _ => rfl) (fun _ _ => rfl) ch fuel
@[simp] theorem Channel.advance_timer (ch : Channel) (fuel : Nat) : (ch.advance fuel).timer = ch.timer :=
  Channel.advance_kept Channel.timer (fun _ _ => rfl) (fun _ _ => rfl) ch fuel
@[simp] theorem Channel.advance_table (ch : Channel) (fuel : Nat) : (ch.advance fuel).table = ch.table :=
  Channel.advance_kept Channel.table (fun _ _ => rfl) (fun _ _ => rfl) ch fuel
@[simp] theorem Channel.advance_link (ch : Channel) (fuel : Nat) : (ch.advance fuel).link = ch.link :=
  Channel.advance_kept Channel.link (fun _ _ => rfl) (fun _ _ => rfl) ch fuel
@[simp] theorem Channel.advance_combiner (ch : Channel) (fuel : Nat) : (ch.advance fuel).combiner = ch.combiner :=
  Channel.advance_kept Channel.combiner (fun _ _ => rfl) (fun _ _ => rfl) ch fuel
@[simp] theorem Channel.advance_rows (ch : Channel) (fuel : Nat) : (ch.advance fuel).rows = ch.rows :=
  Channel.advance_kept Channel.rows (fun _ _ => rfl) (fun _ _ => rfl) ch fuel
@[simp] theorem Channel.advance_rowWrite (ch : Channel) (fuel : Nat) : (ch.advance fuel).rowWrite = ch.rowWrite :=
  Channel.advance_kept Channel.rowWrite (fun _ _ => rfl) (fun _ _ => rfl) ch fuel
@[simp] theorem Channel.advance_headerWrite (ch : Channel) (fuel : Nat) : (ch.advance fuel).headerWrite = ch.headerWrite :=
  Channel.advance_kept Channel.headerWrite (fun _ _ => rfl) (fun _ _ => rfl) ch fuel

/-- What the giving up of headers leaves. -/
theorem Channel.decided_kept {α : Type} (g : Channel → α) (h : ∀ ch, g (Channel.givenUp ch) = g ch) (ch : Channel) (writes : Bool) :
    g (ch.decided writes) = g ch := by
  cases writes
  · exact h ch
  · rfl

@[simp] theorem Channel.decided_state (ch : Channel) (writes : Bool) : (ch.decided writes).state = ch.state :=
  Channel.decided_kept Channel.state (fun _ => rfl) ch writes
@[simp] theorem Channel.decided_faultCause (ch : Channel) (writes : Bool) : (ch.decided writes).faultCause = ch.faultCause :=
  Channel.decided_kept Channel.faultCause (fun _ => rfl) ch writes
@[simp] theorem Channel.decided_standing (ch : Channel) (writes : Bool) : (ch.decided writes).standing = ch.standing :=
  Channel.decided_kept Channel.standing (fun _ => rfl) ch writes
@[simp] theorem Channel.decided_lostEvents (ch : Channel) (writes : Bool) : (ch.decided writes).lostEvents = ch.lostEvents :=
  Channel.decided_kept Channel.lostEvents (fun _ => rfl) ch writes
@[simp] theorem Channel.decided_ending (ch : Channel) (writes : Bool) : (ch.decided writes).ending = ch.ending :=
  Channel.decided_kept Channel.ending (fun _ => rfl) ch writes
@[simp] theorem Channel.decided_timer (ch : Channel) (writes : Bool) : (ch.decided writes).timer = ch.timer :=
  Channel.decided_kept Channel.timer (fun _ => rfl) ch writes
@[simp] theorem Channel.decided_table (ch : Channel) (writes : Bool) : (ch.decided writes).table = ch.table :=
  Channel.decided_kept Channel.table (fun _ => rfl) ch writes
@[simp] theorem Channel.decided_link (ch : Channel) (writes : Bool) : (ch.decided writes).link = ch.link :=
  Channel.decided_kept Channel.link (fun _ => rfl) ch writes
@[simp] theorem Channel.decided_combiner (ch : Channel) (writes : Bool) : (ch.decided writes).combiner = ch.combiner :=
  Channel.decided_kept Channel.combiner (fun _ => rfl) ch writes
@[simp] theorem Channel.decided_rows (ch : Channel) (writes : Bool) : (ch.decided writes).rows = ch.rows :=
  Channel.decided_kept Channel.rows (fun _ => rfl) ch writes
@[simp] theorem Channel.decided_rowWrite (ch : Channel) (writes : Bool) : (ch.decided writes).rowWrite = ch.rowWrite :=
  Channel.decided_kept Channel.rowWrite (fun _ => rfl) ch writes
@[simp] theorem Channel.decided_headerWrite (ch : Channel) (writes : Bool) : (ch.decided writes).headerWrite = ch.headerWrite :=
  Channel.decided_kept Channel.headerWrite (fun _ => rfl) ch writes
@[simp] theorem Channel.decided_captures (ch : Channel) (writes : Bool) : (ch.decided writes).captures = ch.captures :=
  Channel.decided_kept Channel.captures (fun _ => rfl) ch writes
@[simp] theorem Channel.decided_lastFreed (ch : Channel) (writes : Bool) : (ch.decided writes).lastFreed = ch.lastFreed :=
  Channel.decided_kept Channel.lastFreed (fun _ => rfl) ch writes
@[simp] theorem Channel.advanced_state (ch : Channel) (writes : Bool) : (ch.advanced writes).state = ch.state := by
  simp [Channel.advanced]
@[simp] theorem Channel.advanced_faultCause (ch : Channel) (writes : Bool) : (ch.advanced writes).faultCause = ch.faultCause := by
  simp [Channel.advanced]
@[simp] theorem Channel.advanced_standing (ch : Channel) (writes : Bool) : (ch.advanced writes).standing = ch.standing := by
  simp [Channel.advanced]
@[simp] theorem Channel.advanced_lostEvents (ch : Channel) (writes : Bool) : (ch.advanced writes).lostEvents = ch.lostEvents := by
  simp [Channel.advanced]
@[simp] theorem Channel.advanced_ending (ch : Channel) (writes : Bool) : (ch.advanced writes).ending = ch.ending := by
  simp [Channel.advanced]
@[simp] theorem Channel.advanced_timer (ch : Channel) (writes : Bool) : (ch.advanced writes).timer = ch.timer := by
  simp [Channel.advanced]
@[simp] theorem Channel.advanced_table (ch : Channel) (writes : Bool) : (ch.advanced writes).table = ch.table := by
  simp [Channel.advanced]
@[simp] theorem Channel.advanced_link (ch : Channel) (writes : Bool) : (ch.advanced writes).link = ch.link := by
  simp [Channel.advanced]
@[simp] theorem Channel.advanced_combiner (ch : Channel) (writes : Bool) : (ch.advanced writes).combiner = ch.combiner := by
  simp [Channel.advanced]
@[simp] theorem Channel.advanced_rows (ch : Channel) (writes : Bool) : (ch.advanced writes).rows = ch.rows := by
  simp [Channel.advanced]
@[simp] theorem Channel.advanced_rowWrite (ch : Channel) (writes : Bool) : (ch.advanced writes).rowWrite = ch.rowWrite := by
  simp [Channel.advanced]
@[simp] theorem Channel.advanced_headerWrite (ch : Channel) (writes : Bool) : (ch.advanced writes).headerWrite = ch.headerWrite := by
  simp [Channel.advanced]

/-- What the end of a run leaves. -/
theorem Channel.ended_kept {α : Type} (g : Channel → α) (finished : ∀ ch e, g (Channel.finished ch e) = g ch)
    (stopped : ∀ ch, g (Channel.stoppedOff ch) = g ch) (ch : Channel) : g ch.ended = g ch := by
  unfold Channel.ended
  split
  · exact finished _ _
  · split
    · exact stopped _
    · rfl
  · rfl

@[simp] theorem Channel.ended_faultCause (ch : Channel) : ch.ended.faultCause = ch.faultCause :=
  Channel.ended_kept Channel.faultCause (fun _ _ => rfl) (fun _ => rfl) ch
@[simp] theorem Channel.ended_lostEvents (ch : Channel) : ch.ended.lostEvents = ch.lostEvents :=
  Channel.ended_kept Channel.lostEvents (fun _ _ => rfl) (fun _ => rfl) ch
@[simp] theorem Channel.ended_timer (ch : Channel) : ch.ended.timer = ch.timer :=
  Channel.ended_kept Channel.timer (fun _ _ => rfl) (fun _ => rfl) ch
@[simp] theorem Channel.ended_link (ch : Channel) : ch.ended.link = ch.link :=
  Channel.ended_kept Channel.link (fun _ _ => rfl) (fun _ => rfl) ch
@[simp] theorem Channel.ended_frames (ch : Channel) : ch.ended.frames = ch.frames :=
  Channel.ended_kept Channel.frames (fun _ _ => rfl) (fun _ => rfl) ch
@[simp] theorem Channel.ended_lastFreed (ch : Channel) : ch.ended.lastFreed = ch.lastFreed :=
  Channel.ended_kept Channel.lastFreed (fun _ _ => rfl) (fun _ => rfl) ch
@[simp] theorem Channel.ended_combiner (ch : Channel) : ch.ended.combiner = ch.combiner :=
  Channel.ended_kept Channel.combiner (fun _ _ => rfl) (fun _ => rfl) ch
@[simp] theorem Channel.ended_rows (ch : Channel) : ch.ended.rows = ch.rows :=
  Channel.ended_kept Channel.rows (fun _ _ => rfl) (fun _ => rfl) ch
@[simp] theorem Channel.ended_rowWrite (ch : Channel) : ch.ended.rowWrite = ch.rowWrite :=
  Channel.ended_kept Channel.rowWrite (fun _ _ => rfl) (fun _ => rfl) ch
@[simp] theorem Channel.ended_headerWrite (ch : Channel) : ch.ended.headerWrite = ch.headerWrite :=
  Channel.ended_kept Channel.headerWrite (fun _ _ => rfl) (fun _ => rfl) ch
@[simp] theorem Channel.settled_faultCause (ch : Channel) (writes : Bool) : (ch.settled writes).faultCause = ch.faultCause := by
  simp [Channel.settled]
@[simp] theorem Channel.settled_lostEvents (ch : Channel) (writes : Bool) : (ch.settled writes).lostEvents = ch.lostEvents := by
  simp [Channel.settled]
@[simp] theorem Channel.settled_timer (ch : Channel) (writes : Bool) : (ch.settled writes).timer = ch.timer := by
  simp [Channel.settled]
@[simp] theorem Channel.settled_link (ch : Channel) (writes : Bool) : (ch.settled writes).link = ch.link := by
  simp [Channel.settled]
@[simp] theorem Channel.settled_combiner (ch : Channel) (writes : Bool) : (ch.settled writes).combiner = ch.combiner := by
  simp [Channel.settled]
@[simp] theorem Channel.settled_rows (ch : Channel) (writes : Bool) : (ch.settled writes).rows = ch.rows := by
  simp [Channel.settled]
@[simp] theorem Channel.settled_rowWrite (ch : Channel) (writes : Bool) : (ch.settled writes).rowWrite = ch.rowWrite := by
  simp [Channel.settled]
@[simp] theorem Channel.settled_headerWrite (ch : Channel) (writes : Bool) : (ch.settled writes).headerWrite = ch.headerWrite := by
  simp [Channel.settled]
@[simp] theorem Channel.settled_frames (ch : Channel) (writes : Bool) : (ch.settled writes).frames = (ch.advanced writes).frames := by
  simp [Channel.settled]
@[simp] theorem Channel.settled_lastFreed (ch : Channel) (writes : Bool) : (ch.settled writes).lastFreed = (ch.advanced writes).lastFreed := by
  simp [Channel.settled]

/-- The sets of a channel whose run may end: as they were, or cleared (R43). -/
theorem Channel.settled_table (ch : Channel) (writes : Bool) : (ch.settled writes).table = ch.table ∨ (ch.settled writes).table = ch.table.cleared := by
  have h := Channel.advanced_table ch writes
  unfold Channel.settled Channel.ended
  split
  · exact .inr (congrArg SettingsTable.cleared h)
  · split
    · exact .inr (congrArg SettingsTable.cleared h)
    · exact .inl h
  · exact .inl h

end Sys2Proof.Machine
end

section
/-! Who may change what: every command but a reset keeps host memory, the pools, the sets that SET makes, the configuration registers, the records in the holding queue and the state HALTED, except the part that is the command's own (R150, R157, R166, R171). -/

namespace Sys2Proof.Machine

/-! ## The CMD_RESULT of the record in hand (R137) -/

/-- The record `h` in hand is answered: its CMD_RESULT is placed, its other credits go back, the head advances and no record is in hand. -/
def State.answer (s : State) (h : Hand) (code : ResultCode) (gen : Option Gen) : State :=
  { (s.place (cmdResultRecord h code gen)).giveBack (h.credits - 1) with
    proc := Processor.reset
    regs := { s.regs with cmdHead := (s.regs.cmdHead + 1) % s.regs.cmdSize.toNat } }

@[simp] theorem State.answer_iface (s : State) (h : Hand) (code : ResultCode) (gen : Option Gen) :
    (s.answer h code gen).regs.iface = s.regs.iface := rfl

@[simp] theorem State.answer_ch (s : State) (h : Hand) (code : ResultCode) (gen : Option Gen) (c : ChannelId) :
    (s.answer h code gen).ch c = s.ch c := rfl

theorem State.finishCommand_of_none {s : State} {code : ResultCode} {gen : Option Gen} (hh : s.proc.hand = none) :
    s.finishCommand code gen = s := by
  simp only [State.finishCommand, hh]

/-- R133, R137, R169: behind the answer a QUIESCING interface enters DISABLED, and an ACTIVE one may fetch. -/
theorem State.finishCommand_of_some {s : State} {h : Hand} {code : ResultCode} {gen : Option Gen} (hh : s.proc.hand = some h) :
    s.finishCommand code gen = if s.regs.iface = .quiescing then (s.answer h code gen).enterDisabled else (s.answer h code gen).tryFetch := by
  simp only [State.finishCommand, hh]
  rfl

/-! ## The parts of the block that few commands change -/

/-- A part of the block that only its own commands change. -/
inductive Part where
  | mem
  | pools
  | sets
  | config
  | queue
  deriving DecidableEq

/-- The configuration registers of `r` are those of `q` (R166). -/
abbrev Registers.configKept (q r : Registers) : Prop :=
  r.apertureBase = q.apertureBase ∧ r.apertureSize = q.apertureSize ∧ r.cmdBaseLo = q.cmdBaseLo ∧ r.cmdBaseHi = q.cmdBaseHi
    ∧ r.cplBaseLo = q.cplBaseLo ∧ r.cplBaseHi = q.cplBaseHi ∧ r.cmdSize = q.cmdSize ∧ r.cplSize = q.cplSize

/-- The copies that SET makes are those of `a` (R24, R26, R30). -/
abbrev SettingsTable.setsKept (a b : SettingsTable) : Prop :=
  b.working = a.working ∧ b.committed = a.committed ∧ b.genCounter = a.genCounter

/-- `t` comes from `s` by a step that changes, of the parts that few commands change, only those listed in `x`; HALTED and its cause are kept by all of them. -/
structure Keeps (x : List Part) (s t : State) : Prop where
  mem : .mem ∉ x → t.mem = s.mem
  pools : .pools ∉ x → t.pools = s.pools
  sets : .sets ∉ x → ∀ c : ChannelId, (s.ch c).table.setsKept (t.ch c).table
  config : .config ∉ x → s.regs.configKept t.regs
  queue : .queue ∉ x → ∃ new, t.cpl.queue = s.cpl.queue ++ new
  halted : s.regs.iface = .halted → t.regs.iface = .halted ∧ t.regs.haltCause = s.regs.haltCause

section
variable {x : List Part} {s t u : State}

theorem Keeps.trans (h : Keeps x s t) (k : Keeps x t u) : Keeps x s u where
  mem hx := (k.mem hx).trans (h.mem hx)
  pools hx := (k.pools hx).trans (h.pools hx)
  sets hx c :=
    have ⟨hw, hc, hg⟩ := h.sets hx c
    have ⟨kw, kc, kg⟩ := k.sets hx c
    ⟨kw.trans hw, kc.trans hc, kg.trans hg⟩
  config hx :=
    have ⟨h1, h2, h3, h4, h5, h6, h7, h8⟩ := h.config hx
    have ⟨k1, k2, k3, k4, k5, k6, k7, k8⟩ := k.config hx
    ⟨k1.trans h1, k2.trans h2, k3.trans h3, k4.trans h4, k5.trans h5, k6.trans h6, k7.trans h7, k8.trans h8⟩
  queue hx :=
    have ⟨a, ha⟩ := h.queue hx
    have ⟨b, hb⟩ := k.queue hx
    ⟨a ++ b, by rw [hb, ha, List.append_assoc]⟩
  halted hs :=
    have ⟨hi, hc⟩ := h.halted hs
    have ⟨ki, kc⟩ := k.halted hi
    ⟨ki, kc.trans hc⟩

/-- A step that changes none of these parts of the record of the state. -/
theorem Keeps.of_eq (hmem : t.mem = s.mem) (hpools : t.pools = s.pools) (hchans : t.chans = s.chans) (hregs : s.regs.configKept t.regs)
    (hqueue : t.cpl.queue = s.cpl.queue)
    (hhalted : s.regs.iface = .halted → t.regs.iface = .halted ∧ t.regs.haltCause = s.regs.haltCause) : Keeps x s t where
  mem _ := hmem
  pools _ := hpools
  sets _ c := by rw [State.ch, State.ch, hchans]; exact ⟨rfl, rfl, rfl⟩
  config _ := hregs
  queue _ := ⟨[], by rw [hqueue, List.append_nil]⟩
  halted := hhalted

/-- The same where the registers, too, are as they were. -/
theorem Keeps.of_regs (hmem : t.mem = s.mem) (hpools : t.pools = s.pools) (hchans : t.chans = s.chans) (hregs : t.regs = s.regs)
    (hqueue : t.cpl.queue = s.cpl.queue) : Keeps x s t :=
  Keeps.of_eq hmem hpools hchans (by rw [hregs]; exact ⟨rfl, rfl, rfl, rfl, rfl, rfl, rfl, rfl⟩) hqueue
    fun h => by rw [hregs]; exact ⟨h, rfl⟩

theorem Keeps.refl (x : List Part) (s : State) : Keeps x s s :=
  Keeps.of_regs rfl rfl rfl rfl rfl

/-- A step that acts on one channel keeps all but, perhaps, the pools. -/
theorem ActsOn.keeps {c : ChannelId} (h : ActsOn c s t) (hpools : .pools ∉ x → t.pools = s.pools) : Keeps x s t where
  mem _ := h.mem
  pools := hpools
  sets _ d := by
    by_cases hd : d = c
    · rw [hd]; exact ⟨h.working, h.committed, h.genCounter⟩
    · rw [h.others d hd]; exact ⟨rfl, rfl, rfl⟩
  config _ := by rw [h.regs]; exact ⟨rfl, rfl, rfl, rfl, rfl, rfl, rfl, rfl⟩
  queue _ := h.queue
  halted hs := by rw [h.regs]; exact ⟨hs, rfl⟩

theorem Settles.keeps {c : ChannelId} (h : Settles c s t) : Keeps x s t :=
  h.toActsOn.keeps fun _ => h.pools

/-- Acting on each of the four channels in turn. -/
theorem Keeps.eachChannel (f : ChannelId → State → State) (h : ∀ c s, Settles c s (f c s)) (s : State) : Keeps x s (s.eachChannel f) :=
  (h 0 s).keeps.trans ((h 1 _).keeps.trans ((h 2 _).keeps.trans (h 3 _).keeps))

/-! ## The processor's passages -/

theorem Keeps.tryFetch (s : State) : Keeps x s s.tryFetch := by
  obtain ⟨_, _, _, h⟩ | ⟨_, h⟩ := State.tryFetch_cases s
  · rw [h]; exact Keeps.of_regs rfl rfl rfl rfl rfl
  · rw [h]; exact Keeps.refl x s

/-- The entry to DISABLED, from an interface state that is not HALTED. -/
theorem Keeps.enterDisabled (s : State) (h : s.regs.iface ≠ .halted) : Keeps x s s.enterDisabled :=
  have entered : Keeps x s { s with regs := { s.regs with iface := .disabled } } :=
    Keeps.of_eq rfl rfl rfl ⟨rfl, rfl, rfl, rfl, rfl, rfl, rfl, rfl⟩ rfl fun hs => absurd hs h
  entered.trans (Keeps.eachChannel _ Settles.settle _)

theorem Keeps.answer (s : State) (h : Hand) (code : ResultCode) (gen : Option Gen) : Keeps x s (s.answer h code gen) :=
  (Settles.place 0 s _).keeps.trans (Keeps.of_eq rfl rfl rfl ⟨rfl, rfl, rfl, rfl, rfl, rfl, rfl, rfl⟩ rfl fun hs => ⟨hs, rfl⟩)

theorem Keeps.finishCommand (s : State) (code : ResultCode) (gen : Option Gen) : Keeps x s (s.finishCommand code gen) := by
  cases hh : s.proc.hand with
  | none => rw [State.finishCommand_of_none hh]; exact Keeps.refl x s
  | some h =>
    rw [State.finishCommand_of_some hh]
    split
    · next hq => exact (Keeps.answer s h code gen).trans (Keeps.enterDisabled _ (by rw [State.answer_iface, hq]; exact IfState.noConfusion))
    · exact (Keeps.answer s h code gen).trans (Keeps.tryFetch _)

theorem Keeps.handSpends (s : State) : Keeps x s s.handSpends := by
  unfold State.handSpends
  split <;> exact Keeps.of_regs rfl rfl rfl rfl rfl

theorem Keeps.handTaken (s : State) : Keeps x s s.handTaken := by
  unfold State.handTaken
  split <;> exact Keeps.of_regs rfl rfl rfl rfl rfl

theorem Keeps.handReserve (s : State) : Keeps x s s.handReserve := by
  unfold State.handReserve
  split <;> exact Keeps.of_regs rfl rfl rfl rfl rfl

theorem Keeps.askCredits (s : State) : Keeps x s s.askCredits := by
  obtain h | ⟨_, _, _, _, _, _, h⟩ := State.askCredits_cases s
  · rw [h]; exact Keeps.refl x s
  · rw [h]; exact Keeps.of_regs rfl rfl rfl rfl rfl

theorem Keeps.waitCredit (s : State) : Keeps x s s.waitCredit :=
  have waits : Keeps x s { s with proc := { s.proc with state := .waitCredit } } := Keeps.of_regs rfl rfl rfl rfl rfl
  waits.trans (Keeps.askCredits _)

theorem Keeps.finishWaitingStop (s : State) : Keeps x s s.finishWaitingStop := by
  unfold State.finishWaitingStop
  split
  · exact Keeps.refl x s
  · split
    · split
      · split
        · exact Keeps.finishCommand s _ _
        · exact Keeps.refl x s
      · exact Keeps.refl x s
    · exact Keeps.refl x s

/-! ## Messages and the entry to HALTED -/

theorem Keeps.deliver (s : State) (m : Interrupt) : Keeps x s (s.deliver m) := by
  unfold State.deliver
  split <;> exact Keeps.of_regs rfl rfl rfl rfl rfl

theorem Keeps.announce (s : State) : Keeps x s s.announce := by
  have cleared : Keeps x s { s with cpl := { s.cpl with armed := false } } := Keeps.of_regs rfl rfl rfl rfl rfl
  unfold State.announce
  split
  · exact cleared.trans (Keeps.deliver _ _)
  · exact Keeps.refl x s

theorem Keeps.arm (s : State) : Keeps x s s.arm := by
  have armed : Keeps x s { s with cpl := { s.cpl with armed := true } } := Keeps.of_regs rfl rfl rfl rfl rfl
  unfold State.arm
  dsimp only
  split
  · exact armed.trans (Keeps.announce _)
  · exact armed

theorem Keeps.announceHalt (s : State) : Keeps x s s.announceHalt := by
  unfold State.announceHalt
  split
  · exact Keeps.deliver s _
  · exact Keeps.refl x s

theorem Keeps.discardHand (s : State) : Keeps x s s.discardHand := by
  unfold State.discardHand
  split
  · exact Keeps.of_regs rfl rfl rfl rfl rfl
  · split <;> exact Keeps.of_regs rfl rfl rfl rfl rfl

theorem Settles.haltChannel (c : ChannelId) (s : State) : Settles c s (State.haltChannel c s) := by
  unfold State.haltChannel
  split
  · exact (Settles.upd c s _ rfl rfl rfl).trans (Settles.settle c _)
  · exact Settles.refl c s
  · exact Settles.abortRun c s _
  · exact Settles.abortRun c s _
  · exact Settles.abortRun c s _
  · exact (Settles.upd c s _ rfl rfl rfl).trans (Settles.offerHaltStop c _)

theorem Keeps.enterHalted (s : State) (cause : HaltCause) : Keeps x s (s.enterHalted cause) := by
  unfold State.enterHalted
  split
  · exact Keeps.refl x s
  · next h =>
    have entered : Keeps x s { s with regs := { s.regs with iface := .halted, haltCause := cause } } :=
      Keeps.of_eq rfl rfl rfl ⟨rfl, rfl, rfl, rfl, rfl, rfl, rfl, rfl⟩ rfl fun hs => absurd hs h
    exact entered.trans ((Keeps.discardHand _).trans ((Keeps.eachChannel _ Settles.haltChannel _).trans
      ((Keeps.finishWaitingStop _).trans (Keeps.announceHalt _))))

/-! ## Commands of the register window and the host port -/

theorem Keeps.of_next (h : Host.Outcome.next u = (.next t : Host.Outcome State Fault Refusal)) (k : Keeps x s u) : Keeps x s t := by
  cases h
  exact k

theorem Keeps.enterActive (s : State) (h : s.regs.iface ≠ .halted) : Keeps x s s.enterActive :=
  have entered : Keeps x s { s with regs := { s.regs with iface := .active } } :=
    Keeps.of_eq rfl rfl rfl ⟨rfl, rfl, rfl, rfl, rfl, rfl, rfl, rfl⟩ rfl fun hs => absurd hs h
  entered.trans (Keeps.tryFetch _)

theorem execEnable_keeps {reserved : BitVec 30} (h : execEnable reserved s = .next t) : Keeps x s t := by
  unfold execEnable at h
  split at h
  · next hi =>
    have hne : s.regs.iface ≠ .halted := by rw [hi]; exact IfState.noConfusion
    split at h
    · exact Keeps.of_next h (Keeps.enterActive s hne)
    · exact Keeps.of_next h (Keeps.of_eq rfl rfl rfl ⟨rfl, rfl, rfl, rfl, rfl, rfl, rfl, rfl⟩ rfl fun hs => ⟨hs, rfl⟩)
  · next hi => exact Keeps.of_next h (Keeps.enterActive s (by rw [hi]; exact IfState.noConfusion))
  · exact Keeps.of_next h (Keeps.refl x s)
  · exact Keeps.of_next h (Keeps.refl x s)

theorem execDisable_keeps {reserved : BitVec 30} (h : execDisable reserved s = .next t) : Keeps x s t := by
  unfold execDisable at h
  split at h
  · next hi =>
    have hne : s.regs.iface ≠ .halted := by rw [hi]; exact IfState.noConfusion
    split at h
    · exact Keeps.of_next h (Keeps.enterDisabled s hne)
    · exact Keeps.of_next h (Keeps.of_eq rfl rfl rfl ⟨rfl, rfl, rfl, rfl, rfl, rfl, rfl, rfl⟩ rfl fun hs => absurd hs hne)
  · exact Keeps.of_next h (Keeps.refl x s)
  · exact Keeps.of_next h (Keeps.refl x s)
  · exact Keeps.of_next h (Keeps.refl x s)

/-- The configuration of a ring writes only the configuration registers of what `Keeps` speaks of. -/
theorem Keeps.configure (s : State) (reg : ConfigReg) (value : Word) : Keeps [.config] s (s.configure reg value) := by
  have key : ∀ t : State, t.mem = s.mem → t.pools = s.pools → t.chans = s.chans → t.cpl.queue = s.cpl.queue →
      t.regs.iface = s.regs.iface → t.regs.haltCause = s.regs.haltCause → Keeps [.config] s t :=
    fun t hm hp hc hq hi hh =>
      { mem := fun _ => hm
        pools := fun _ => hp
        sets := fun _ c => by rw [State.ch, State.ch, hc]; exact ⟨rfl, rfl, rfl⟩
        config := fun hx => absurd List.mem_cons_self hx
        queue := fun _ => ⟨[], by rw [hq, List.append_nil]⟩
        halted := fun hs => ⟨hi.trans hs, hh⟩ }
  cases reg <;> exact key _ rfl rfl rfl rfl rfl rfl

theorem execConfigWrite_keeps {reg : ConfigReg} {value : Word} (h : execConfigWrite reg value s = .next t) : Keeps [.config] s t := by
  unfold execConfigWrite at h
  split at h
  · exact Keeps.of_next h (Keeps.configure s reg value)
  · exact Keeps.of_next h (Keeps.of_eq rfl rfl rfl ⟨rfl, rfl, rfl, rfl, rfl, rfl, rfl, rfl⟩ rfl fun hs => ⟨hs, rfl⟩)

theorem execCmdTailWrite_keeps {value : Word} (h : execCmdTailWrite value s = .next t) : Keeps x s t := by
  have tail (n : Nat) : Keeps x s { s with regs := { s.regs with cmdTail := n } } :=
    Keeps.of_eq rfl rfl rfl ⟨rfl, rfl, rfl, rfl, rfl, rfl, rfl, rfl⟩ rfl fun hs => ⟨hs, rfl⟩
  unfold execCmdTailWrite at h
  split at h
  · exact Keeps.of_next h (Keeps.refl x s)
  · split at h
    · split at h
      · exact Keeps.of_next h ((tail _).trans (Keeps.tryFetch _))
      · exact Keeps.of_next h (Keeps.enterHalted s _)
    · exact Keeps.of_next h (tail 0)

theorem execCplHeadWrite_keeps {value : Word} (h : execCplHeadWrite value s = .next t) : Keeps x s t := by
  have head (n : Nat) : Keeps x s { s with regs := { s.regs with cplHead := n } } :=
    Keeps.of_eq rfl rfl rfl ⟨rfl, rfl, rfl, rfl, rfl, rfl, rfl, rfl⟩ rfl fun hs => ⟨hs, rfl⟩
  exact Keeps.of_next h ((head _).trans (Keeps.arm _))

theorem execIfStatusWrite_keeps {value : Word} (h : execIfStatusWrite value s = .next t) : Keeps x s t :=
  Keeps.of_next h (Keeps.of_eq rfl rfl rfl ⟨rfl, rfl, rfl, rfl, rfl, rfl, rfl, rfl⟩ rfl fun hs => ⟨hs, rfl⟩)

theorem execIntControlWrite_keeps {value : Word} (h : execIntControlWrite value s = .next t) : Keeps x s t := by
  have set (b : Bool) : Keeps x s { s with regs := { s.regs with intEnable := b } } :=
    Keeps.of_eq rfl rfl rfl ⟨rfl, rfl, rfl, rfl, rfl, rfl, rfl, rfl⟩ rfl fun hs => ⟨hs, rfl⟩
  unfold execIntControlWrite at h
  split at h
  · exact Keeps.of_next h ((set true).trans (Keeps.arm _))
  · exact Keeps.of_next h (set false)

theorem execRegisterWriteIgnored_keeps {offset bytes : Nat} {value : Word} (h : execRegisterWriteIgnored offset bytes value s = .next t) :
    Keeps x s t := by
  unfold execRegisterWriteIgnored at h
  split at h
  · exact Keeps.of_next h (Keeps.refl x s)
  · cases h

theorem execPortDown_keeps (h : execPortDown s = .next t) : Keeps x s t := by
  have down : Keeps x s { s with port := { s.port with linkUp := false } } := Keeps.of_regs rfl rfl rfl rfl rfl
  unfold execPortDown at h
  split at h
  · exact Keeps.of_next h (down.trans (Keeps.enterHalted _ _))
  · exact Keeps.of_next h (Keeps.refl x s)

theorem execFetchComplete_keeps {issue : Issue} {result : FetchResult} (h : execFetchComplete issue result s = .next t) : Keeps x s t := by
  unfold execFetchComplete at h
  split at h
  · exact Keeps.of_next h (Keeps.of_regs rfl rfl rfl rfl rfl)
  · split at h
    · exact Keeps.of_next h (Keeps.refl x s)
    · next bytes _ =>
      have arrived : Keeps x s { s with proc := { state := .waitCredit, hand := some ⟨s.regs.cmdHead, bytes, 0, false⟩, read := none } } :=
        Keeps.of_regs rfl rfl rfl rfl rfl
      exact Keeps.of_next h (arrived.trans (Keeps.askCredits _))
    · have gone : Keeps x s { s with proc := Processor.reset } := Keeps.of_regs rfl rfl rfl rfl rfl
      exact Keeps.of_next h (gone.trans (Keeps.enterHalted _ _))

/-! ## Commands of the processor -/

theorem execRecordRejected_keeps (h : execRecordRejected s = .next t) : Keeps x s t := by
  unfold execRecordRejected at h
  split at h
  · exact Keeps.of_next h (Keeps.finishCommand s _ _)
  · exact Keeps.of_next h (Keeps.refl x s)

/-- A SET writes, of what `Keeps` speaks of, only the copies of its own channel's table. -/
theorem Keeps.updTable (s : State) (c : ChannelId) (f : Channel → Channel) : Keeps [.sets] s (s.upd c f) where
  mem _ := rfl
  pools _ := rfl
  sets hx := absurd List.mem_cons_self hx
  config _ := ⟨rfl, rfl, rfl, rfl, rfl, rfl, rfl, rfl⟩
  queue _ := ⟨[], (List.append_nil _).symm⟩
  halted hs := ⟨hs, rfl⟩

theorem execSet_keeps (h : execSet s = .next t) : Keeps [.sets] s t := by
  unfold execSet at h
  split at h
  · unfold State.setCommand at h
    dsimp only at h
    split at h
    · split at h
      · exact Keeps.of_next h ((Keeps.updTable s _ _).trans (Keeps.finishCommand _ _ _))
      · split at h
        · exact Keeps.of_next h ((Keeps.updTable s _ _).trans (Keeps.finishCommand _ _ _))
        · exact Keeps.of_next h (Keeps.finishCommand s _ _)
    · exact Keeps.of_next h (Keeps.finishCommand s _ _)
  · exact Keeps.of_next h (Keeps.refl _ s)

end

end Sys2Proof.Machine
end

section
/-! The commands on channels and buffers, and the statements on who may change what: an event of one channel acts on that channel alone, and HALTED is left by a reset alone (R6, R30, R166, R171, 0.3). -/

namespace Sys2Proof.Machine

/-! ## What an offer, the settling of a channel and the passage over all four leave -/

/-- R154: an offer touches, of its channel, the lost-event counter alone. -/
theorem State.offer_ch_same (s : State) (c : ChannelId) (r : Completion) :
    (s.offer c r).ch c = { s.ch c with lostEvents := if 1 ≤ s.creditsFree then (s.ch c).lostEvents else satAdd (s.ch c).lostEvents } := by
  obtain ⟨hfree, h⟩ | ⟨hfree, h⟩ := State.offer_cases s c r
  · rw [h, if_pos hfree]; rfl
  · rw [h, if_neg (by omega)]; exact State.ch_upd_same s c _

/-- The channel after `State.settle`, `n` being its lost-event counter after the offer of STOPPED (HALT) where there is one. -/
def Channel.settledThen (ch : Channel) (writes : Bool) (n : Nat) : Channel :=
  if (ch.advanced writes).haltsNow then { ch.settled writes with state := .off, lostEvents := n } else ch.settled writes

theorem State.settle_ch_same (s : State) (c : ChannelId) :
    ∃ n, (n = (s.ch c).lostEvents ∨ n = satAdd (s.ch c).lostEvents)
      ∧ (s.settle c).ch c = (s.ch c).settledThen s.regs.iface.busWrites n := by
  rw [State.settle_eq_emit]
  unfold Channel.settledThen
  split
  · simp only [State.haltedAfter, State.offerHaltStop, State.offer_ch_same, State.ch_upd_same, State.emit_ch_same, Channel.settled_lostEvents]
    split
    · exact ⟨_, .inl rfl, rfl⟩
    · exact ⟨_, .inr rfl, rfl⟩
  · exact ⟨_, .inl rfl, State.emit_ch_same _ _ _ _⟩

theorem Channel.settledThen_table (ch : Channel) (writes : Bool) (n : Nat) :
    (ch.settledThen writes n).table = ch.table ∨ (ch.settledThen writes n).table = ch.table.cleared := by
  unfold Channel.settledThen
  split <;> exact ch.settled_table writes

/-- A pass over the four channels does to channel `d` what `f d` does, in some state with that channel and the registers of `s`. -/
theorem State.eachChannel_ch {f : ChannelId → State → State} (hf : ∀ c s, ActsOn c s (f c s)) (s : State) (d : ChannelId) :
    ∃ u, u.ch d = s.ch d ∧ u.regs = s.regs ∧ (s.eachChannel f).ch d = (f d u).ch d := by
  have keep {c d : ChannelId} (h : d ≠ c) (u : State) : (f c u).ch d = u.ch d := (hf c u).others d h
  have regs (c : ChannelId) (u : State) : (f c u).regs = u.regs := (hf c u).regs
  unfold State.eachChannel
  match d with
  | 0 => exact ⟨s, rfl, rfl, by rw [keep (by decide), keep (by decide), keep (by decide)]⟩
  | 1 => exact ⟨f 0 s, keep (by decide) _, regs _ _, by rw [keep (by decide), keep (by decide)]⟩
  | 2 => exact ⟨f 1 (f 0 s), by rw [keep (by decide), keep (by decide)], by rw [regs, regs], by rw [keep (by decide)]⟩
  | 3 => exact ⟨f 2 (f 1 (f 0 s)), by rw [keep (by decide), keep (by decide), keep (by decide)], by rw [regs, regs, regs], rfl⟩

/-- R129, R169: the entry to DISABLED settles every channel with the bus writer no longer writing. -/
theorem State.enterDisabled_ch (s : State) (d : ChannelId) :
    ∃ n, (n = (s.ch d).lostEvents ∨ n = satAdd (s.ch d).lostEvents) ∧ s.enterDisabled.ch d = (s.ch d).settledThen false n := by
  obtain ⟨u, hch, hregs, h⟩ := State.eachChannel_ch (f := fun c s => s.settle c) (fun c s => (Settles.settle c s).toActsOn)
    { s with regs := { s.regs with iface := .disabled } } d
  obtain ⟨n, hn, hsettle⟩ := State.settle_ch_same u d
  rw [hch] at hn hsettle
  rw [hregs] at hsettle
  exact ⟨n, hn, h.trans hsettle⟩

@[simp] theorem State.tryFetch_ch (s : State) (d : ChannelId) : s.tryFetch.ch d = s.ch d := by
  rw [State.ch, State.tryFetch_chans]; rfl

/-- What the CMD_RESULT of a command does to a channel: nothing, but for the entry to DISABLED from QUIESCING. -/
theorem State.finishCommand_ch (s : State) (code : ResultCode) (gen : Option Gen) (d : ChannelId) :
    (s.finishCommand code gen).ch d = s.ch d
      ∨ s.regs.iface = .quiescing ∧ ∃ n, (n = (s.ch d).lostEvents ∨ n = satAdd (s.ch d).lostEvents)
          ∧ (s.finishCommand code gen).ch d = (s.ch d).settledThen false n := by
  cases hh : s.proc.hand with
  | none => rw [State.finishCommand_of_none hh]; exact .inl rfl
  | some h =>
    rw [State.finishCommand_of_some hh]
    split
    · next hq => exact .inr ⟨hq, State.enterDisabled_ch (s.answer h code gen) d⟩
    · exact .inl (State.tryFetch_ch _ d)

theorem State.finishCommand_table (s : State) (code : ResultCode) (gen : Option Gen) (d : ChannelId) :
    ((s.finishCommand code gen).ch d).table = (s.ch d).table ∨ ((s.finishCommand code gen).ch d).table = (s.ch d).table.cleared := by
  obtain h | ⟨_, n, _, h⟩ := State.finishCommand_ch s code gen d
  · exact .inl (by rw [h])
  · rw [h]; exact Channel.settledThen_table _ _ _

/-! ## Frame 0 takes no buffer (R42, R103) -/

/-- A frame start of this table takes no buffer: there is no latched set, or the frame is frame 0, which is settling. -/
def SettingsTable.startsWithoutBuffer (t : SettingsTable) : Prop :=
  t.latched = none ∨ t.frame0Mark = true

theorem SettingsTable.cleared_startsWithoutBuffer (t : SettingsTable) : t.cleared.startsWithoutBuffer := .inl rfl

theorem SettingsTable.started_startsWithoutBuffer (t : SettingsTable) (k : GoverningSet) : (t.started k).startsWithoutBuffer := .inr rfl

/-- R103: a settling frame takes no descriptor. -/
theorem State.takeFrame_pools_of_settling (s : State) (c : ChannelId) {f : Frame} (h : f.settling = true) : (s.takeFrame c f).pools = s.pools := by
  unfold State.takeFrame State.assign
  split
  · rfl
  · split
    · split
      · simp only [h, if_true]; rfl
      · rfl
    · rfl

theorem State.frameStart_pools {s : State} {c : ChannelId} (h : (s.ch c).table.startsWithoutBuffer) : (s.frameStart c).pools = s.pools := by
  have offered (u : State) (r : Completion) : (u.offer c r).pools = u.pools := (Settles.offer c u r).pools
  unfold State.frameStart
  obtain hnone | hmark := h
  · simp only [hnone]
  · split
    · rfl
    · have settling (k : GoverningSet) : settlingAfter (s.ch c).table.previous k = true := by
        rw [SettingsTable.previous, if_pos hmark]; rfl
      simp only [settling]
      split
      · split
        · split
          · split
            · rw [State.takeFrame_pools_of_settling _ _ rfl, offered]; rfl
            · rw [offered, State.takeFrame_pools_of_settling _ _ rfl]; rfl
          · rw [State.takeFrame_pools_of_settling _ _ rfl, offered]; rfl
        · rw [State.takeFrame_pools_of_settling _ _ rfl]; rfl
      · split
        · rw [offered]; rfl
        · rfl

section
variable {x : List Part} {s t u : State}

/-- A frame start that may take a buffer. -/
theorem Keeps.frameStart (s : State) (c : ChannelId) (hx : .pools ∈ x) : Keeps x s (s.frameStart c) :=
  (ActsOn.frameStart c s).keeps fun h => absurd hx h

/-! ## START, STOP, CAPTURE, CANCEL, QUERY and the buffer commands -/

theorem Settles.started (c : ChannelId) (s : State) (k : GoverningSet) : Settles c s (s.upd c fun ch => ch.started k) :=
  Settles.upd c s _ (by simp [Channel.started]) (by simp [Channel.started]) (by simp [Channel.started])

@[simp] theorem State.handSpends_ch (s : State) (c : ChannelId) : s.handSpends.ch c = s.ch c := by
  unfold State.handSpends
  split <;> rfl

/-- START starts, at most, frame 0, which takes no buffer. -/
theorem Keeps.startAccepted (s : State) (c : ChannelId) (k : GoverningSet) : Keeps x s (s.startAccepted c k) := by
  unfold State.startAccepted
  dsimp only
  have started : Keeps x s (s.upd c fun ch => ch.started k).handSpends := (Settles.started c s k).keeps.trans (Keeps.handSpends _)
  have table : ((s.upd c fun ch => ch.started k).handSpends.ch c).table.startsWithoutBuffer := by
    rw [State.handSpends_ch, State.ch_upd_same, Channel.started, Channel.opening_table]
    exact SettingsTable.started_startsWithoutBuffer _ k
  generalize (s.upd c fun ch => ch.started k).handSpends = u at started table
  have frameStart {v : State} (hv : (v.ch c).table.startsWithoutBuffer) : Keeps x v (v.frameStart c) :=
    (ActsOn.frameStart c v).keeps fun _ => State.frameStart_pools hv
  have finishTable (v : State) (hv : (v.ch c).table.startsWithoutBuffer) (code : ResultCode) (gen : Option Gen) :
      ((v.finishCommand code gen).ch c).table.startsWithoutBuffer := by
    obtain h | h := State.finishCommand_table v code gen c
    · rw [h]; exact hv
    · rw [h]; exact SettingsTable.cleared_startsWithoutBuffer _
  have drawn : Keeps x u u.drawn := Keeps.of_regs rfl rfl rfl rfl rfl
  split
  · exact started.trans (Keeps.finishCommand _ _ _)
  · split
    · split
      · exact started.trans (drawn.trans ((Keeps.finishCommand _ _ _).trans (frameStart (finishTable u.drawn table _ _))))
      · exact started.trans (drawn.trans ((frameStart (v := u.drawn) table).trans (Keeps.finishCommand _ _ _)))
    · exact started.trans ((Keeps.finishCommand _ _ _).trans (frameStart (finishTable _ table _ _)))

theorem execStart_keeps (h : execStart s = .next t) : Keeps x s t := by
  unfold execStart at h
  split at h
  · unfold State.startCommand at h
    split at h
    · exact Keeps.of_next h (Keeps.finishCommand s _ _)
    · exact Keeps.of_next h (Keeps.startAccepted s _ _)
  · exact Keeps.of_next h (Keeps.refl x s)

theorem Settles.stopRun (c : ChannelId) (s : State) : Settles c s (s.stopRun c) := by
  have halted : Settles c s (if (s.ch c).timer.orderOutstanding then s.send c .halt else s) := by
    split
    · exact Settles.send c s _
    · exact Settles.refl c s
  exact halted.trans ((Settles.upd c _ _ rfl rfl rfl).trans ((Settles.closeCaptures c _ _).trans (Settles.settle c _)))

theorem Keeps.stopWithAbort (s : State) (c : ChannelId) : Keeps x s (s.stopWithAbort c) :=
  (Keeps.handTaken s).trans ((Settles.abortRun c _ _).keeps.trans (Keeps.finishWaitingStop _))

theorem Keeps.stopFaulted (s : State) (c : ChannelId) : Keeps x s (s.stopFaulted c) := by
  unfold State.stopFaulted
  split
  · exact Keeps.waitCredit s
  · exact (Settles.place c s _).keeps.trans ((Keeps.handSpends _).trans ((Settles.upd c _ _ rfl rfl rfl).keeps.trans (Keeps.finishCommand _ _ _)))

theorem execStop_keeps (h : execStop s = .next t) : Keeps x s t := by
  have stopped (c : ChannelId) : Keeps x s ((s.stopRun c).finishCommand .ok none) :=
    (Settles.stopRun c s).keeps.trans (Keeps.finishCommand _ _ _)
  unfold execStop at h
  split at h
  · split at h
    · exact Keeps.of_next h (Keeps.refl x s)
    · refine Keeps.of_next h ?_
      unfold State.stopCommand
      split
      · exact Keeps.finishCommand s _ _
      · exact Keeps.stopFaulted s _
      · split
        · exact Keeps.stopWithAbort s _
        · exact stopped _
      · split
        · exact Keeps.stopWithAbort s _
        · exact stopped _
      · split
        · exact Keeps.stopWithAbort s _
        · exact Keeps.finishCommand s _ _
  · exact Keeps.of_next h (Keeps.refl x s)

theorem Keeps.opening (s : State) (c : ChannelId) (f : Channel → Channel) (hf : ∀ ch, (f ch).table = ch.table) : Keeps x s (s.upd c f) :=
  (Settles.upd c s f (by rw [hf]) (by rw [hf]) (by rw [hf])).keeps

theorem execCapture_keeps (h : execCapture s = .next t) : Keeps x s t := by
  unfold execCapture at h
  split at h
  · split at h
    · exact Keeps.of_next h (Keeps.refl x s)
    · refine Keeps.of_next h ?_
      unfold State.captureCommand
      split
      · split
        · exact Keeps.finishCommand s _ _
        · exact (Keeps.opening s _ _ fun ch => by simp).trans ((Keeps.handSpends _).trans (Keeps.finishCommand _ _ _))
      · exact Keeps.finishCommand s _ _
  · exact Keeps.of_next h (Keeps.refl x s)

theorem execCancel_keeps (h : execCancel s = .next t) : Keeps x s t := by
  unfold execCancel at h
  split at h
  · split at h
    · exact Keeps.of_next h (Keeps.refl x s)
    · refine Keeps.of_next h ?_
      unfold State.cancelCommand
      split
      · exact Keeps.finishCommand s _ _
      · dsimp only
        split
        · exact (Settles.upd _ s _ rfl rfl rfl).keeps.trans ((Keeps.opening _ _ _ fun ch => by simp).trans (Keeps.finishCommand _ _ _))
        · exact (Settles.upd _ s _ rfl rfl rfl).keeps.trans ((Settles.closeCaptures _ _ _).keeps.trans
            ((Keeps.opening _ _ _ fun ch => by simp).trans (Keeps.finishCommand _ _ _)))
  · exact Keeps.of_next h (Keeps.refl x s)

theorem execQuery_keeps (h : execQuery s = .next t) : Keeps x s t := by
  unfold execQuery at h
  split at h
  · split at h
    · exact Keeps.of_next h (Keeps.refl x s)
    · next c clear _ _ =>
      refine Keeps.of_next h ?_
      unfold State.queryCommand
      dsimp only
      refine (Settles.place c s (.status ((s.ch c).status c clear))).keeps.trans ((Keeps.handSpends (s.place _)).trans ?_)
      split
      · exact (Settles.upd c _ _ (by simp) (by simp) (by simp)).keeps.trans (Keeps.finishCommand _ _ _)
      · exact Keeps.finishCommand _ _ _
  · exact Keeps.of_next h (Keeps.refl x s)

/-- An update of the pools. -/
theorem Keeps.updPools (s : State) (pools : Four (List Descriptor)) : Keeps [.pools] s { s with pools := pools } where
  mem _ := rfl
  pools hx := absurd List.mem_cons_self hx
  sets _ _ := ⟨rfl, rfl, rfl⟩
  config _ := ⟨rfl, rfl, rfl, rfl, rfl, rfl, rfl, rfl⟩
  queue _ := ⟨[], (List.append_nil _).symm⟩
  halted hs := ⟨hs, rfl⟩

theorem execPostBuffers_keeps (h : execPostBuffers s = .next t) : Keeps [.pools] s t := by
  unfold execPostBuffers at h
  split at h
  · refine Keeps.of_next h ?_
    unfold State.postCommand
    split
    · split
      · exact (Keeps.updPools s _).trans (Keeps.finishCommand _ _ _)
      · exact Keeps.finishCommand s _ _
    · exact Keeps.finishCommand s _ _
  · exact Keeps.of_next h (Keeps.refl _ s)

theorem Keeps.reclaimClaim (s : State) (pool : PoolId) : Keeps [.pools] s (s.reclaimClaim pool) := by
  unfold State.reclaimClaim
  split
  · exact Keeps.finishCommand s _ _
  · exact (Keeps.updPools s _).trans ((Settles.place 0 _ _).keeps.trans (Keeps.handSpends _))

theorem execReclaim_keeps (h : execReclaim s = .next t) : Keeps [.pools] s t := by
  unfold execReclaim at h
  split at h
  · refine Keeps.of_next h ?_
    unfold State.reclaimStep
    split
    · exact Keeps.reclaimClaim s _
    · split
      · exact Keeps.finishCommand s _ _
      · split
        · exact (Keeps.handReserve s).trans (Keeps.reclaimClaim _ _)
        · exact Keeps.waitCredit s
  · exact Keeps.of_next h (Keeps.refl _ s)

/-! ## Writes -/

/-- A write that lands changes, of these parts, host memory alone. -/
theorem Keeps.land (s : State) (w : BusWrite) (error : Bool) (hx : .mem ∈ x) : Keeps x s (s.land w error) := by
  have key : ∀ t : State, t.pools = s.pools → t.chans = s.chans → t.regs = s.regs → t.cpl = s.cpl → Keeps x s t :=
    fun t hp hc hr hq =>
      { mem := fun h => absurd hx h
        pools := fun _ => hp
        sets := fun _ c => by rw [State.ch, State.ch, hc]; exact ⟨rfl, rfl, rfl⟩
        config := fun _ => by rw [hr]; exact ⟨rfl, rfl, rfl, rfl, rfl, rfl, rfl, rfl⟩
        queue := fun _ => ⟨[], by rw [hq, List.append_nil]⟩
        halted := fun hs => by rw [hr]; exact ⟨hs, rfl⟩ }
  unfold State.land
  split <;> exact key _ rfl rfl rfl rfl

theorem Keeps.landAbandoned (s : State) (k : WriteClaim) (error : Bool) (hx : .mem ∈ x) : Keeps x s (s.landAbandoned k error) := by
  unfold State.landAbandoned
  split
  · exact Keeps.refl x s
  · next w _ =>
    have removed : Keeps x s { s with port := { s.port with abandonedWrites := s.port.abandonedWrites.erase w } } := Keeps.of_regs rfl rfl rfl rfl rfl
    exact removed.trans (Keeps.land _ _ _ hx)

theorem Settles.handRow (c : ChannelId) (s : State) : Settles c s (s.handRow c) := by
  unfold State.handRow
  split
  · exact Settles.upd c s _ rfl rfl rfl
  · exact Settles.refl c s

theorem Settles.handHeader (c : ChannelId) (s : State) : Settles c s (s.handHeader c) := by
  unfold State.handHeader
  split
  · exact Settles.upd c s _ rfl rfl rfl
  · exact Settles.refl c s

theorem Keeps.handRecord (s : State) : Keeps x s s.handRecord := by
  unfold State.handRecord
  split
  · exact Keeps.of_regs rfl rfl rfl rfl rfl
  · exact Keeps.refl x s

@[simp] theorem Channel.rowWritten_table (ch : Channel) : ch.rowWritten.table = ch.table := by
  unfold Channel.rowWritten
  split
  · rfl
  · dsimp only
    split <;> rfl

theorem Keeps.rowMade (s : State) (c : ChannelId) (w : BusWrite) (error : Bool) (hx : .mem ∈ x) : Keeps x s (s.rowMade c w error) :=
  (Keeps.land s w error hx).trans ((Keeps.opening _ c _ fun ch => by simp).trans
    ((Settles.settle c _).keeps.trans (Keeps.finishWaitingStop _)))

theorem execRowWrite_keeps {c : ChannelId} {issue : Issue} {error : Bool} (h : execRowWrite c issue error s = .next t) : Keeps [.mem] s t := by
  unfold execRowWrite at h
  split at h
  · exact Keeps.of_next h (Keeps.landAbandoned s _ _ List.mem_cons_self)
  · dsimp only at h
    split at h
    · exact Keeps.of_next h (Keeps.refl _ s)
    · exact Keeps.of_next h ((Settles.handRow c s).keeps.trans (Keeps.rowMade _ c _ _ List.mem_cons_self))

theorem Keeps.headerMade (s : State) (c : ChannelId) (f : Frame) (d : Descriptor) (w : BusWrite) (error : Bool) (hx : .mem ∈ x) :
    Keeps x s (s.headerMade c f d w error) :=
  (Keeps.land s w error hx).trans ((Settles.upd c _ _ rfl rfl rfl).keeps.trans ((Settles.place c _ _).keeps.trans
    ((Settles.release c _ f _).keeps.trans ((Settles.settle c _).keeps.trans (Keeps.finishWaitingStop _)))))

theorem execHeaderWrite_keeps {c : ChannelId} {issue : Issue} {error : Bool} (h : execHeaderWrite c issue error s = .next t) :
    Keeps [.mem] s t := by
  unfold execHeaderWrite at h
  split at h
  · exact Keeps.of_next h (Keeps.landAbandoned s _ _ List.mem_cons_self)
  · dsimp only at h
    split at h
    · split at h
      · exact Keeps.of_next h ((Settles.handHeader c s).keeps.trans (Keeps.headerMade _ c _ _ _ _ List.mem_cons_self))
      · exact Keeps.of_next h (Keeps.refl _ s)
      · exact Keeps.of_next h (Keeps.refl _ s)
    · exact Keeps.of_next h (Keeps.refl _ s)

/-- A record write takes its record from the holding queue. -/
theorem Keeps.recordWritten (s : State) (n : Nat) : Keeps [.mem, .queue] s { s with cpl := s.cpl.recordWritten n } where
  mem _ := rfl
  pools _ := rfl
  sets _ _ := ⟨rfl, rfl, rfl⟩
  config _ := ⟨rfl, rfl, rfl, rfl, rfl, rfl, rfl, rfl⟩
  queue hx := absurd (List.mem_cons_of_mem _ List.mem_cons_self) hx
  halted hs := ⟨hs, rfl⟩

theorem execCompletionWrite_keeps {issue : Issue} {error : Bool} (h : execCompletionWrite issue error s = .next t) :
    Keeps [.mem, .queue] s t := by
  unfold execCompletionWrite at h
  split at h
  · exact Keeps.of_next h (Keeps.landAbandoned s _ _ List.mem_cons_self)
  · dsimp only at h
    split at h
    · exact Keeps.of_next h (Keeps.refl _ s)
    · exact Keeps.of_next h ((Keeps.handRecord s).trans ((Keeps.land _ _ _ List.mem_cons_self).trans
        ((Keeps.recordWritten _ _).trans ((Keeps.announce _).trans (Keeps.askCredits _)))))

/-! ## Events of one channel -/

theorem ActsOn.of_next {c : ChannelId} (h : Host.Outcome.next u = (.next t : Host.Outcome State Fault Refusal)) (k : ActsOn c s u) : ActsOn c s t := by
  cases h
  exact k

theorem Settles.of_next {c : ChannelId} (h : Host.Outcome.next u = (.next t : Host.Outcome State Fault Refusal)) (k : Settles c s u) :
    Settles c s t := by
  cases h
  exact k

theorem ActsOn.cpl {c : ChannelId} (h : ActsOn c s t) : t.cpl = { s.cpl with queue := t.cpl.queue, reserved := t.cpl.reserved } := by
  show t.cpl = ⟨t.cpl.queue, t.cpl.reserved, s.cpl.tail, s.cpl.phase, s.cpl.armed, s.cpl.write⟩
  rw [← h.tail, ← h.phase, ← h.armed, ← h.write]

theorem execTrigger_actsOn {c : ChannelId} (h : execTrigger c s = .next t) : ActsOn c s t := by
  have raised : ActsOn c s (s.upd c fun ch => { ch with timer := { ch.timer with inputHigh := true } }) := (Settles.upd c s _ rfl rfl rfl).toActsOn
  unfold execTrigger at h
  split at h
  · exact ActsOn.of_next h (ActsOn.refl c s)
  · refine ActsOn.of_next h (raised.trans ?_)
    unfold State.triggerTaken
    dsimp only
    split
    · split
      · exact ActsOn.frameStart c _
      · split
        · exact (Settles.offer c _ _).toActsOn
        · exact ActsOn.refl c _
      · exact ActsOn.refl c _
    · exact ActsOn.refl c _

theorem execPeriodEnd_actsOn {c : ChannelId} (h : execPeriodEnd c s = .next t) : ActsOn c s t := by
  unfold execPeriodEnd at h
  split at h
  · refine ActsOn.of_next h ?_
    unfold State.periodEnd
    dsimp only
    split
    · split
      · exact ActsOn.frameStart c s
      · exact (Settles.upd c s _ rfl rfl rfl).toActsOn
      · exact ActsOn.refl c s
    · exact ((Settles.upd c s _ rfl rfl rfl).trans (Settles.settle c _)).toActsOn
  · exact ActsOn.of_next h (ActsOn.refl c s)

theorem Settles.latch (c : ChannelId) (s : State) : Settles c s (s.latch c) := by
  unfold State.latch
  split
  · split
    · exact Settles.refl c s
    · split
      · exact Settles.refl c s
      · exact (Settles.upd c s _ rfl rfl rfl).trans (Settles.send c _ _)
  · exact Settles.refl c s

theorem Settles.frameEndMissed (c : ChannelId) (s : State) (f : Frame) : Settles c s (s.frameEndMissed c f) :=
  (Settles.upd c s _ rfl rfl rfl).trans (Settles.settle c _)

theorem ActsOn.headSilent (c : ChannelId) (s : State) : ActsOn c s (s.headSilent c) := by
  unfold State.headSilent
  split
  · exact (ActsOn.drawn c s).trans ((Settles.latch c _).trans (Settles.faultChannel c _ _)).toActsOn
  · exact (ActsOn.drawn c s).trans (Settles.faultChannel c _ _).toActsOn

theorem State.headSilent_pools (s : State) (c : ChannelId) : (s.headSilent c).pools = s.pools := by
  unfold State.headSilent
  split
  · exact ((Settles.latch c s.drawn).trans (Settles.faultChannel c _ _)).pools
  · exact (Settles.faultChannel c s.drawn _).pools

/-- A latch point acts on its own channel, and takes no buffer. -/
theorem execLatchPoint_actsOn {c : ChannelId} (h : execLatchPoint c s = .next t) : ActsOn c s t ∧ t.pools = s.pools := by
  have placed : Settles c s (s.upd c fun ch => { ch with timer := ch.timer.atLatch }) := Settles.upd c s _ rfl rfl rfl
  have latched (k : Settles c s t) : ActsOn c s t ∧ t.pools = s.pools := ⟨k.toActsOn, k.pools⟩
  unfold execLatchPoint at h
  split at h
  · unfold State.latchPoint at h
    dsimp only at h
    split at h
    · exact latched (Settles.of_next h (placed.trans (Settles.latch c _)))
    · next f _ =>
      have missed := placed.trans (Settles.frameEndMissed c _ f)
      split at h
      · obtain rfl := Host.Outcome.next.inj h
        exact ⟨missed.toActsOn.trans (ActsOn.headSilent c _), (State.headSilent_pools _ c).trans missed.pools⟩
      · exact latched (Settles.of_next h (missed.trans (Settles.latch c _)))
  · exact latched (Settles.of_next h (Settles.refl c s))

theorem Settles.linkDown (c : ChannelId) (s : State) : Settles c s (s.linkDown c) :=
  (Settles.upd c s _ rfl rfl rfl).trans (Settles.faultChannel c _ _)

theorem execHello_settles {c : ChannelId} {m : HelloMsg} (h : execHello c m s = .next t) : Settles c s t := by
  unfold execHello at h
  split at h
  · refine Settles.of_next h ?_
    split
    · exact (Settles.linkDown c s).trans (Settles.upd c _ _ rfl rfl rfl)
    · exact Settles.upd c s _ rfl rfl rfl
  · exact Settles.of_next h (Settles.refl c s)

theorem execHeadStatus_settles {c : ChannelId} {condition : HeadCondition} (h : execHeadStatus c condition s = .next t) : Settles c s t := by
  unfold execHeadStatus at h
  split at h
  · split at h
    · exact Settles.of_next h (Settles.upd c s _ rfl rfl rfl)
    · split at h
      · exact Settles.of_next h (Settles.refl c s)
      · exact Settles.of_next h ((Settles.upd c s _ rfl rfl rfl).trans (Settles.faultChannel c _ _))
    · exact Settles.of_next h (Settles.refl c s)
  · exact Settles.of_next h (Settles.refl c s)

theorem execCarrierLost_settles {c : ChannelId} (h : execCarrierLost c s = .next t) : Settles c s t := by
  unfold execCarrierLost at h
  dsimp only at h
  split at h
  · exact Settles.of_next h ((Settles.upd c s _ rfl rfl rfl).trans (Settles.linkDown c _))
  · exact Settles.of_next h (Settles.upd c s _ rfl rfl rfl)

/-- A channel's table is not the row combiner's. -/
@[simp] theorem Channel.handOn_table (ch : Channel) (hasBuffer : Bool) (r : OutputRow) : (ch.handOn hasBuffer r).table = ch.table := by
  unfold Channel.handOn
  split
  · split <;> rfl
  · split <;> rfl

@[simp] theorem Channel.handOnInvalid_table (ch : Channel) (hasBuffer : Bool) (k : ContextId) (i n : Nat) :
    (ch.handOnInvalid hasBuffer k i n).table = ch.table := by
  induction n generalizing ch i with
  | zero => rfl
  | succ n ih => rw [Channel.handOnInvalid, ih, Channel.handOn_table]

@[simp] theorem Channel.combine_table (ch : Channel) (f : Frame) (k : Nat) (samples : List Sample) : (ch.combine f k samples).table = ch.table := by
  have gap : (if f.nextRow < k then ch.gap f k else ch).table = ch.table := by
    unfold Channel.gap
    dsimp only
    split
    · split <;> simp
    · rfl
  unfold Channel.combine Channel.takeRow
  dsimp only
  split <;> simpa using gap

theorem execRow_settles {c : ChannelId} {seq : Seq} {index : Nat} {samples : List Sample} (h : execRow c seq index samples s = .next t) :
    Settles c s t := by
  unfold execRow at h
  split at h
  · split at h
    · exact Settles.of_next h (Settles.upd c s _ (by simp) (by simp) (by simp))
    · exact Settles.of_next h (Settles.upd c s _ rfl rfl rfl)
  · exact Settles.of_next h (Settles.refl c s)

theorem execFrameEnd_settles {c : ChannelId} {seq : Seq} {n : Nat} (h : execFrameEnd c seq n s = .next t) : Settles c s t := by
  unfold execFrameEnd at h
  split at h
  · split at h
    · exact Settles.of_next h ((Settles.upd c s _ rfl rfl rfl).trans (Settles.settle c _))
    · exact Settles.of_next h (Settles.refl c s)
  · exact Settles.of_next h (Settles.refl c s)

/-- R157: the handing of a write touches only the block whose write it is. -/
theorem execWriteHanded_keeps {claim : WriteClaim} (h : execWriteHandedToHostPort claim s = .next t) : Keeps x s t := by
  unfold execWriteHandedToHostPort at h
  split at h
  · exact Keeps.of_next h (Settles.handRow _ s).keeps
  · exact Keeps.of_next h (Settles.handHeader _ s).keeps
  · exact Keeps.of_next h (Keeps.handRecord s)

end

/-! ## The statements -/

/-- The parts, of those that few commands change, that are command `i`'s own (R150, R157, R166; of a reset nothing is said). -/
def ownParts : Instr → List Part
  | .set => [.sets]
  | .configWrite _ _ => [.config]
  | .postBuffers => [.pools]
  | .reclaim => [.pools]
  | .trigger _ => [.pools]
  | .periodEnd _ => [.pools]
  | .completionWrite _ _ => [.mem, .queue]
  | .rowWrite _ _ _ => [.mem]
  | .headerWrite _ _ _ => [.mem]
  | _ => []

/-- Every command but a reset changes, of the parts that few commands change, at most its own. -/
theorem exec_keeps {s t : State} {i : Instr} (hpower : i ≠ .powerOn) (hreset : ∀ cause, i ≠ .functionReset cause) (h : exec i s = .next t) :
    Keeps (ownParts i) s t := by
  cases i with
  | powerOn => exact absurd rfl hpower
  | functionReset cause => exact absurd rfl (hreset cause)
  | enable reserved => exact execEnable_keeps (reserved := reserved) h
  | disable reserved => exact execDisable_keeps (reserved := reserved) h
  | configWrite _ _ => exact execConfigWrite_keeps h
  | cmdTailWrite _ => exact execCmdTailWrite_keeps h
  | cplHeadWrite _ => exact execCplHeadWrite_keeps h
  | ifStatusWrite _ => exact execIfStatusWrite_keeps h
  | intControlWrite _ => exact execIntControlWrite_keeps h
  | registerWriteIgnored _ _ value => exact execRegisterWriteIgnored_keeps (value := value) h
  | portDown => exact execPortDown_keeps h
  | busMasteringChange _ => exact Keeps.of_next h (Keeps.of_regs rfl rfl rfl rfl rfl)
  | fetchComplete _ _ => exact execFetchComplete_keeps h
  | recordRejected => exact execRecordRejected_keeps h
  | set => exact execSet_keeps h
  | start => exact execStart_keeps h
  | stop => exact execStop_keeps h
  | capture => exact execCapture_keeps h
  | cancel => exact execCancel_keeps h
  | postBuffers => exact execPostBuffers_keeps h
  | reclaim => exact execReclaim_keeps h
  | query => exact execQuery_keeps h
  | completionWrite _ _ => exact execCompletionWrite_keeps h
  | trigger c => exact (execTrigger_actsOn h).keeps fun hx => absurd List.mem_cons_self hx
  | latchPoint c => exact (execLatchPoint_actsOn h).1.keeps fun _ => (execLatchPoint_actsOn h).2
  | periodEnd c => exact (execPeriodEnd_actsOn h).keeps fun hx => absurd List.mem_cons_self hx
  | hello c _ => exact (execHello_settles h).keeps
  | headStatus c _ => exact (execHeadStatus_settles h).keeps
  | carrierLost c => exact (execCarrierLost_settles h).keeps
  | row c _ _ _ => exact (execRow_settles h).keeps
  | frameEnd c _ _ => exact (execFrameEnd_settles h).keeps
  | rowWrite _ _ _ => exact execRowWrite_keeps h
  | headerWrite _ _ _ => exact execHeaderWrite_keeps h
  | carrierPresent c => exact (Settles.of_next h (Settles.upd c s _ rfl rfl rfl)).keeps
  | hostPortLinkUp => exact Keeps.of_next h (Keeps.of_regs rfl rfl rfl rfl rfl)
  | messageSignalledInterruptsChange _ => exact Keeps.of_next h (Keeps.of_regs rfl rfl rfl rfl rfl)
  | triggerInputLow c => exact (Settles.of_next h (Settles.upd c s _ rfl rfl rfl)).keeps
  | writeHandedToHostPort _ => exact execWriteHanded_keeps h

/-- Settles O17: every command but a reset keeps HALTED and its cause (`Keeps.halted`). -/
theorem haltedIsLeftByResetAlone : Obligations.HaltedIsLeftByResetAlone :=
  fun _ _ _ hs hpower hreset h => (exec_keeps hpower hreset h).halted hs

theorem pools_notMem_ownParts {i : Instr} (hpost : i ≠ .postBuffers) (hreclaim : i ≠ .reclaim) (htrigger : ∀ c, i ≠ .trigger c)
    (hperiod : ∀ c, i ≠ .periodEnd c) : .pools ∉ ownParts i := by
  unfold ownParts
  split <;> simp_all

theorem sets_notMem_ownParts {i : Instr} (hset : i ≠ .set) : .sets ∉ ownParts i := by
  unfold ownParts
  split <;> simp_all

theorem config_notMem_ownParts {i : Instr} (hconfig : ∀ reg value, i ≠ .configWrite reg value) : .config ∉ ownParts i := by
  unfold ownParts
  split <;> simp_all

theorem queue_notMem_ownParts {i : Instr} (hrecord : ∀ issue error, i ≠ .completionWrite issue error) : .queue ∉ ownParts i := by
  unfold ownParts
  split <;> simp_all

theorem mem_notMem_ownParts {i : Instr} (hrecord : ∀ issue error, i ≠ .completionWrite issue error)
    (hrow : ∀ c issue error, i ≠ .rowWrite c issue error) (hheader : ∀ c issue error, i ≠ .headerWrite c issue error) :
    .mem ∉ ownParts i := by
  unfold ownParts
  split <;> simp_all

/-- A reset leaves host memory alone. -/
theorem exec_reset_mem {s t : State} {i : Instr} (hi : i = .powerOn ∨ ∃ cause, i = .functionReset cause) (h : exec i s = .next t) : t.mem = s.mem := by
  obtain rfl | ⟨cause, rfl⟩ := hi
  · cases h; rfl
  · cases h; rfl

/-- Settles O59: each part is kept by the commands whose own it is not. -/
theorem onlyTheirCommandsChangeThem : Obligations.OnlyTheirCommandsChangeThem := by
  intro s t i h
  refine ⟨fun hrecord hrow hheader => ?_, fun hpower hreset => ?_⟩
  · by_cases hi : i = .powerOn ∨ ∃ cause, i = .functionReset cause
    · exact exec_reset_mem hi h
    · exact (exec_keeps (fun e => hi (.inl e)) (fun cause e => hi (.inr ⟨cause, e⟩)) h).mem (mem_notMem_ownParts hrecord hrow hheader)
  · have kept := exec_keeps hpower hreset h
    exact ⟨fun hpost hreclaim htrigger hperiod => kept.pools (pools_notMem_ownParts hpost hreclaim htrigger hperiod),
      fun hset => kept.sets (sets_notMem_ownParts hset), fun hconfig => kept.config (config_notMem_ownParts hconfig),
      fun hrecord => kept.queue (queue_notMem_ownParts hrecord)⟩

/-- Settles O60: each of the ten events acts on its own channel (`ActsOn`). -/
theorem channelEventsLeaveTheOthersAlone : Obligations.ChannelEventsLeaveTheOthersAlone := by
  intro s t c i hi h
  have acts : ActsOn c s t := by
    obtain rfl | rfl | rfl | rfl | ⟨m, rfl⟩ | ⟨condition, rfl⟩ | rfl | rfl | ⟨seq, index, samples, rfl⟩ | ⟨seq, n, rfl⟩ := hi
    · exact execTrigger_actsOn h
    · exact (Settles.of_next h (Settles.upd c s _ rfl rfl rfl)).toActsOn
    · exact (execLatchPoint_actsOn h).1
    · exact execPeriodEnd_actsOn h
    · exact (execHello_settles h).toActsOn
    · exact (execHeadStatus_settles h).toActsOn
    · exact (execCarrierLost_settles h).toActsOn
    · exact (Settles.of_next h (Settles.upd c s _ rfl rfl rfl)).toActsOn
    · exact (execRow_settles h).toActsOn
    · exact (execFrameEnd_settles h).toActsOn
  exact ⟨acts.others, acts.regs, acts.proc, acts.mem, acts.pending, acts.cpl, acts.port⟩

/-- Settles O1: `step` on a queue with a front command is `exec` of it. -/
theorem stepRunsFrontCommand : Obligations.StepRunsFrontCommand := by
  intro s c rest h
  unfold step
  rw [h]
  rfl

end Sys2Proof.Machine
end

section
/-! What one command may do to a channel, said once for all the invariants: a chain of `Channel.Move`s, each with the conditions under which it is taken (chapters 1 to 7). -/

namespace Sys2Proof.Machine

/-! ## What a frame start does to the captures (R101 to R104) -/

/-- R102: the captures with one frame more in flight for the capture tagged `tag`. -/
def inFlightMore (tag : Tag) (caps : List Capture) : List Capture :=
  caps.map fun k => if k.tag = tag then { k with inFlight := k.inFlight + 1 } else k

/-- R104: the captures after a buffer has been taken for the capture tagged `tag`. -/
def afterBuffer (runs : Bool) (tag : Tag) (caps : List Capture) : List Capture :=
  if runs then openFirst (caps.map fun k => if k.tag = tag then k.bufferTaken else k)
  else caps.map fun k => if k.tag = tag then k.bufferTaken else k

/-- R101 to R104: what becomes of a starting frame `f` and the captures `caps`: untaken, taken by the OPEN capture without a buffer, or with one. -/
inductive TakesFrame (runs : Bool) (caps : List Capture) (f : Frame) : Frame → List Capture → Prop where
  | untaken : TakesFrame runs caps f f caps
  | dropped (q : Capture) (hold : Hold) (reason : DropReason) (hq : caps.find? (fun k => k.state == .opened) = some q) (hb : hold.isBuffer = false) :
      TakesFrame runs caps f { f with credit := true, tag := some q.tag, hold := hold, dropReason := some reason } (inFlightMore q.tag caps)
  | buffered (q : Capture) (d : Descriptor) (hq : caps.find? (fun k => k.state == .opened) = some q) :
      TakesFrame runs caps f { f with credit := true, tag := some q.tag, hold := .buffer d } (afterBuffer runs q.tag (inFlightMore q.tag caps))

/-! ## The moves of a channel -/

/-- The channel as a frame start of set `k` leaves it, but for its frames and captures (R11, R35, R84). -/
def Channel.frameBegun (ch : Channel) (k : GoverningSet) : Channel :=
  { ch with
    state := ch.state.frameStarted ch.timer.nextSeq, timer := ch.timer.frameStarted k, table := ch.table.frameStarted k
    link := ch.link.send .mark }

/-- The frame that starts, before the capture table decides on it (R14, R35). -/
def Channel.startingFrame (ch : Channel) (k : GoverningSet) : Frame :=
  newFrame ch.freeContext ch.timer.nextSeq ch.timer.run k (ch.table.integration.getD ⟨k.fields.exposure, k.gen⟩)
    (settlingAfter ch.table.previous k)

/-- The channel whose frame `f` starts with the captures `caps` behind it (R14, R53). -/
def Channel.withFrame (ch : Channel) (f : Frame) (caps : List Capture) : Channel :=
  { ch with frames := ch.frames ++ [f], combiner := Combiner.fresh f.ctx 0 f.snapshot.outWidth, captures := caps }

/-- The channel whose run `event` ends, before its frames go on (R88, R91, R95). -/
def Channel.aborted (ch : Channel) (event : ChannelEvent) : Channel :=
  { ch.abortFrames with timer := ch.timer.idled, ending := some ⟨event, false⟩ }

/-- The channel that a STOP without ABORT takes, before its frames go on (R86, R111). -/
def Channel.stopTaken (ch : Channel) : Channel :=
  { ch with
    state := .stopping, timer := ch.timer.stopped
    captures := (ch.captures.map fun k => k.drain .stopped).filter fun k => !k.drained }

/-- The captures of a channel in which a CANCEL names the capture tagged `tag` (R107 to R109). -/
def Channel.cancelled (ch : Channel) (tag : Tag) : Channel :=
  { ch with captures := ch.captures.map fun k => if k.tag = tag then k.cancel else k }

/-- A timer moved without a frame start, a latch point or an end: its period and its state are kept, and before the latch point it stays before it. -/
abbrev FrameTimer.keepsPeriod (t u : FrameTimer) : Prop :=
  u.state = t.state ∧ u.periodLength = t.periodLength ∧ (t.line + 16 < t.periodLength → u.line + 16 < t.periodLength)
    ∧ (u.backlog = t.backlog ∨ u.backlog ≤ 65535)

/-- The counters of a link are kept, or within their bounds (R78, R79). -/
abbrev Link.countersKept (l m : Link) : Prop :=
  (m.endMiss = l.endMiss ∨ m.endMiss ≤ 2) ∧ (m.stray = l.stray ∨ m.stray ≤ 65535)

/-- What a command may do to a channel, one move at a time; `halts` tells whether the interface may enter HALTED meanwhile. -/
inductive Channel.Move (halts : Bool) (ch : Channel) : Channel → Prop where
  /-- The lost-event counter moves (R155, R147). -/
  | lost (n : Nat) (hn : n = ch.lostEvents ∨ n ≤ 65535) : Move halts ch { ch with lostEvents := n }
  /-- The fault cause is set or cleared (R90). -/
  | cause (cause : Option FaultCause) : Move halts ch { ch with faultCause := cause }
  /-- The link moves; it goes DOWN only where no run needs it. -/
  | link (l : Link) (hl : ch.link.countersKept l) (hup : ch.inFreeRun = true → ch.link.up = true → l.up = true) : Move halts ch { ch with link := l }
  /-- The timer moves within its period (R1, R6, R147). -/
  | timer (t : FrameTimer) (ht : ch.timer.keepsPeriod t) : Move halts ch { ch with timer := t }
  /-- The timer comes to its latch point with no frame READING (R3). -/
  | atLatch (hread : ch.reading = none) : Move halts ch { ch with timer := ch.timer.atLatch }
  /-- A SET writes its copies (R24, R26). -/
  | sets (t : SettingsTable)
      (ht : t = { ch.table with working := t.working, committed := t.committed, genCounter := t.genCounter })
      (hc : t.committed = ch.table.committed ∨ ∀ k ∈ t.committed, checkC2 k.fields = true ∧ checkC9 k.fields = true) :
      Move halts ch { ch with table := t }
  /-- The committed set is latched (R32). -/
  | latched (k : CommittedSet) (g : GoverningSet) (pending : Option StartSource) (hruns : ch.state.runs = true)
      (hk : ch.table.committed = some k) (hg : k.governing = some g) :
      Move halts ch { ch with table := { ch.table with latched := some g }, timer := { ch.timer with pending := pending } }
  /-- The timer waits for its trigger (R5). -/
  | waits (hruns : ch.state.runs = true) (hperiod : ch.timer.state = .period) (hlatch : ch.timer.latchTaken = true) :
      Move halts ch { ch with timer := { ch.timer with state := .waiting, line := 0, lineTime := 0 } }
  /-- The last period of a STOPPING run ends (R5, R87). -/
  | periodEnds (writes : Bool) (hruns : ch.state.runs = false) (hperiod : ch.timer.state = .period) (hlatch : ch.timer.latchTaken = true) :
      Move halts ch (Channel.settled { ch with timer := ch.timer.idled } writes)
  /-- A frame starts in a free context (R11, R14, R101 to R104). -/
  | frameStarts (k : GoverningSet) (f : Frame) (caps : List Capture) (n : Nat) (hn : n = ch.lostEvents ∨ n ≤ 65535)
      (hk : ch.table.latched = some k) (hlen : ch.frames.length < 2)
      (hwhen : ch.timer.state = .waiting ∨ ch.timer.state = .period ∧ ch.timer.latchTaken = true)
      (htake : TakesFrame ch.state.runs ch.captures (ch.startingFrame k) f caps) :
      Move halts ch { (ch.frameBegun k).withFrame f caps with lostEvents := n }
  /-- A frame start is backlogged (R15, R16). -/
  | backlogged (k : GoverningSet) (n : Nat) (hn : n = ch.lostEvents ∨ n ≤ 65535) (hk : ch.table.latched = some k)
      (hwhen : ch.timer.state = .waiting ∨ ch.timer.state = .period ∧ ch.timer.latchTaken = true) :
      Move halts ch { ch.frameBegun k with lostEvents := n, timer := { ch.timer.frameStarted k with backlog := satAdd ch.timer.backlog } }
  /-- A START is accepted (R83). -/
  | starts (k : CommittedSet) (g : GoverningSet) (hoff : ch.state = .off) (hup : ch.link.up = true) (hk : ch.table.committed = some k)
      (hg : k.governing = some g) : Move halts ch (ch.started g)
  /-- A STOP without ABORT is taken (R86). -/
  | stops (writes : Bool) (link : Link) (hl : ch.link.countersKept link) (hup : link.up = ch.link.up) (hruns : ch.state.runs = true)
      (hend : ch.ending = none) : Move halts ch (Channel.settled { ch.stopTaken with link := link } writes)
  /-- A stop with abort, a fault or HALTED ends the run (R88, R91, R95). -/
  | aborts (writes : Bool) (event : ChannelEvent) (link : Link) (hl : ch.link.countersKept link) (hfree : ch.inFreeRun = true) :
      Move halts ch (Channel.settled { ch.aborted event with link := link } writes)
  /-- The frames and the run go on where nothing else changes but the ending that HALTED finds (R95, R129). -/
  | goesOn (writes : Bool) (ending : Option Ending) (hend : ending = ch.ending ∨ halts = true ∧ ending.isSome = ch.ending.isSome) :
      Move halts ch (Channel.settled { ch with ending := ending } writes)
  /-- A channel outside a run goes to OFF (R89, R95). -/
  | off (hrun : ch.state.inRun = false) : Move halts ch { ch with state := .off }
  /-- A CAPTURE joins the queue (R99, R100). -/
  | captures (k : Capture) (hlen : ch.captures.length < 4) (htag : ch.hasTag k.tag = false) (hqueued : k.state = .queued) (hflight : k.inFlight = 0) :
      Move halts ch (Channel.opening { ch with captures := ch.captures ++ [k] })
  /-- A CANCEL names a capture in the queue; one that was not DRAINING closes if it has no frame in flight (R107 to R109). -/
  | cancels (tag : Tag) (k : Capture) (hk : ch.captures.find? (fun k => k.tag == tag) = some k) :
      Move halts ch (Channel.opening (if k.state = .draining then ch.cancelled tag else (ch.cancelled tag).without (Capture.closesWith tag)))
  /-- A row is accepted (R54 to R56). -/
  | combines (f : Frame) (k : Nat) (samples : List Sample) (hf : ch.reading = some f) (hlo : f.nextRow ≤ k) (hhi : k < f.snapshot.vRows) :
      Move halts ch (ch.combine f k samples)
  /-- The reading of a frame ends (R58, R76, R77). -/
  | flushes (writes : Bool) (f : Frame) (missed : Bool) (link : Link) (timer : FrameTimer) (hf : ch.reading = some f)
      (hl : ch.link.countersKept link) (hup : link.up = ch.link.up) (hstate : timer.state = ch.timer.state) (hback : timer.backlog = ch.timer.backlog) :
      Move halts ch (Channel.settled { ch.flush f missed with link := link, timer := timer } writes)
  /-- A row is handed to the port (R61). -/
  | rowHanded (hnone : ch.rowWrite = none) : Move halts ch { ch with rowWrite := ch.oldestRowWrite }
  /-- A header is handed to the port (R125). -/
  | headerHanded (c : ChannelId) (hnone : ch.headerWrite = none) : Move halts ch { ch with headerWrite := ch.closingHeaderWrite c }
  /-- A row write is made (R61). -/
  | rowMade (writes : Bool) (hsome : ch.rowWrite.isSome = true) : Move halts ch (Channel.settled ch.rowWritten writes)
  /-- The header of the earliest frame is made (R125). -/
  | headerMade (writes whole : Bool) (f : Frame) (rest : List Frame) (d : Descriptor) (hf : ch.frames = f :: rest) (hd : f.hold = .buffer d)
      (hsome : ch.headerWrite.isSome = true) : Move halts ch (Channel.settled (Channel.released { ch with headerWrite := none } f whole) writes)

/-- A chain of moves. -/
inductive Channel.Moves (halts : Bool) (a : Channel) : Channel → Prop where
  | refl : Moves halts a a
  | tail {b c : Channel} (m : Moves halts a b) (h : Channel.Move halts b c) : Moves halts a c

section
variable {halts : Bool}

theorem Channel.Move.moves {a b : Channel} (h : Channel.Move halts a b) : Channel.Moves halts a b :=
  Channel.Moves.refl.tail h

@[refl] theorem Channel.Moves.stays (a : Channel) : Channel.Moves halts a a := .refl

theorem Channel.Moves.trans {a b d : Channel} (m : Channel.Moves halts a b) (k : Channel.Moves halts b d) : Channel.Moves halts a d := by
  induction k with
  | refl => exact m
  | tail _ h ih => exact ih.tail h

/-- Every channel comes to where it is by moves. -/
def State.MovesTo (halts : Bool) (s t : State) : Prop :=
  ∀ d : ChannelId, Channel.Moves halts (s.ch d) (t.ch d)

section
variable {s t u : State} {c : ChannelId}

theorem State.MovesTo.refl (s : State) : s.MovesTo halts s := fun _ => .refl

theorem State.MovesTo.trans (h : s.MovesTo halts t) (k : t.MovesTo halts u) : s.MovesTo halts u := fun d => (h d).trans (k d)

theorem State.MovesTo.of_chans (h : t.chans = s.chans) : s.MovesTo halts t := fun d => by
  have same : t.ch d = s.ch d := by simp only [State.ch, h]
  exact same ▸ .refl

/-- A step on one channel, by moves of it. -/
theorem ActsOn.movesTo (h : ActsOn c s t) (m : Channel.Moves halts (s.ch c) (t.ch c)) : s.MovesTo halts t := fun d => by
  by_cases hd : d = c
  · rw [hd]; exact m
  · exact h.others d hd ▸ .refl

theorem State.MovesTo.upd (s : State) (c : ChannelId) (f : Channel → Channel) (m : Channel.Moves halts (s.ch c) (f (s.ch c))) : s.MovesTo halts (s.upd c f) :=
  fun d => by
    by_cases hd : d = c
    · rw [hd, State.ch_upd_same]; exact m
    · exact State.ch_upd_ne s f hd ▸ .refl

/-! ## Lost events, offers, settling -/

theorem satAdd_le (n : Nat) : satAdd n ≤ 65535 := Nat.min_le_right _ _

theorem Channel.Moves.lostEvents (ch : Channel) {n : Nat} (hn : n = ch.lostEvents ∨ n = satAdd ch.lostEvents) :
    Channel.Moves halts ch { ch with lostEvents := n } :=
  (Channel.Move.lost n (hn.imp_right fun h => Nat.le_trans (Nat.le_of_eq h) (satAdd_le _))).moves

theorem State.MovesTo.loseEvent (s : State) (c : ChannelId) : s.MovesTo halts (s.loseEvent c) :=
  State.MovesTo.upd s c _ (Channel.Moves.lostEvents _ (.inr rfl))

theorem State.MovesTo.offer (s : State) (c : ChannelId) (r : Completion) : s.MovesTo halts (s.offer c r) := by
  obtain ⟨_, h⟩ | ⟨_, h⟩ := State.offer_cases s c r
  · rw [h]; exact State.MovesTo.of_chans rfl
  · rw [h]; exact State.MovesTo.loseEvent s c

/-- Sending on a link that stays as it is otherwise. -/
theorem Link.send_countersKept (l : Link) (m : LinkMsg) : l.countersKept (l.send m) :=
  ⟨.inl (Link.send_endMiss l m), .inl (Link.send_stray l m)⟩

@[simp] theorem Link.send_isUp (l : Link) (m : LinkMsg) : (l.send m).up = l.up := by
  rw [Link.up, Link.send_geometry]; rfl

theorem State.MovesTo.send (s : State) (c : ChannelId) (m : LinkMsg) : s.MovesTo halts (s.send c m) :=
  State.MovesTo.upd s c _ (Channel.Move.link _ (Link.send_countersKept _ m) fun _ h => (Link.send_isUp _ m).trans h).moves

/-- A run that HALTED found faulted has ended, in OFF or FAULTED. -/
theorem Channel.ended_inRun_of_haltsNow {ch : Channel} (h : ch.haltsNow = true) : ch.ended.state.inRun = false := by
  unfold Channel.haltsNow at h
  split at h
  · next e hf he =>
    rw [Channel.ended, hf, he]
    show e.event.endState.inRun = false
    cases e.event <;> rfl
  · cases h

/-- Settling after a move whose last step is to settle: the offer of STOPPED (HALT) adds its own two moves. -/
theorem Channel.Moves.settledThen {a ch : Channel} {writes : Bool} {n : Nat} (hn : n = ch.lostEvents ∨ n = satAdd ch.lostEvents)
    (m : Channel.Move halts a (ch.settled writes)) : Channel.Moves halts a (ch.settledThen writes n) := by
  unfold Channel.settledThen
  split
  · next h =>
    refine (m.moves.tail (Channel.Move.off (Channel.ended_inRun_of_haltsNow h))).trans ?_
    exact Channel.Moves.lostEvents _ (by simpa using hn)
  · exact m.moves

theorem State.MovesTo.settle {v : State} (h : Settles c v s) (m : ∀ w, Channel.Move halts (v.ch c) ((s.ch c).settled w)) : v.MovesTo halts (s.settle c) := by
  obtain ⟨n, hn, hch⟩ := State.settle_ch_same s c
  refine (h.trans (Settles.settle c s)).toActsOn.movesTo ?_
  rw [hch]
  exact Channel.Moves.settledThen hn (m _)

/-! ## The ends of runs -/

theorem Channel.Move.settled (ch : Channel) (w : Bool) : Channel.Move halts ch (ch.settled w) :=
  Channel.Move.goesOn w ch.ending (.inl rfl)

theorem State.MovesTo.settleAlone (s : State) (c : ChannelId) : s.MovesTo halts (s.settle c) :=
  State.MovesTo.settle (Settles.refl c s) fun w => Channel.Move.settled _ w

theorem State.MovesTo.abortRun (event : ChannelEvent) (hfree : (s.ch c).inFreeRun = true) : s.MovesTo halts (s.abortRun c event) := by
  refine State.MovesTo.settle ((Settles.upd c s _ rfl rfl rfl).trans (Settles.send c _ _)) fun w => ?_
  rw [State.send, State.ch_upd_same, State.ch_upd_same]
  exact Channel.Move.aborts w event _ (Link.send_countersKept _ _) hfree

theorem State.MovesTo.faultChannel (s : State) (c : ChannelId) (cause : FaultCause) : s.MovesTo halts (s.faultChannel c cause) := by
  unfold State.faultChannel
  split
  · next h =>
    refine (State.MovesTo.upd s c _ (Channel.Move.cause (some cause)).moves).trans (State.MovesTo.abortRun _ ?_)
    rw [State.ch_upd_same]; exact h
  · exact State.MovesTo.refl s

/-- A pass over the four channels that acts on one at a time. -/
theorem State.MovesTo.eachChannel {f : ChannelId → State → State} (h : ∀ c s, State.MovesTo halts s (f c s)) (s : State) : s.MovesTo halts (s.eachChannel f) :=
  (h 0 s).trans ((h 1 _).trans ((h 2 _).trans (h 3 _)))

theorem State.MovesTo.enterDisabled (s : State) : s.MovesTo halts s.enterDisabled :=
  have entered : s.MovesTo halts { s with regs := { s.regs with iface := .disabled } } := State.MovesTo.of_chans rfl
  entered.trans (State.MovesTo.eachChannel (fun c s => State.MovesTo.settleAlone s c) _)

theorem State.MovesTo.finishCommand (s : State) (code : ResultCode) (gen : Option Gen) : s.MovesTo halts (s.finishCommand code gen) := by
  cases hh : s.proc.hand with
  | none => rw [State.finishCommand_of_none hh]; exact State.MovesTo.refl s
  | some h =>
    rw [State.finishCommand_of_some hh]
    have answered : s.MovesTo halts (s.answer h code gen) := State.MovesTo.of_chans rfl
    split
    · exact answered.trans (State.MovesTo.enterDisabled _)
    · exact answered.trans (State.MovesTo.of_chans (State.tryFetch_chans _))

theorem State.MovesTo.finishWaitingStop (s : State) : s.MovesTo halts s.finishWaitingStop := by
  unfold State.finishWaitingStop
  split
  · exact State.MovesTo.refl s
  · split
    · split
      · split
        · exact State.MovesTo.finishCommand s _ _
        · exact State.MovesTo.refl s
      · exact State.MovesTo.refl s
    · exact State.MovesTo.refl s

theorem State.MovesTo.haltChannel (c : ChannelId) (s : State) : s.MovesTo true (State.haltChannel c s) := by
  have free {st : ChannelState} (hst : st.inRun = true) (hend : (s.ch c).ending = none) (h : (s.ch c).state = st) : (s.ch c).inFreeRun = true := by
    rw [Channel.inFreeRun, h, hst, hend]; rfl
  unfold State.haltChannel
  split
  · next e _ he =>
    refine State.MovesTo.settle (Settles.upd c s _ rfl rfl rfl) fun w => ?_
    rw [State.ch_upd_same]
    exact Channel.Move.goesOn w _ (.inr ⟨rfl, by rw [he]; rfl⟩)
  · exact State.MovesTo.refl s
  · next he hs => exact State.MovesTo.abortRun _ (free rfl he hs)
  · next he hs => exact State.MovesTo.abortRun _ (free rfl he hs)
  · next he hs => exact State.MovesTo.abortRun _ (free rfl he hs)
  · next he hs =>
    exact (State.MovesTo.upd s c _ (Channel.Move.off (by rw [hs]; rfl)).moves).trans (State.MovesTo.offer _ c _)

theorem State.discardHand_chans (s : State) : s.discardHand.chans = s.chans := by
  unfold State.discardHand
  split
  · rfl
  · split <;> rfl

theorem State.deliver_chans (s : State) (m : Interrupt) : (s.deliver m).chans = s.chans := by
  unfold State.deliver
  split <;> rfl

theorem State.announceHalt_chans (s : State) : s.announceHalt.chans = s.chans := by
  unfold State.announceHalt
  split
  · exact State.deliver_chans s _
  · rfl

theorem State.announce_chans (s : State) : s.announce.chans = s.chans := by
  unfold State.announce
  split
  · exact State.deliver_chans _ _
  · rfl

theorem State.arm_chans (s : State) : s.arm.chans = s.chans := by
  unfold State.arm
  dsimp only
  split
  · exact State.announce_chans _
  · rfl

theorem State.askCredits_chans (s : State) : s.askCredits.chans = s.chans := by
  obtain h | ⟨_, _, _, _, _, _, h⟩ := State.askCredits_cases s <;> rw [h]
  rfl

theorem State.waitCredit_chans (s : State) : s.waitCredit.chans = s.chans := State.askCredits_chans _

theorem State.handSpends_chans (s : State) : s.handSpends.chans = s.chans := by
  unfold State.handSpends
  split <;> rfl

theorem State.handTaken_chans (s : State) : s.handTaken.chans = s.chans := by
  unfold State.handTaken
  split <;> rfl

theorem State.land_chans (s : State) (w : BusWrite) (error : Bool) : (s.land w error).chans = s.chans := by
  unfold State.land
  split <;> rfl

/-- R171: whatever the state, the interface is HALTED after a halt cause. -/
theorem State.enterHalted_iface (s : State) (cause : HaltCause) : (s.enterHalted cause).regs.iface = .halted := by
  unfold State.enterHalted
  split
  · assumption
  · next h =>
    have kept : Keeps [] { s with regs := { s.regs with iface := .halted, haltCause := cause } } _ :=
      (Keeps.discardHand _).trans ((Keeps.eachChannel State.haltChannel Settles.haltChannel _).trans
        ((Keeps.finishWaitingStop _).trans (Keeps.announceHalt _)))
    exact (kept.halted rfl).1

theorem State.MovesTo.enterHalted (s : State) (cause : HaltCause) : s.MovesTo true (s.enterHalted cause) := by
  unfold State.enterHalted
  split
  · exact State.MovesTo.refl s
  · have entered : s.MovesTo true { s with regs := { s.regs with iface := .halted, haltCause := cause } } := State.MovesTo.of_chans rfl
    exact entered.trans ((State.MovesTo.of_chans (State.discardHand_chans _)).trans ((State.MovesTo.eachChannel State.MovesTo.haltChannel _).trans
      ((State.MovesTo.finishWaitingStop _).trans (State.MovesTo.of_chans (State.announceHalt_chans _)))))

end

end

end Sys2Proof.Machine
end

section
/-! Every command but a reset brings each channel where it goes by a chain of moves (`exec_movesTo`). -/

namespace Sys2Proof.Machine

section
variable {halts : Bool} {s t u : State} {c : ChannelId}

/-! ## The frame start -/

@[simp] theorem ChannelState.frameStarted_runs (st : ChannelState) (seq : Seq) : (st.frameStarted seq).runs = st.runs := by
  unfold ChannelState.frameStarted
  split
  · next h => rw [h.1]; rfl
  · rfl

/-- The lost-event counter moves from `l` to `n` within its bound. -/
abbrev lostTo (l n : Nat) : Prop := n = l ∨ n ≤ 65535

theorem lostTo.trans {a b d : Nat} (h : lostTo a b) (k : lostTo b d) : lostTo a d :=
  k.elim (fun e => e ▸ h) .inr

theorem Channel.opening_eq (ch : Channel) : ch.opening = { ch with captures := if ch.state.runs then openFirst ch.captures else ch.captures } := by
  unfold Channel.opening
  split <;> rfl

/-- R101 to R104 on the channel: the capture table changes the captures and the lost-event counter alone. -/
theorem State.assign_ch (s : State) (c : ChannelId) {f : Frame} (hf : f.hold = .nothing) :
    ∃ n caps, lostTo (s.ch c).lostEvents n ∧ TakesFrame (s.ch c).state.runs (s.ch c).captures f (s.assign c f).2 caps
      ∧ (s.assign c f).1.ch c = { s.ch c with captures := caps, lostEvents := n } := by
  have hb : f.hold.isBuffer = false := by rw [hf]; rfl
  unfold State.assign
  split
  · exact ⟨_, _, .inl rfl, .untaken, rfl⟩
  · next q hq =>
    split
    · split
      · dsimp only
        split
        · exact ⟨_, _, .inl rfl, .dropped q f.hold .settling hq hb, State.ch_upd_same _ _ _⟩
        · unfold State.bufferTake
          split
          · exact ⟨_, _, .inl rfl, .dropped q f.hold .noBuffer hq hb, State.ch_upd_same _ _ _⟩
          · next d rest _ =>
            dsimp only
            split
            · exact ⟨_, _, .inl rfl, .dropped q (.short d) .bufferSmall hq rfl, State.ch_upd_same _ _ _⟩
            · refine ⟨_, _, .inl rfl, .buffered q d hq, ?_⟩
              exact (State.ch_upd_same _ c _).trans ((congrArg (fun ch : Channel => (ch.onCapture q.tag Capture.bufferTaken).opening)
                (State.ch_upd_same (s.reserve 1) c _)).trans (Channel.opening_eq _))
      · exact ⟨_, _, .inr (satAdd_le _), .untaken, State.ch_upd_same _ _ _⟩
    · exact ⟨_, _, .inl rfl, .untaken, rfl⟩

/-- A taken or untaken frame keeps its context and its window. -/
theorem TakesFrame.combiner {runs : Bool} {caps caps' : List Capture} {f f' : Frame} (h : TakesFrame runs caps f f' caps') :
    Combiner.fresh f.ctx 0 f.snapshot.outWidth = Combiner.fresh f'.ctx 0 f'.snapshot.outWidth := by
  cases h <;> rfl

theorem State.takeFrame_ch (s : State) (c : ChannelId) {f : Frame} (hf : f.hold = .nothing) :
    ∃ n f' caps, lostTo (s.ch c).lostEvents n ∧ TakesFrame (s.ch c).state.runs (s.ch c).captures f f' caps
      ∧ (s.takeFrame c f).ch c = { (s.ch c).withFrame f' caps with lostEvents := n } := by
  obtain ⟨n, caps, hn, htake, hch⟩ := State.assign_ch s c hf
  refine ⟨n, _, caps, hn, htake, ?_⟩
  rw [State.takeFrame, State.ch_upd_same, hch, htake.combiner]
  rfl

/-- An offer moves the lost-event counter alone. -/
theorem State.offer_ch (s : State) (c : ChannelId) (r : Completion) :
    ∃ n, lostTo (s.ch c).lostEvents n ∧ (s.offer c r).ch c = { s.ch c with lostEvents := n } := by
  rw [State.offer_ch_same]
  split
  · exact ⟨_, .inl rfl, rfl⟩
  · exact ⟨_, .inr (satAdd_le _), rfl⟩

/-- A frame taken behind an offer. -/
theorem State.takeFrame_offer_ch (s : State) (c : ChannelId) (r : Completion) {f : Frame} (hf : f.hold = .nothing) :
    ∃ n f' caps, lostTo (s.ch c).lostEvents n ∧ TakesFrame (s.ch c).state.runs (s.ch c).captures f f' caps
      ∧ ((s.offer c r).takeFrame c f).ch c = { (s.ch c).withFrame f' caps with lostEvents := n } := by
  obtain ⟨m, hm, hoffer⟩ := State.offer_ch s c r
  obtain ⟨n, f', caps, hn, htake, hch⟩ := State.takeFrame_ch (s.offer c r) c hf
  rw [hoffer] at hn htake hch
  exact ⟨n, f', caps, hm.trans hn, htake, hch⟩

/-- A frame taken before an offer. -/
theorem State.offer_takeFrame_ch (s : State) (c : ChannelId) (r : Completion) {f : Frame} (hf : f.hold = .nothing) :
    ∃ n f' caps, lostTo (s.ch c).lostEvents n ∧ TakesFrame (s.ch c).state.runs (s.ch c).captures f f' caps
      ∧ ((s.takeFrame c f).offer c r).ch c = { (s.ch c).withFrame f' caps with lostEvents := n } := by
  obtain ⟨m, f', caps, hm, htake, hch⟩ := State.takeFrame_ch s c hf
  obtain ⟨n, hn, hoffer⟩ := State.offer_ch (s.takeFrame c f) c r
  rw [hch] at hn hoffer
  exact ⟨n, f', caps, hm.trans hn, htake, hoffer⟩

/-- What a frame start does to its channel (R11, R14, R15): the frame takes a free context, or is backlogged. -/
theorem State.frameStart_ch {k : GoverningSet} (hk : (s.ch c).table.latched = some k) :
    ((s.ch c).frames.length < 2 ∧ ∃ n f caps, lostTo (s.ch c).lostEvents n
        ∧ TakesFrame (s.ch c).state.runs (s.ch c).captures ((s.ch c).startingFrame k) f caps
        ∧ (s.frameStart c).ch c = { ((s.ch c).frameBegun k).withFrame f caps with lostEvents := n })
      ∨ 2 ≤ (s.ch c).frames.length ∧ ∃ n, lostTo (s.ch c).lostEvents n
        ∧ (s.frameStart c).ch c = { (s.ch c).frameBegun k with
            lostEvents := n, timer := { (s.ch c).timer.frameStarted k with backlog := satAdd (s.ch c).timer.backlog } } := by
  unfold State.frameStart
  simp only [hk]
  have begun : ((s.upd c fun ch => { ch with
      state := ch.state.frameStarted (s.ch c).timer.nextSeq, timer := ch.timer.frameStarted k, table := ch.table.frameStarted k }).send c
        .mark).ch c = (s.ch c).frameBegun k := by
    rw [State.send, State.ch_upd_same, State.ch_upd_same]; rfl
  generalize (s.upd c _).send c .mark = v at begun
  have hruns : (v.ch c).state.runs = (s.ch c).state.runs := by rw [begun]; exact ChannelState.frameStarted_runs _ _
  have hcaps : (v.ch c).captures = (s.ch c).captures := by rw [begun]; rfl
  have hlost : (v.ch c).lostEvents = (s.ch c).lostEvents := by rw [begun]; rfl
  rw [← hruns, ← hcaps, ← hlost, ← begun]
  split
  · next hlen =>
    refine .inl ⟨hlen, ?_⟩
    have hnothing : ((s.ch c).startingFrame k).hold = .nothing := rfl
    split
    · split
      · split
        · exact State.takeFrame_offer_ch v.drawn c _ hnothing
        · exact State.offer_takeFrame_ch v.drawn c _ hnothing
      · exact State.takeFrame_offer_ch v c _ hnothing
    · exact State.takeFrame_ch v c hnothing
  · next hlen =>
    refine .inr ⟨by omega, ?_⟩
    have backlogged : (v.backlog c).ch c = { v.ch c with timer := { (v.ch c).timer with backlog := satAdd (v.ch c).timer.backlog } } :=
      State.ch_upd_same v c _
    split
    · obtain ⟨n, hn, h⟩ := State.offer_ch (v.backlog c) c (genAppliedRecord c (s.ch c).timer.run k (s.ch c).timer.nextSeq
        (settlingAfter (s.ch c).table.previous k))
      rw [backlogged] at hn h
      refine ⟨n, hn, h.trans ?_⟩
      rw [begun]; rfl
    · refine ⟨_, .inl rfl, backlogged.trans ?_⟩
      rw [begun]; rfl

/-- When the timer takes a frame start: in WAITING, or with the latch point of its period taken (R5, R8). -/
abbrev FrameTimer.startsNow (t : FrameTimer) : Prop :=
  t.state = .waiting ∨ t.state = .period ∧ t.latchTaken = true

theorem State.MovesTo.frameStart (hwhen : (s.ch c).table.latched ≠ none → (s.ch c).timer.startsNow) : s.MovesTo halts (s.frameStart c) := by
  cases hk : (s.ch c).table.latched with
  | none => simp only [State.frameStart, hk]; exact State.MovesTo.refl s
  | some k =>
    have hnow := hwhen (by rw [hk]; exact Option.some_ne_none k)
    refine (ActsOn.frameStart c s).movesTo ?_
    obtain ⟨hlen, n, f, caps, hn, htake, h⟩ | ⟨_, n, hn, h⟩ := State.frameStart_ch hk
    · rw [h]; exact (Channel.Move.frameStarts k f caps n hn hk hlen hnow htake).moves
    · rw [h]; exact (Channel.Move.backlogged k n hn hk hnow).moves

end
end Sys2Proof.Machine
end

section
/-! Every command but a reset brings each channel where it goes by a chain of moves (`exec_movesTo`). -/

namespace Sys2Proof.Machine

section
variable {halts : Bool} {s t u : State} {c : ChannelId}

theorem State.MovesTo.of_next (h : Host.Outcome.next u = (.next t : Host.Outcome State Fault Refusal)) (k : s.MovesTo halts u) : s.MovesTo halts t := by
  cases h
  exact k

theorem State.MovesTo.trans_of_chans (k : u.MovesTo halts t) (h : u.chans = s.chans) : s.MovesTo halts t := (State.MovesTo.of_chans h).trans k

/-- A channel replaced with records placed, then settled. -/
theorem State.MovesTo.settleEmit (s : State) (c : ChannelId) {ch : Channel} (r : List Completion) (m : ∀ w, Channel.Move halts (s.ch c) (ch.settled w)) :
    s.MovesTo halts ((s.emit c ch r).settle c) := fun d => by
  by_cases hd : d = c
  · subst hd
    obtain ⟨n, hn, hch⟩ := State.settle_ch_same (s.emit d ch r) d
    rw [State.emit_ch_same] at hn hch
    rw [hch]
    exact Channel.Moves.settledThen hn (m _)
  · rw [(Settles.settle c _).others d hd, State.emit_ch_ne _ _ _ _ hd]

theorem State.MovesTo.emit (s : State) (c : ChannelId) {ch : Channel} (r : List Completion) (m : Channel.Moves halts (s.ch c) ch) :
    s.MovesTo halts (s.emit c ch r) := fun d => by
  rw [State.emit_ch]
  split
  · next h => rw [h]; exact m
  · exact .refl

/-- The record in hand's credits and its taking are not the channels'. -/
theorem State.MovesTo.handSpends (s : State) : s.MovesTo halts s.handSpends := State.MovesTo.of_chans (State.handSpends_chans s)

/-! ## The commands of the host and of the processor that change no channel by themselves -/

theorem State.MovesTo.enterActive (s : State) : s.MovesTo halts s.enterActive := State.MovesTo.of_chans (State.tryFetch_chans _)

theorem execEnable_movesTo {reserved : BitVec 30} (h : execEnable reserved s = .next t) : s.MovesTo halts t := by
  unfold execEnable at h
  split at h
  · split at h
    · exact State.MovesTo.of_next h (State.MovesTo.enterActive s)
    · exact State.MovesTo.of_next h (State.MovesTo.of_chans rfl)
  · exact State.MovesTo.of_next h (State.MovesTo.enterActive s)
  · exact State.MovesTo.of_next h (State.MovesTo.refl s)
  · exact State.MovesTo.of_next h (State.MovesTo.refl s)

theorem execDisable_movesTo {reserved : BitVec 30} (h : execDisable reserved s = .next t) : s.MovesTo halts t := by
  unfold execDisable at h
  split at h
  · split at h
    · exact State.MovesTo.of_next h (State.MovesTo.enterDisabled s)
    · exact State.MovesTo.of_next h (State.MovesTo.of_chans rfl)
  · exact State.MovesTo.of_next h (State.MovesTo.refl s)
  · exact State.MovesTo.of_next h (State.MovesTo.refl s)
  · exact State.MovesTo.of_next h (State.MovesTo.refl s)

theorem State.configure_chans (s : State) (reg : ConfigReg) (value : Word) : (s.configure reg value).chans = s.chans := by
  cases reg <;> rfl

theorem execConfigWrite_movesTo {reg : ConfigReg} {value : Word} (h : execConfigWrite reg value s = .next t) : s.MovesTo halts t := by
  unfold execConfigWrite at h
  split at h
  · exact State.MovesTo.of_next h (State.MovesTo.of_chans (State.configure_chans s reg value))
  · exact State.MovesTo.of_next h (State.MovesTo.of_chans rfl)

theorem execCmdTailWrite_movesTo {value : Word} (hh : t.regs.iface = .halted → halts = true) (h : execCmdTailWrite value s = .next t) : s.MovesTo halts t := by
  unfold execCmdTailWrite at h
  split at h
  · exact State.MovesTo.of_next h (State.MovesTo.refl s)
  · split at h
    · split at h
      · exact State.MovesTo.of_next h (State.MovesTo.of_chans (State.tryFetch_chans _))
      · cases h
        obtain rfl := hh (State.enterHalted_iface _ _)
        exact State.MovesTo.enterHalted s _
    · exact State.MovesTo.of_next h (State.MovesTo.of_chans rfl)

theorem execCplHeadWrite_movesTo {value : Word} (h : execCplHeadWrite value s = .next t) : s.MovesTo halts t :=
  State.MovesTo.of_next h (State.MovesTo.of_chans (State.arm_chans _))

theorem execIntControlWrite_movesTo {value : Word} (h : execIntControlWrite value s = .next t) : s.MovesTo halts t := by
  unfold execIntControlWrite at h
  split at h
  · exact State.MovesTo.of_next h (State.MovesTo.of_chans (State.arm_chans _))
  · exact State.MovesTo.of_next h (State.MovesTo.of_chans rfl)

theorem execRegisterWriteIgnored_movesTo {offset bytes : Nat} {value : Word} (h : execRegisterWriteIgnored offset bytes value s = .next t) :
    s.MovesTo halts t := by
  unfold execRegisterWriteIgnored at h
  split at h
  · exact State.MovesTo.of_next h (State.MovesTo.refl s)
  · cases h

theorem execPortDown_movesTo (hh : t.regs.iface = .halted → halts = true) (h : execPortDown s = .next t) : s.MovesTo halts t := by
  unfold execPortDown at h
  split at h
  · cases h
    obtain rfl := hh (State.enterHalted_iface _ _)
    exact (State.MovesTo.enterHalted _ _).trans_of_chans rfl
  · exact State.MovesTo.of_next h (State.MovesTo.refl s)

theorem execFetchComplete_movesTo {issue : Issue} {result : FetchResult} (hh : t.regs.iface = .halted → halts = true)
    (h : execFetchComplete issue result s = .next t) : s.MovesTo halts t := by
  unfold execFetchComplete at h
  split at h
  · exact State.MovesTo.of_next h (State.MovesTo.of_chans rfl)
  · split at h
    · exact State.MovesTo.of_next h (State.MovesTo.refl s)
    · exact State.MovesTo.of_next h (State.MovesTo.of_chans (State.askCredits_chans _))
    · cases h
      obtain rfl := hh (State.enterHalted_iface _ _)
      exact (State.MovesTo.enterHalted _ _).trans_of_chans rfl

theorem execRecordRejected_movesTo (h : execRecordRejected s = .next t) : s.MovesTo halts t := by
  unfold execRecordRejected at h
  split at h
  · exact State.MovesTo.of_next h (State.MovesTo.finishCommand s _ _)
  · exact State.MovesTo.of_next h (State.MovesTo.refl s)

/-! ## SET -/

/-- C2 and C9 are two of the ten checks, which name no head geometry. -/
theorem Settings.combinationOk_wholeGroups {p : Settings} {g : Option Geometry} (h : p.combinationOk g = true) :
    checkC2 p = true ∧ checkC9 p = true := by
  unfold Settings.combinationOk at h
  simp only [Bool.and_eq_true] at h
  obtain ⟨⟨⟨⟨⟨⟨⟨⟨⟨_, second⟩, _⟩, _⟩, _⟩, _⟩, _⟩, _⟩, ninth⟩, _⟩ := h
  exact ⟨second, ninth⟩

theorem State.MovesTo.setCommand (s : State) (c : ChannelId) (flags : SetFlags) (edits : RawEdits) : s.MovesTo halts (s.setCommand c flags edits) := by
  unfold State.setCommand
  dsimp only
  split
  · split
    · refine (State.MovesTo.upd s c _ ?_).trans (State.MovesTo.finishCommand _ _ _)
      exact (Channel.Move.sets { (s.ch c).table with working := ((s.ch c).table.trial flags.revert).edited edits } rfl (.inl rfl)).moves
    · split
      · next hok =>
        refine (State.MovesTo.upd s c _ (Channel.Move.sets (SettingsTable.commit _ _ _) rfl (.inr ?_)).moves).trans (State.MovesTo.finishCommand _ _ _)
        rintro k hk
        obtain rfl := Option.some.inj hk
        exact Settings.combinationOk_wholeGroups hok
      · exact State.MovesTo.finishCommand s _ _
  · exact State.MovesTo.finishCommand s _ _

/-! ## START -/

/-- A START that passes its checks finds an OFF channel with its link UP and a complete committed set (R82). -/
theorem Channel.startCheck_eq_inr {ch : Channel} {g : GoverningSet} (h : ch.startCheck = .inr g) :
    ch.state = .off ∧ ch.link.up = true ∧ ch.link.headFault = none
      ∧ ∃ k, ch.table.committed = some k ∧ k.governing = some g ∧ k.fields.combinationOk ch.link.geometry = true := by
  unfold Channel.startCheck at h
  split at h
  · next hoff =>
    split at h
    · next hready =>
      split at h
      · cases h
      · next k hk =>
        split at h
        · cases h
        · next g' hg =>
          split at h
          · next hok =>
            obtain rfl := Sum.inr.inj h
            exact ⟨hoff, hready.1, hready.2, k, hk, hg, hok⟩
          · cases h
    · cases h
  · cases h

theorem Channel.settledThen_timer (ch : Channel) (w : Bool) (n : Nat) : (ch.settledThen w n).timer = ch.timer := by
  unfold Channel.settledThen
  split <;> simp

theorem State.finishCommand_timer (s : State) (code : ResultCode) (gen : Option Gen) (d : ChannelId) :
    ((s.finishCommand code gen).ch d).timer = (s.ch d).timer := by
  obtain h | ⟨w, n, _, h⟩ := State.finishCommand_ch s code gen d
  · rw [h]
  · rw [h, Channel.settledThen_timer]

theorem State.MovesTo.startAccepted {g : GoverningSet} (h : (s.ch c).startCheck = .inr g) : s.MovesTo halts (s.startAccepted c g) := by
  obtain ⟨hoff, hup, _, k, hk, hg, _⟩ := Channel.startCheck_eq_inr h
  have started : s.MovesTo halts (s.upd c fun ch => ch.started g).handSpends :=
    (State.MovesTo.upd s c _ (Channel.Move.starts k g hoff hup hk hg).moves).trans (State.MovesTo.handSpends _)
  have waiting : ((s.upd c fun ch => ch.started g).handSpends.ch c).timer.state = .waiting := by
    rw [State.handSpends_ch, State.ch_upd_same, Channel.started, Channel.opening_timer]
    rfl
  unfold State.startAccepted
  dsimp only
  generalize (s.upd c fun ch => ch.started g).handSpends = u at started waiting
  have drawn : s.MovesTo halts u.drawn := started.trans (State.MovesTo.of_chans rfl)
  have frameStart {v : State} (hv : (v.ch c).timer.state = .waiting) : v.MovesTo halts (v.frameStart c) := State.MovesTo.frameStart fun _ => .inl hv
  have finished (v : State) (hv : (v.ch c).timer.state = .waiting) : v.MovesTo halts ((v.finishCommand .ok (some g.gen)).frameStart c) :=
    (State.MovesTo.finishCommand v _ _).trans (frameStart (by rw [State.finishCommand_timer]; exact hv))
  split
  · exact started.trans (State.MovesTo.finishCommand _ _ _)
  · split
    · split
      · exact drawn.trans (finished u.drawn waiting)
      · exact drawn.trans ((frameStart (v := u.drawn) waiting).trans (State.MovesTo.finishCommand _ _ _))
    · exact started.trans (finished _ waiting)

theorem execStart_movesTo (h : execStart s = .next t) : s.MovesTo halts t := by
  unfold execStart at h
  split at h
  · unfold State.startCommand at h
    split at h
    · exact State.MovesTo.of_next h (State.MovesTo.finishCommand s _ _)
    · next hcheck => exact State.MovesTo.of_next h (State.MovesTo.startAccepted hcheck)
  · exact State.MovesTo.of_next h (State.MovesTo.refl s)

/-! ## STOP -/

/-- The link of a channel that a STOP without ABORT takes: HALT withdraws an ORDER that is out (R86, R74). -/
def Channel.stopLink (ch : Channel) : Link :=
  if ch.timer.orderOutstanding then ch.link.send .halt else ch.link

@[simp] theorem FrameTimer.stopped_run (t : FrameTimer) : t.stopped.run = t.run := by
  unfold FrameTimer.stopped
  split <;> rfl

/-- A STOP without ABORT before the channel's frames go on. -/
theorem State.stopRun_eq_emit (s : State) (c : ChannelId) :
    s.stopRun c = (s.emit c { (s.ch c).stopTaken with link := (s.ch c).stopLink }
      (Channel.closeRecords { s.ch c with captures := (s.ch c).captures.map fun k => k.drain .stopped } c Capture.drained)).settle c := by
  have sent : (if (s.ch c).timer.orderOutstanding then s.send c .halt else s) = s.emit c { s.ch c with link := (s.ch c).stopLink } [] := by
    unfold Channel.stopLink
    split
    · exact State.send_eq_emit s c .halt
    · exact (State.emit_self s c).symm
  unfold State.stopRun
  dsimp only
  rw [sent, State.emit_upd, State.closeCaptures_eq_emit, State.emit_ch_same, State.emit_emit]
  simp only [Channel.closeRecords, FrameTimer.stopped_run]
  rfl

theorem Channel.stopLink_countersKept (ch : Channel) : ch.link.countersKept ch.stopLink := by
  unfold Channel.stopLink
  split
  · exact Link.send_countersKept _ _
  · exact ⟨.inl rfl, .inl rfl⟩

theorem Channel.stopLink_up (ch : Channel) : ch.stopLink.up = ch.link.up := by
  unfold Channel.stopLink
  split
  · exact Link.send_isUp _ _
  · rfl

theorem State.MovesTo.stopRun (hruns : (s.ch c).state.runs = true) (hend : (s.ch c).ending = none) : s.MovesTo halts (s.stopRun c) := by
  rw [State.stopRun_eq_emit]
  exact State.MovesTo.settleEmit s c _ fun w => Channel.Move.stops w _ (Channel.stopLink_countersKept _) (Channel.stopLink_up _) hruns hend

theorem State.MovesTo.stopWithAbort (hfree : (s.ch c).inFreeRun = true) : s.MovesTo halts (s.stopWithAbort c) := by
  have taken : s.MovesTo halts s.handTaken := State.MovesTo.of_chans (State.handTaken_chans s)
  refine taken.trans ((State.MovesTo.abortRun _ ?_).trans (State.MovesTo.finishWaitingStop _))
  rw [State.ch, State.handTaken_chans]
  exact hfree

theorem State.MovesTo.stopFaulted (hstate : (s.ch c).state = .faulted) : s.MovesTo halts (s.stopFaulted c) := by
  unfold State.stopFaulted
  split
  · exact State.MovesTo.of_chans (State.waitCredit_chans s)
  · refine State.MovesTo.trans (State.MovesTo.of_chans (State.handSpends_chans (s.place _))) (State.MovesTo.trans (State.MovesTo.upd _ c _ ?_)
      (State.MovesTo.finishCommand _ _ _))
    refine (Channel.Move.off ?_).moves
    rw [State.handSpends_ch]
    exact congrArg ChannelState.inRun hstate

/-- A STOP is taken outside the end of a run, by a channel in its state. -/
theorem State.MovesTo.stopCommand (hend : (s.ch c).ending = none) (abort : Bool) : s.MovesTo halts (s.stopCommand c abort) := by
  have free {st : ChannelState} (hst : st.inRun = true) (h : (s.ch c).state = st) : (s.ch c).inFreeRun = true := by
    rw [Channel.inFreeRun, h, hst, hend]; rfl
  unfold State.stopCommand
  split
  · exact State.MovesTo.finishCommand s _ _
  · next h => exact State.MovesTo.stopFaulted h
  · next h =>
    split
    · exact State.MovesTo.stopWithAbort (free rfl h)
    · exact (State.MovesTo.stopRun (by rw [h]; rfl) hend).trans (State.MovesTo.finishCommand _ _ _)
  · next h =>
    split
    · exact State.MovesTo.stopWithAbort (free rfl h)
    · exact (State.MovesTo.stopRun (by rw [h]; rfl) hend).trans (State.MovesTo.finishCommand _ _ _)
  · next h =>
    split
    · exact State.MovesTo.stopWithAbort (free rfl h)
    · exact State.MovesTo.finishCommand s _ _

theorem Option.eq_none_of_isSome_ne {α : Type} {o : Option α} (h : ¬ o.isSome = true) : o = none := by
  simpa using h

theorem execStop_movesTo (h : execStop s = .next t) : s.MovesTo halts t := by
  unfold execStop at h
  split at h
  · split at h
    · exact State.MovesTo.of_next h (State.MovesTo.refl s)
    · next hend => exact State.MovesTo.of_next h (State.MovesTo.stopCommand (Option.eq_none_of_isSome_ne hend) _)
  · exact State.MovesTo.of_next h (State.MovesTo.refl s)

/-! ## CAPTURE, CANCEL, QUERY and the buffer commands -/

theorem execCapture_movesTo (h : execCapture s = .next t) : s.MovesTo halts t := by
  unfold execCapture at h
  split at h
  · split at h
    · exact State.MovesTo.of_next h (State.MovesTo.refl s)
    · refine State.MovesTo.of_next h ?_
      unfold State.captureCommand
      split
      · next hlen =>
        split
        · exact State.MovesTo.finishCommand s _ _
        · next htag =>
          exact (State.MovesTo.upd s _ _ (Channel.Move.captures _ hlen (Bool.of_not_eq_true htag) rfl rfl).moves).trans
            ((State.MovesTo.handSpends _).trans (State.MovesTo.finishCommand _ _ _))
      · exact State.MovesTo.finishCommand s _ _
  · exact State.MovesTo.of_next h (State.MovesTo.refl s)

/-- A CANCEL of a capture in the queue, before its answer. -/
theorem State.cancelCommand_eq_emit (s : State) (c : ChannelId) {tag : Tag} {k : Capture}
    (hk : (s.ch c).captures.find? (fun k => k.tag == tag) = some k) :
    s.cancelCommand c tag = (s.emit c
      (Channel.opening (if k.state = .draining then (s.ch c).cancelled tag else ((s.ch c).cancelled tag).without (Capture.closesWith tag)))
      (if k.state = .draining then [] else ((s.ch c).cancelled tag).closeRecords c (Capture.closesWith tag))).finishCommand .ok none := by
  unfold State.cancelCommand
  rw [hk]
  dsimp only
  have marked : (s.upd c fun ch => { ch with captures := ch.captures.map fun k => if k.tag = tag then k.cancel else k })
      = s.emit c ((s.ch c).cancelled tag) [] := State.upd_eq_emit s c _
  rw [marked]
  split
  · rw [State.emit_upd]
  · rw [State.closeCaptures_eq_emit, State.emit_ch_same, State.emit_emit, State.emit_upd]
    rfl

theorem State.MovesTo.cancelCommand (s : State) (c : ChannelId) (tag : Tag) : s.MovesTo halts (s.cancelCommand c tag) := by
  cases hk : (s.ch c).captures.find? (fun k => k.tag == tag) with
  | none =>
    unfold State.cancelCommand
    rw [hk]
    exact State.MovesTo.finishCommand s _ _
  | some k =>
    rw [State.cancelCommand_eq_emit s c hk]
    exact (State.MovesTo.emit s c _ (Channel.Move.cancels tag k hk).moves).trans (State.MovesTo.finishCommand _ _ _)

theorem execCancel_movesTo (h : execCancel s = .next t) : s.MovesTo halts t := by
  unfold execCancel at h
  split at h
  · split at h
    · exact State.MovesTo.of_next h (State.MovesTo.refl s)
    · exact State.MovesTo.of_next h (State.MovesTo.cancelCommand s _ _)
  · exact State.MovesTo.of_next h (State.MovesTo.refl s)

/-- R147: three counters cleared. -/
theorem Channel.Moves.clearCounters (ch : Channel) : Channel.Moves halts ch ch.clearCounters := by
  have lost : Channel.Moves halts ch { ch with lostEvents := 0 } := (Channel.Move.lost 0 (.inr (by omega))).moves
  have timer : Channel.Moves halts { ch with lostEvents := 0 } { ch with lostEvents := 0, timer := { ch.timer with backlog := 0 } } :=
    (Channel.Move.timer (ch := { ch with lostEvents := 0 }) { ch.timer with backlog := 0 } ⟨rfl, rfl, id, .inr (Nat.zero_le _)⟩).moves
  exact (lost.trans timer).tail (Channel.Move.link { ch.link with stray := 0 } ⟨.inl rfl, .inr (Nat.zero_le _)⟩ fun _ h => h)

theorem execQuery_movesTo (h : execQuery s = .next t) : s.MovesTo halts t := by
  unfold execQuery at h
  split at h
  · split at h
    · exact State.MovesTo.of_next h (State.MovesTo.refl s)
    · next c clear _ _ =>
      refine State.MovesTo.of_next h ?_
      unfold State.queryCommand
      dsimp only
      refine State.MovesTo.trans_of_chans (u := (s.place (.status ((s.ch c).status c clear))).handSpends) ?_ (State.handSpends_chans _)
      split
      · exact (State.MovesTo.upd _ _ _ (Channel.Moves.clearCounters _)).trans (State.MovesTo.finishCommand _ _ _)
      · exact State.MovesTo.finishCommand _ _ _
  · exact State.MovesTo.of_next h (State.MovesTo.refl s)

theorem execPostBuffers_movesTo (h : execPostBuffers s = .next t) : s.MovesTo halts t := by
  unfold execPostBuffers at h
  split at h
  · refine State.MovesTo.of_next h ?_
    unfold State.postCommand
    split
    · split
      · exact (State.MovesTo.finishCommand _ _ _).trans_of_chans rfl
      · exact State.MovesTo.finishCommand s _ _
    · exact State.MovesTo.finishCommand s _ _
  · exact State.MovesTo.of_next h (State.MovesTo.refl s)

theorem State.handReserve_chans (s : State) : s.handReserve.chans = s.chans := by
  unfold State.handReserve
  split <;> rfl

theorem State.MovesTo.reclaimClaim (s : State) (pool : PoolId) : s.MovesTo halts (s.reclaimClaim pool) := by
  unfold State.reclaimClaim
  split
  · exact State.MovesTo.finishCommand s _ _
  · exact State.MovesTo.of_chans (State.handSpends_chans _)

theorem execReclaim_movesTo (h : execReclaim s = .next t) : s.MovesTo halts t := by
  unfold execReclaim at h
  split at h
  · refine State.MovesTo.of_next h ?_
    unfold State.reclaimStep
    split
    · exact State.MovesTo.reclaimClaim s _
    · split
      · exact State.MovesTo.finishCommand s _ _
      · split
        · exact State.MovesTo.trans (State.MovesTo.of_chans (State.handReserve_chans s)) (State.MovesTo.reclaimClaim _ _)
        · exact State.MovesTo.of_chans (State.waitCredit_chans s)
  · exact State.MovesTo.of_next h (State.MovesTo.refl s)

/-! ## Writes -/

theorem State.land_ch (s : State) (w : BusWrite) (error : Bool) (d : ChannelId) : (s.land w error).ch d = s.ch d := by
  rw [State.ch, State.land_chans]; rfl

theorem State.landAbandoned_chans (s : State) (k : WriteClaim) (error : Bool) : (s.landAbandoned k error).chans = s.chans := by
  unfold State.landAbandoned
  split
  · rfl
  · exact State.land_chans _ _ _

theorem State.handRecord_chans (s : State) : s.handRecord.chans = s.chans := by
  unfold State.handRecord
  split <;> rfl

theorem Option.eq_none_of_isNone_and {α : Type} {b : Bool} {o : Option α} (h : (b && o.isNone) = true) : o = none := by
  simp only [Bool.and_eq_true, Option.isNone_iff_eq_none] at h
  exact h.2

theorem State.MovesTo.handRow (s : State) (c : ChannelId) : s.MovesTo halts (s.handRow c) := by
  unfold State.handRow
  split
  · next h => exact State.MovesTo.upd s c _ (Channel.Move.rowHanded (Option.eq_none_of_isNone_and h)).moves
  · exact State.MovesTo.refl s

theorem State.MovesTo.handHeader (s : State) (c : ChannelId) : s.MovesTo halts (s.handHeader c) := by
  unfold State.handHeader
  split
  · next h => exact State.MovesTo.upd s c _ (Channel.Move.headerHanded c (Option.eq_none_of_isNone_and h)).moves
  · exact State.MovesTo.refl s

theorem execWriteHanded_movesTo {claim : WriteClaim} (h : execWriteHandedToHostPort claim s = .next t) : s.MovesTo halts t := by
  unfold execWriteHandedToHostPort at h
  split at h
  · exact State.MovesTo.of_next h (State.MovesTo.handRow s _)
  · exact State.MovesTo.of_next h (State.MovesTo.handHeader s _)
  · exact State.MovesTo.of_next h (State.MovesTo.of_chans (State.handRecord_chans s))

theorem State.MovesTo.land (s : State) (w : BusWrite) (error : Bool) : s.MovesTo halts (s.land w error) :=
  State.MovesTo.of_chans (State.land_chans s w error)

theorem State.MovesTo.rowMade {w : BusWrite} (h : (s.ch c).rowWrite.isSome = true) (error : Bool) : s.MovesTo halts (s.rowMade c w error) := by
  refine (State.MovesTo.land s w error).trans (State.MovesTo.trans (State.MovesTo.settle (Settles.upd c _ _ ?_ ?_ ?_) fun writes => ?_)
    (State.MovesTo.finishWaitingStop _))
  any_goals simp
  rw [State.land_ch]
  exact Channel.Move.rowMade writes h

theorem execRowWrite_movesTo {issue : Issue} {error : Bool} (h : execRowWrite c issue error s = .next t) : s.MovesTo halts t := by
  unfold execRowWrite at h
  split at h
  · exact State.MovesTo.of_next h (State.MovesTo.of_chans (State.landAbandoned_chans s _ _))
  · dsimp only at h
    split at h
    · exact State.MovesTo.of_next h (State.MovesTo.refl s)
    · next w hw => exact State.MovesTo.of_next h ((State.MovesTo.handRow s c).trans (State.MovesTo.rowMade (by rw [hw]; rfl) error))

/-- The header of the earliest frame made, before the frames behind it go on. -/
theorem State.headerMade_eq_emit (s : State) (c : ChannelId) (f : Frame) (d : Descriptor) (w : BusWrite) (error : Bool) :
    s.headerMade c f d w error = (((s.land w error).emit c (Channel.released { s.ch c with headerWrite := none } f (!f.flags.aborted))
      (frameDoneRecord c f d :: Channel.releaseRecords { s.ch c with headerWrite := none } c f (!f.flags.aborted))).settle c).finishWaitingStop := by
  unfold State.headerMade
  dsimp only
  rw [State.upd_eq_emit, State.land_ch, State.emit_place, State.release_eq_emit, State.emit_ch_same, State.emit_emit]
  rfl

theorem State.MovesTo.headerMade {f : Frame} {rest : List Frame} {d : Descriptor} {w : BusWrite} (hf : (s.ch c).frames = f :: rest)
    (hd : f.hold = .buffer d) (h : (s.ch c).headerWrite.isSome = true) (error : Bool) : s.MovesTo halts (s.headerMade c f d w error) := by
  rw [State.headerMade_eq_emit]
  refine (State.MovesTo.land s w error).trans (State.MovesTo.trans (State.MovesTo.settleEmit _ c _ fun writes => ?_)
    (State.MovesTo.finishWaitingStop _))
  rw [State.land_ch]
  exact Channel.Move.headerMade writes _ f rest d hf hd h

theorem execHeaderWrite_movesTo {issue : Issue} {error : Bool} (h : execHeaderWrite c issue error s = .next t) : s.MovesTo halts t := by
  unfold execHeaderWrite at h
  split at h
  · exact State.MovesTo.of_next h (State.MovesTo.of_chans (State.landAbandoned_chans s _ _))
  · dsimp only at h
    split at h
    · next hw hf =>
      split at h
      · next hd => exact State.MovesTo.of_next h ((State.MovesTo.handHeader s c).trans (State.MovesTo.headerMade hf hd (by rw [hw]; rfl) error))
      · exact State.MovesTo.of_next h (State.MovesTo.refl s)
      · exact State.MovesTo.of_next h (State.MovesTo.refl s)
    · exact State.MovesTo.of_next h (State.MovesTo.refl s)

theorem State.recordMade_chans (s : State) (w : BusWrite) (error : Bool) : (s.recordMade w error).chans = s.chans := by
  unfold State.recordMade
  rw [State.askCredits_chans, State.announce_chans]
  exact State.land_chans s w error

theorem execCompletionWrite_movesTo {issue : Issue} {error : Bool} (h : execCompletionWrite issue error s = .next t) : s.MovesTo halts t := by
  unfold execCompletionWrite at h
  split at h
  · exact State.MovesTo.of_next h (State.MovesTo.of_chans (State.landAbandoned_chans s _ _))
  · dsimp only at h
    split at h
    · exact State.MovesTo.of_next h (State.MovesTo.refl s)
    · exact State.MovesTo.of_next h (State.MovesTo.of_chans ((State.recordMade_chans _ _ _).trans (State.handRecord_chans s)))

/-! ## Timer events -/

/-- The filter's output moves alone. -/
theorem State.MovesTo.inputHigh (s : State) (c : ChannelId) (b : Bool) :
    s.MovesTo halts (s.upd c fun ch => { ch with timer := { ch.timer with inputHigh := b } }) :=
  State.MovesTo.upd s c _ (Channel.Move.timer { (s.ch c).timer with inputHigh := b } ⟨rfl, rfl, id, .inl rfl⟩).moves

theorem execTrigger_movesTo (h : execTrigger c s = .next t) : s.MovesTo halts t := by
  unfold execTrigger at h
  split at h
  · exact State.MovesTo.of_next h (State.MovesTo.refl s)
  · refine State.MovesTo.of_next h ((State.MovesTo.inputHigh s c true).trans ?_)
    unfold State.triggerTaken
    dsimp only
    split
    · split
      · next hw => exact State.MovesTo.frameStart fun _ => .inl hw
      · split
        · exact State.MovesTo.offer _ c _
        · exact State.MovesTo.refl _
      · exact State.MovesTo.refl _
    · exact State.MovesTo.refl _

theorem execPeriodEnd_movesTo (h : execPeriodEnd c s = .next t) : s.MovesTo halts t := by
  unfold execPeriodEnd at h
  split at h
  · next hend =>
    refine State.MovesTo.of_next h ?_
    unfold State.periodEnd
    dsimp only
    split
    · next hruns =>
      split
      · exact State.MovesTo.frameStart fun _ => .inr hend
      · exact State.MovesTo.upd s c _ (Channel.Move.waits hruns hend.1 hend.2).moves
      · exact State.MovesTo.refl s
    · next hruns =>
      refine State.MovesTo.settle (Settles.upd c s _ rfl rfl rfl) fun w => ?_
      rw [State.ch_upd_same]
      exact Channel.Move.periodEnds w (Bool.of_not_eq_true hruns) hend.1 hend.2
  · exact State.MovesTo.of_next h (State.MovesTo.refl s)

theorem State.MovesTo.latch (s : State) (c : ChannelId) : s.MovesTo halts (s.latch c) := by
  unfold State.latch
  split
  · next hruns =>
    split
    · exact State.MovesTo.refl s
    · next k hk =>
      split
      · exact State.MovesTo.refl s
      · next g hg => exact (State.MovesTo.upd s c _ (Channel.Move.latched k g _ hruns hk hg).moves).trans (State.MovesTo.send _ c _)
  · exact State.MovesTo.refl s

theorem State.MovesTo.headSilent (s : State) (c : ChannelId) : s.MovesTo halts (s.headSilent c) := by
  have drawn : s.MovesTo halts s.drawn := State.MovesTo.of_chans rfl
  unfold State.headSilent
  split
  · exact drawn.trans ((State.MovesTo.latch _ c).trans (State.MovesTo.faultChannel _ c _))
  · exact drawn.trans (State.MovesTo.faultChannel _ c _)

/-- The latch point of a frame still READING, before the latch: the timer, the flush and the end-miss counter in one move. -/
theorem State.MovesTo.frameEndMissed {f : Frame} (hf : (s.ch c).reading = some f) :
    s.MovesTo halts ((s.upd c fun ch => { ch with timer := ch.timer.atLatch }).frameEndMissed c f) := by
  refine State.MovesTo.settle ((Settles.upd c s _ rfl rfl rfl).trans (Settles.upd c _ _ rfl rfl rfl)) fun w => ?_
  rw [State.ch_upd_same, State.ch_upd_same]
  exact Channel.Move.flushes w f true { (s.ch c).link with endMiss := min ((s.ch c).link.endMiss + 1) 2 } (s.ch c).timer.atLatch hf
    ⟨.inr (Nat.min_le_right _ _), .inl rfl⟩ rfl rfl rfl

theorem execLatchPoint_movesTo (h : execLatchPoint c s = .next t) : s.MovesTo halts t := by
  unfold execLatchPoint at h
  split at h
  · refine State.MovesTo.of_next h ?_
    unfold State.latchPoint
    dsimp only
    split
    · next hread =>
      rw [State.ch_upd_same] at hread
      exact (State.MovesTo.upd s c _ (Channel.Move.atLatch (ch := s.ch c) hread).moves).trans (State.MovesTo.latch _ c)
    · next f hread =>
      rw [State.ch_upd_same] at hread
      have missed : s.MovesTo halts ((s.upd c fun ch => { ch with timer := ch.timer.atLatch }).frameEndMissed c f) := State.MovesTo.frameEndMissed hread
      split
      · exact missed.trans (State.MovesTo.headSilent _ c)
      · exact missed.trans (State.MovesTo.latch _ c)
  · exact State.MovesTo.of_next h (State.MovesTo.refl s)

/-! ## The head link -/

theorem State.MovesTo.updLink (s : State) (c : ChannelId) (f : Link → Link) (hf : ∀ l, Link.countersKept l (f l))
    (hup : ∀ l : Link, l.up = true → (f l).up = true) : s.MovesTo halts (s.upd c fun ch => { ch with link := f ch.link }) :=
  State.MovesTo.upd s c _ (Channel.Move.link _ (hf _) fun _ => hup _).moves

/-- A fault of a channel behind a move of its link (R66): in a run the link may go DOWN with the run's end. -/
theorem State.MovesTo.faultWithLink (s : State) (c : ChannelId) (f : Link → Link) (cause : FaultCause) (hf : ∀ l, Link.countersKept l (f l)) :
    s.MovesTo halts ((s.upd c fun ch => { ch with link := f ch.link }).faultChannel c cause) := by
  by_cases hfree : (s.ch c).inFreeRun = true
  · have hfree' : ((s.upd c fun ch => { ch with link := f ch.link }).ch c).inFreeRun = true := by rw [State.ch_upd_same]; exact hfree
    unfold State.faultChannel
    rw [if_pos hfree']
    have caused : s.MovesTo halts (s.upd c fun ch => { ch with faultCause := some cause }) := State.MovesTo.upd s c _ (Channel.Move.cause _).moves
    intro d
    by_cases hd : d = c
    · subst hd
      unfold State.abortRun
      generalize hv : ((((s.upd d fun ch => { ch with link := f ch.link }).upd d fun ch => { ch with faultCause := some cause }).upd d fun ch =>
        { ch.abortFrames with timer := ch.timer.idled, ending := some ⟨.faulted cause, false⟩ }).send d .halt) = v
      have hch : v.ch d = { Channel.aborted { s.ch d with faultCause := some cause } (.faulted cause) with
          link := (f (s.ch d).link).send .halt } := by
        rw [← hv, State.send, State.ch_upd_same, State.ch_upd_same, State.ch_upd_same, State.ch_upd_same]
        rfl
      obtain ⟨n, hn, hset⟩ := State.settle_ch_same v d
      rw [hset]
      refine (Channel.Move.cause (some cause)).moves.trans (Channel.Moves.settledThen hn ?_)
      rw [hch]
      have counters : (s.ch d).link.countersKept ((f (s.ch d).link).send .halt) := by
        obtain ⟨hmiss, hstray⟩ := hf (s.ch d).link
        exact ⟨by rw [Link.send_endMiss]; exact hmiss, by rw [Link.send_stray]; exact hstray⟩
      exact Channel.Move.aborts _ (.faulted cause) _ counters hfree
    · have acts := ((Settles.upd c s (fun ch => { ch with link := f ch.link }) rfl rfl rfl).trans
        ((Settles.upd c _ (fun ch => { ch with faultCause := some cause }) rfl rfl rfl).trans (Settles.abortRun c _ (.faulted cause)))).toActsOn
      rw [acts.others d hd]
  · refine State.MovesTo.trans (State.MovesTo.upd s c _ (Channel.Move.link _ (hf _) fun h => absurd h hfree).moves) (State.MovesTo.faultChannel _ c _)

theorem State.MovesTo.linkDown (s : State) (c : ChannelId) : s.MovesTo halts (s.linkDown c) :=
  State.MovesTo.faultWithLink s c (fun l => { l with geometry := none, headFault := none }) .linkLost fun _ => ⟨.inl rfl, .inl rfl⟩

theorem Link.hello_countersKept (l : Link) (m : HelloMsg) : l.countersKept (l.hello m) := by
  unfold Link.hello
  split
  · exact ⟨.inl rfl, .inl rfl⟩
  · exact ⟨.inr (Nat.zero_le _), .inl rfl⟩

theorem Link.hello_up {l : Link} (m : HelloMsg) (h : l.up = true) : (l.hello m).up = true := by
  unfold Link.hello
  split
  · exact h
  · rfl

theorem execHello_movesTo {m : HelloMsg} (h : execHello c m s = .next t) : s.MovesTo halts t := by
  have greeted (v : State) : v.MovesTo halts (v.upd c fun ch => { ch with link := ch.link.hello m }) :=
    State.MovesTo.updLink v c (fun l => l.hello m) (fun l => Link.hello_countersKept l m) fun _ hup => Link.hello_up m hup
  unfold execHello at h
  split at h
  · refine State.MovesTo.of_next h ?_
    split
    · exact (State.MovesTo.linkDown s c).trans (greeted _)
    · exact greeted s
  · exact State.MovesTo.of_next h (State.MovesTo.refl s)

theorem State.MovesTo.setHeadFault (s : State) (c : ChannelId) (v : Option Byte) : s.MovesTo halts (s.setHeadFault c v) :=
  State.MovesTo.updLink s c (fun l => { l with headFault := v }) (fun _ => ⟨.inl rfl, .inl rfl⟩) fun _ h => h

theorem execHeadStatus_movesTo {condition : HeadCondition} (h : execHeadStatus c condition s = .next t) : s.MovesTo halts t := by
  unfold execHeadStatus at h
  split at h
  · split at h
    · exact State.MovesTo.of_next h (State.MovesTo.setHeadFault s c _)
    · split at h
      · exact State.MovesTo.of_next h (State.MovesTo.refl s)
      · exact State.MovesTo.of_next h ((State.MovesTo.setHeadFault s c _).trans (State.MovesTo.faultChannel _ c _))
    · exact State.MovesTo.of_next h (State.MovesTo.refl s)
  · exact State.MovesTo.of_next h (State.MovesTo.refl s)

theorem State.MovesTo.carrier (s : State) (c : ChannelId) (b : Bool) : s.MovesTo halts (s.upd c fun ch => { ch with link := { ch.link with carrier := b } }) :=
  State.MovesTo.updLink s c (fun l => { l with carrier := b }) (fun _ => ⟨.inl rfl, .inl rfl⟩) fun _ h => h

theorem execCarrierLost_movesTo (h : execCarrierLost c s = .next t) : s.MovesTo halts t := by
  unfold execCarrierLost at h
  dsimp only at h
  split at h
  · exact State.MovesTo.of_next h ((State.MovesTo.carrier s c false).trans (State.MovesTo.linkDown _ c))
  · exact State.MovesTo.of_next h (State.MovesTo.carrier s c false)

/-- R54: a row that is accepted belongs to the READING frame and lies in its window. -/
theorem Channel.rowAccepted_eq_some {ch : Channel} {seq : Seq} {index n : Nat} {f : Frame} (h : ch.rowAccepted seq index n = some f) :
    ch.reading = some f ∧ f.nextRow ≤ index ∧ index < f.snapshot.vRows := by
  unfold Channel.rowAccepted at h
  split at h
  · next g f' _ hf =>
    split at h
    · next hacc =>
      obtain rfl := Option.some.inj h
      simp only [Frame.accepts, Bool.and_eq_true, decide_eq_true_eq] at hacc
      exact ⟨hf, hacc.1.1.2, hacc.1.2⟩
    · cases h
  · cases h

theorem execRow_movesTo {seq : Seq} {index : Nat} {samples : List Sample} (h : execRow c seq index samples s = .next t) : s.MovesTo halts t := by
  unfold execRow at h
  split at h
  · split at h
    · next f hacc =>
      obtain ⟨hf, hlo, hhi⟩ := Channel.rowAccepted_eq_some hacc
      exact State.MovesTo.of_next h (State.MovesTo.upd s c _ (Channel.Move.combines f index samples hf hlo hhi).moves)
    · exact State.MovesTo.of_next h 
        (State.MovesTo.updLink s c (fun l => { l with stray := satAdd l.stray }) (fun _ => ⟨.inl rfl, .inr (satAdd_le _)⟩) fun _ h => h)
  · exact State.MovesTo.of_next h (State.MovesTo.refl s)

/-- R76: a FRAME_END that ends a reading ends that of the READING frame. -/
theorem Channel.frameEnded_eq_some {ch : Channel} {seq : Seq} {n : Nat} {f : Frame} (h : ch.frameEnded seq n = some f) :
    ch.reading = some f ∧ f.seq = seq ∧ n ≤ f.snapshot.vRows := by
  unfold Channel.frameEnded at h
  split at h
  · cases h
  · next f' hf =>
    split at h
    · next hon =>
      obtain rfl := Option.some.inj h
      exact ⟨hf, hon⟩
    · cases h

theorem execFrameEnd_movesTo {seq : Seq} {n : Nat} (h : execFrameEnd c seq n s = .next t) : s.MovesTo halts t := by
  unfold execFrameEnd at h
  split at h
  · split at h
    · next f hended =>
      obtain ⟨hf, _, _⟩ := Channel.frameEnded_eq_some hended
      refine State.MovesTo.of_next h (State.MovesTo.settle (Settles.upd c s _ rfl rfl rfl) fun w => ?_)
      rw [State.ch_upd_same]
      exact Channel.Move.flushes w f false { (s.ch c).link with endMiss := 0 } (s.ch c).timer hf ⟨.inr (Nat.zero_le _), .inl rfl⟩ rfl rfl rfl
    · exact State.MovesTo.of_next h (State.MovesTo.refl s)
  · exact State.MovesTo.of_next h (State.MovesTo.refl s)

end

/-! ## Every command but a reset, and the passing of time -/

theorem exec_movesTo {halts : Bool} {s t : State} {i : Instr} (hpower : i ≠ .powerOn) (hreset : ∀ cause, i ≠ .functionReset cause)
    (hh : t.regs.iface = .halted → halts = true) (h : exec i s = .next t) : s.MovesTo halts t := by
  cases i with
  | powerOn => exact absurd rfl hpower
  | functionReset cause => exact absurd rfl (hreset cause)
  | enable reserved => exact execEnable_movesTo (reserved := reserved) h
  | disable reserved => exact execDisable_movesTo (reserved := reserved) h
  | configWrite _ _ => exact execConfigWrite_movesTo h
  | cmdTailWrite _ => exact execCmdTailWrite_movesTo hh h
  | cplHeadWrite _ => exact execCplHeadWrite_movesTo h
  | ifStatusWrite _ => exact State.MovesTo.of_next h (State.MovesTo.of_chans rfl)
  | intControlWrite _ => exact execIntControlWrite_movesTo h
  | registerWriteIgnored _ _ value => exact execRegisterWriteIgnored_movesTo (value := value) h
  | portDown => exact execPortDown_movesTo hh h
  | busMasteringChange _ => exact State.MovesTo.of_next h (State.MovesTo.of_chans rfl)
  | fetchComplete _ _ => exact execFetchComplete_movesTo hh h
  | recordRejected => exact execRecordRejected_movesTo h
  | set =>
    change execSet s = .next t at h
    unfold execSet at h
    split at h
    · exact State.MovesTo.of_next h (State.MovesTo.setCommand s _ _ _)
    · exact State.MovesTo.of_next h (State.MovesTo.refl s)
  | start => exact execStart_movesTo h
  | stop => exact execStop_movesTo h
  | capture => exact execCapture_movesTo h
  | cancel => exact execCancel_movesTo h
  | postBuffers => exact execPostBuffers_movesTo h
  | reclaim => exact execReclaim_movesTo h
  | query => exact execQuery_movesTo h
  | completionWrite _ _ => exact execCompletionWrite_movesTo h
  | trigger c => exact execTrigger_movesTo h
  | latchPoint c => exact execLatchPoint_movesTo h
  | periodEnd c => exact execPeriodEnd_movesTo h
  | hello c _ => exact execHello_movesTo h
  | headStatus c _ => exact execHeadStatus_movesTo h
  | carrierLost c => exact execCarrierLost_movesTo h
  | row c _ _ _ => exact execRow_movesTo h
  | frameEnd c _ _ => exact execFrameEnd_movesTo h
  | rowWrite _ _ _ => exact execRowWrite_movesTo h
  | headerWrite _ _ _ => exact execHeaderWrite_movesTo h
  | carrierPresent c => exact State.MovesTo.of_next h (State.MovesTo.carrier s c true)
  | hostPortLinkUp => exact State.MovesTo.of_next h (State.MovesTo.of_chans rfl)
  | messageSignalledInterruptsChange _ => exact State.MovesTo.of_next h (State.MovesTo.of_chans rfl)
  | triggerInputLow c => exact State.MovesTo.of_next h (State.MovesTo.inputHigh s c false)
  | writeHandedToHostPort _ => exact execWriteHanded_movesTo h

/-- R1: in 10 ns a timer stays in its state and its period, and passes neither its latch point nor its period's end. -/
theorem FrameTimer.tick_keepsPeriod (t : FrameTimer) : t.keepsPeriod t.tick := by
  unfold FrameTimer.tick
  split
  · exact ⟨rfl, rfl, id, .inl rfl⟩
  · exact ⟨rfl, rfl, id, .inl rfl⟩
  · next hp =>
    split
    · exact ⟨rfl, rfl, id, .inl rfl⟩
    · split
      · next hline =>
        refine ⟨rfl, rfl, fun hbefore => ?_, .inl rfl⟩
        have hlatch : t.latchTaken = false := decide_eq_false (by omega)
        rw [FrameTimer.lastLine, hlatch] at hline
        simp only [Bool.false_eq_true, if_false] at hline
        show t.line + 1 + 16 < t.periodLength
        omega
      · exact ⟨rfl, rfl, id, .inl rfl⟩

theorem State.tick_ch (s : State) (d : ChannelId) : s.tick.ch d = { s.ch d with timer := (s.ch d).timer.tick } :=
  Four.get_map _ _ _

theorem State.MovesTo.tick {halts : Bool} (s : State) : s.MovesTo halts s.tick := fun d => by
  rw [State.tick_ch]
  exact (Channel.Move.timer _ (FrameTimer.tick_keepsPeriod _)).moves

/-- A property of channels that every move keeps holds after a step where it held before; a reset leaves each channel as `resetWith` says. -/
theorem step_channel_cases {halts : Bool} {s t : State} (hh : t.regs.iface = .halted → halts = true) (h : step s = .next t) :
    s.MovesTo halts t ∨ ∃ f : Link → Link, (f = Link.powerOn ∨ f = Link.functionReset) ∧ ∃ rest p, t = (s.withPending rest).resetBlocks f p := by
  unfold step at h
  split at h
  · cases h; exact .inl (State.MovesTo.tick s)
  · next i rest _ =>
    by_cases hpower : i = .powerOn
    · subst hpower; cases h; exact .inr ⟨_, .inl rfl, _, _, rfl⟩
    · by_cases hreset : ∃ cause, i = .functionReset cause
      · obtain ⟨cause, rfl⟩ := hreset; cases h; exact .inr ⟨_, .inr rfl, _, _, rfl⟩
      · exact .inl ((exec_movesTo hpower (fun cause e => hreset ⟨cause, e⟩) hh h).trans_of_chans rfl)

end Sys2Proof.Machine
end

section
/-! The bounds of queues and counters, and the canonical form of host memory, are kept by every step (R14, R16, R60, R62, R78, R79, R98, R114, R155). -/

namespace Sys2Proof.Machine

/-! ## What the going on of frames and run keeps, as an induction -/

/-- What holds of a channel, and is kept where a frame closes without a header or enters CLOSING, holds once its frames have gone on. -/
theorem Channel.advance_induct {P : Channel → Prop} {ch : Channel}
    (released : ∀ ch f rest, ch.frames = f :: rest → ch.drops f = true → P ch → P (ch.released f false))
    (closing : ∀ ch f rest, ch.frames = f :: rest → ch.entersClosing f = true → P ch → P (ch.withHead (f.closingAt ch.lostEvents)))
    (fuel : Nat) (h : P ch) : P (ch.advance fuel) := by
  induction fuel generalizing ch with
  | zero => exact h
  | succ fuel ih =>
    unfold Channel.advance
    split
    · exact h
    · next f rest hf =>
      split
      · next hd => exact ih (released ch f rest hf hd h)
      · split
        · next hc => exact closing ch f rest hf hc h
        · exact h

/-- The same with the headers first given up where the interface does not write. -/
theorem Channel.advanced_induct {P : Channel → Prop} {ch : Channel} (givenUp : ∀ ch, P ch → P ch.givenUp)
    (released : ∀ ch f rest, ch.frames = f :: rest → ch.drops f = true → P ch → P (ch.released f false))
    (closing : ∀ ch f rest, ch.frames = f :: rest → ch.entersClosing f = true → P ch → P (ch.withHead (f.closingAt ch.lostEvents)))
    (writes : Bool) (h : P ch) : P (ch.advanced writes) := by
  refine Channel.advance_induct released closing _ ?_
  cases writes with
  | true => exact h
  | false => exact givenUp ch h

/-- What is kept by each step of settling a channel is kept by all of it. -/
theorem Channel.settled_induct {P : Channel → Prop} {ch : Channel} (givenUp : ∀ ch, P ch → P ch.givenUp)
    (released : ∀ ch f rest, ch.frames = f :: rest → ch.drops f = true → P ch → P (ch.released f false))
    (closing : ∀ ch f rest, ch.frames = f :: rest → ch.entersClosing f = true → P ch → P (ch.withHead (f.closingAt ch.lostEvents)))
    (finished : ∀ ch e, ch.frames = [] → ch.ending = some e → P ch → P (ch.finished e))
    (stopped : ∀ ch, ch.frames = [] → ch.ending = none → ch.state = .stopping → ch.timer.state = .idle → P ch → P ch.stoppedOff)
    (writes : Bool) (h : P ch) : P (ch.settled writes) := by
  have advanced : P (ch.advanced writes) := Channel.advanced_induct givenUp released closing writes h
  unfold Channel.settled Channel.ended
  split
  · next e hf he => exact finished _ e hf he advanced
  · next hf he =>
    split
    · next hs => exact stopped _ hf he hs.1 hs.2 advanced
    · exact advanced
  · exact advanced

/-! ## The row combiner -/

/-- What taking rows leaves of a frame: everything but its counts, its next row and the flags of a bad row. -/
def Frame.core (f : Frame) : Frame :=
  { f with nextRow := 0, produced := 0, lost := 0, flags := { aborted := f.flags.aborted, gap := false, overflow := false, short := false } }

/-- What the row combiner may change of a channel: its row queue within its bound, its own registers, and its frames' counts. -/
structure Channel.Combines (a b : Channel) : Prop where
  rest : b = { a with frames := b.frames, rows := b.rows, combiner := b.combiner }
  frames : b.frames.map Frame.core = a.frames.map Frame.core
  rows : a.rows.length ≤ 8 → b.rows.length ≤ 8

theorem Channel.Combines.refl (ch : Channel) : Channel.Combines ch ch := ⟨rfl, rfl, id⟩

theorem Channel.Combines.trans {a b d : Channel} (h : Channel.Combines a b) (k : Channel.Combines b d) : Channel.Combines a d where
  rest := by rw [k.rest, h.rest]
  frames := k.frames.trans h.frames
  rows := k.rows ∘ h.rows

theorem Channel.Combines.combiner (ch : Channel) (r : Combiner) : Channel.Combines ch { ch with combiner := r } := ⟨rfl, rfl, id⟩

theorem Channel.Combines.onFrame (ch : Channel) (k : ContextId) {g : Frame → Frame} (hg : ∀ f, (g f).core = f.core) : Channel.Combines ch (ch.onFrame k g) where
  rest := rfl
  frames := by
    show (List.map _ ch.frames).map Frame.core = _
    rw [List.map_map]
    refine List.map_congr_left fun f _ => ?_
    show Frame.core (if f.ctx = k then g f else f) = f.core
    split
    · exact hg f
    · rfl
  rows := id

theorem Channel.Combines.handOn (ch : Channel) (hasBuffer : Bool) (r : OutputRow) : Channel.Combines ch (ch.handOn hasBuffer r) := by
  unfold Channel.handOn
  split
  · split
    · next hlen => exact ⟨rfl, rfl, fun _ => by simp; omega⟩
    · refine Channel.Combines.onFrame ch _ fun f => ?_
      split <;> rfl
  · split
    · exact Channel.Combines.onFrame ch _ fun _ => rfl
    · exact Channel.Combines.refl ch

theorem Channel.Combines.handOnInvalid (ch : Channel) (hasBuffer : Bool) (k : ContextId) (i n : Nat) :
    Channel.Combines ch (ch.handOnInvalid hasBuffer k i n) := by
  induction n generalizing ch i with
  | zero => exact Channel.Combines.refl ch
  | succ n ih => exact (Channel.Combines.handOn ch hasBuffer _).trans (ih _ _)

theorem Channel.Combines.gap (ch : Channel) (f : Frame) (k : Nat) : Channel.Combines ch (ch.gap f k) := by
  have marked (n : Nat) : Channel.Combines ch (ch.onFrame f.ctx fun x => { x with flags := { x.flags with gap := true }, lost := x.lost + n }) :=
    Channel.Combines.onFrame ch _ fun _ => rfl
  unfold Channel.gap
  dsimp only
  split
  · exact ((marked _).trans (Channel.Combines.handOnInvalid _ _ _ _ _)).trans (Channel.Combines.combiner _ _)
  · exact ((marked _).trans (Channel.Combines.handOnInvalid _ _ _ _ _)).trans (Channel.Combines.combiner _ _)

theorem Channel.Combines.takeRow (ch : Channel) (f : Frame) (k : Nat) (samples : List Sample) : Channel.Combines ch (ch.takeRow f k samples) := by
  have counted : Channel.Combines ch (ch.onFrame f.ctx fun x => { x with nextRow := k + 1 }) := Channel.Combines.onFrame ch _ fun _ => rfl
  unfold Channel.takeRow
  dsimp only
  split
  · exact (counted.trans (Channel.Combines.handOn _ _ _)).trans (Channel.Combines.combiner _ _)
  · exact counted.trans (Channel.Combines.combiner _ _)

theorem Channel.Combines.combine (ch : Channel) (f : Frame) (k : Nat) (samples : List Sample) : Channel.Combines ch (ch.combine f k samples) := by
  unfold Channel.combine
  split
  · exact (Channel.Combines.gap ch f k).trans (Channel.Combines.takeRow _ _ _ _)
  · exact Channel.Combines.takeRow _ _ _ _

theorem Channel.Combines.frames_length {a b : Channel} (h : Channel.Combines a b) : b.frames.length = a.frames.length := by
  simpa using congrArg List.length h.frames

/-! ## The bounds of a channel -/

@[simp] theorem openFirst_length (caps : List Capture) : (openFirst caps).length = caps.length := by
  induction caps with
  | nil => rfl
  | cons k rest ih =>
    unfold openFirst
    split <;> simp [ih]

theorem Channel.capturesLeft_length_le (ch : Channel) (f : Frame) (whole : Bool) : (ch.capturesLeft f whole).length ≤ ch.captures.length := by
  unfold Channel.capturesLeft
  split
  · exact Nat.le_refl _
  · exact Nat.le_trans (List.length_filter_le _ _) (Nat.le_of_eq (by rw [Channel.credited, List.length_map]))

theorem Channel.bounded_opening {ch : Channel} (h : ch.bounded) : ch.opening.bounded := by
  rw [Channel.opening_eq]
  obtain ⟨hframes, hrows, hcaps, hcounters⟩ := h
  refine ⟨hframes, hrows, ?_, hcounters⟩
  show List.length (if _ then _ else _) ≤ 4
  split
  · rw [openFirst_length]; exact hcaps
  · exact hcaps

theorem Channel.bounded_released {ch : Channel} (f : Frame) (whole : Bool) (h : ch.bounded) : (ch.released f whole).bounded := by
  obtain ⟨hframes, hrows, hcaps, hcounters⟩ := h
  exact ⟨(by rw [List.length_tail]; omega : ch.frames.tail.length ≤ 2), hrows, Nat.le_trans (ch.capturesLeft_length_le f whole) hcaps, hcounters⟩

theorem Channel.bounded_settled {ch : Channel} (writes : Bool) (h : ch.bounded) : (ch.settled writes).bounded := by
  refine Channel.settled_induct (P := Channel.bounded) ?_ ?_ ?_ ?_ ?_ writes h
  · rintro ch ⟨hframes, hrest⟩
    exact ⟨by simpa [Channel.givenUp] using hframes, hrest⟩
  · exact fun ch f _ _ _ h => Channel.bounded_released f false h
  · rintro ch f rest hf _ ⟨hframes, hrest⟩
    exact ⟨by simpa [Channel.withHead, hf] using hframes, hrest⟩
  · rintro ch e _ _ ⟨hframes, hrows, hcaps, hcounters⟩
    refine ⟨hframes, hrows, ?_, hcounters⟩
    exact Nat.le_trans (List.length_filter_le _ _) (by rw [List.length_map]; exact hcaps)
  · exact fun ch _ _ _ _ h => h

/-- A taken or untaken frame starts with captures as many as before. -/
theorem TakesFrame.captures_length {runs : Bool} {caps caps' : List Capture} {f f' : Frame} (h : TakesFrame runs caps f f' caps') :
    caps'.length = caps.length := by
  cases h with
  | untaken => rfl
  | dropped => simp [inFlightMore]
  | buffered =>
    unfold afterBuffer
    split <;> simp [inFlightMore]

theorem Link.countersKept.bounded {l m : Link} (h : l.countersKept m) (hmiss : l.endMiss ≤ 2) (hstray : l.stray ≤ 65535) :
    m.endMiss ≤ 2 ∧ m.stray ≤ 65535 :=
  ⟨h.1.elim (fun e => e ▸ hmiss) id, h.2.elim (fun e => e ▸ hstray) id⟩

theorem lostTo.le {l n : Nat} (h : lostTo l n) (hl : l ≤ 65535) : n ≤ 65535 := h.elim (fun e => e ▸ hl) id

theorem Channel.Move.bounded {halts : Bool} {a b : Channel} (m : Channel.Move halts a b) (h : a.bounded) : b.bounded := by
  have ⟨hframes, hrows, hcaps, hmiss, hlost, hback, hstray⟩ := h
  cases m with
  | lost n hn => exact ⟨hframes, hrows, hcaps, hmiss, lostTo.le hn hlost, hback, hstray⟩
  | cause => exact h
  | link l hl => exact ⟨hframes, hrows, hcaps, (hl.bounded hmiss hstray).1, hlost, hback, (hl.bounded hmiss hstray).2⟩
  | timer t ht => exact ⟨hframes, hrows, hcaps, hmiss, hlost, lostTo.le ht.2.2.2 hback, hstray⟩
  | atLatch => exact h
  | sets => exact h
  | latched => exact h
  | waits => exact h
  | periodEnds writes => exact Channel.bounded_settled writes h
  | frameStarts k f caps n hn _ hlen _ htake =>
    refine ⟨?_, hrows, Nat.le_trans (Nat.le_of_eq htake.captures_length) hcaps, ?_, lostTo.le hn hlost, hback, ?_⟩
    · show (a.frames ++ [f]).length ≤ 2
      rw [List.length_append, List.length_singleton]; omega
    · exact Nat.le_trans (Nat.le_of_eq (Link.send_endMiss a.link .mark)) hmiss
    · exact Nat.le_trans (Nat.le_of_eq (Link.send_stray a.link .mark)) hstray
  | backlogged k n hn _ _ =>
    exact ⟨hframes, hrows, hcaps, Nat.le_trans (Nat.le_of_eq (Link.send_endMiss a.link .mark)) hmiss, lostTo.le hn hlost, satAdd_le _,
      Nat.le_trans (Nat.le_of_eq (Link.send_stray a.link .mark)) hstray⟩
  | starts k g =>
    refine Channel.bounded_opening ⟨hframes, hrows, hcaps, ?_, Nat.zero_le _, Nat.zero_le _, ?_⟩
    · exact Nat.le_trans (Nat.le_of_eq (Link.send_endMiss _ _)) (Nat.zero_le _)
    · exact Nat.le_trans (Nat.le_of_eq (Link.send_stray _ _)) (Nat.zero_le _)
  | stops writes link hl =>
    refine Channel.bounded_settled writes ⟨hframes, hrows, ?_, (hl.bounded hmiss hstray).1, hlost, ?_, (hl.bounded hmiss hstray).2⟩
    · exact Nat.le_trans (List.length_filter_le _ _) (by rw [List.length_map]; exact hcaps)
    · show a.timer.stopped.backlog ≤ 65535
      unfold FrameTimer.stopped
      split <;> exact hback
  | aborts writes event link hl =>
    refine Channel.bounded_settled writes ⟨?_, ?_, hcaps, (hl.bounded hmiss hstray).1, hlost, hback, (hl.bounded hmiss hstray).2⟩
    · show (a.frames.map _).length ≤ 2
      rw [List.length_map]; exact hframes
    · show List.length (if a.rowWrite.isSome then a.rows.take 1 else []) ≤ 8
      split
      · rw [List.length_take]; omega
      · exact Nat.zero_le 8
  | goesOn writes => exact Channel.bounded_settled writes h
  | off => exact h
  | captures k hlen =>
    refine Channel.bounded_opening ⟨hframes, hrows, ?_, hmiss, hlost, hback, hstray⟩
    show (a.captures ++ [k]).length ≤ 4
    rw [List.length_append, List.length_singleton]; omega
  | cancels tag k =>
    have marked : (a.cancelled tag).bounded := ⟨hframes, hrows, Nat.le_trans (Nat.le_of_eq (List.length_map ..)) hcaps, hmiss, hlost, hback, hstray⟩
    refine Channel.bounded_opening ?_
    split
    · exact marked
    · obtain ⟨_, _, hfewer, _⟩ := marked
      exact ⟨hframes, hrows, Nat.le_trans (List.length_filter_le _ _) hfewer, hmiss, hlost, hback, hstray⟩
  | combines f k samples =>
    have combined := Channel.Combines.combine a f k samples
    rw [combined.rest]
    exact ⟨Nat.le_trans (Nat.le_of_eq combined.frames_length) hframes, combined.rows hrows, hcaps, hmiss, hlost, hback, hstray⟩
  | flushes writes f missed link timer _ hl _ _ htimer =>
    refine Channel.bounded_settled writes ⟨?_, hrows, hcaps, (hl.bounded hmiss hstray).1, hlost, Nat.le_trans (Nat.le_of_eq htimer) hback, (hl.bounded hmiss hstray).2⟩
    exact Nat.le_trans (Nat.le_of_eq (List.length_map ..)) hframes
  | rowHanded => exact h
  | headerHanded => exact h
  | rowMade writes =>
    refine Channel.bounded_settled writes ?_
    unfold Channel.rowWritten
    split
    · exact h
    · next r rest hr =>
      rw [hr, List.length_cons] at hrows
      have fewer : rest.length ≤ 8 := by omega
      dsimp only
      split
      · exact ⟨Nat.le_trans (Nat.le_of_eq (List.length_map ..)) hframes, fewer, hcaps, hmiss, hlost, hback, hstray⟩
      · exact ⟨hframes, fewer, hcaps, hmiss, hlost, hback, hstray⟩
  | headerMade writes whole f => exact Channel.bounded_settled writes (Channel.bounded_released f whole h)

/-- What every move keeps, every chain of moves keeps. -/
theorem Channel.Moves.keep {halts : Bool} {P : Channel → Prop} (move : ∀ {a b}, Channel.Move halts a b → P a → P b) {a b : Channel} (m : Channel.Moves halts a b) (h : P a) : P b := by
  induction m with
  | refl => exact h
  | tail _ hmove ih => exact move hmove ih

/-! ## The pools -/

/-- No pool of `t` holds more descriptors than that pool of `s`. -/
def State.poolsShrink (s t : State) : Prop :=
  ∀ p : PoolId, (t.pools.get p).length ≤ (s.pools.get p).length

theorem State.poolsShrink_of_eq {s t : State} (h : t.pools = s.pools) : s.poolsShrink t := fun p => Nat.le_of_eq (by rw [h])

theorem State.poolsShrink.trans {s t u : State} (h : s.poolsShrink t) (k : t.poolsShrink u) : s.poolsShrink u := fun p => Nat.le_trans (k p) (h p)

/-- A pool without its oldest descriptor. -/
theorem Four.length_modify_rest {v : Four (List Descriptor)} {pool : PoolId} {d : Descriptor} {rest : List Descriptor} (h : v.get pool = d :: rest)
    (p : PoolId) : ((v.modify pool fun _ => rest).get p).length ≤ (v.get p).length := by
  by_cases hp : p = pool
  · rw [hp, Four.get_modify_same, h, List.length_cons]; omega
  · exact Nat.le_of_eq (by rw [Four.get_modify_ne _ _ hp])

theorem State.poolsShrink_bufferTake (s : State) (c : ChannelId) (k : Capture) (f : Frame) : s.poolsShrink (s.bufferTake c k f).1 := by
  unfold State.bufferTake
  split
  · exact State.poolsShrink_of_eq rfl
  · next d rest h =>
    dsimp only
    split
    · exact Four.length_modify_rest h
    · exact Four.length_modify_rest h

theorem State.poolsShrink_assign (s : State) (c : ChannelId) (f : Frame) : s.poolsShrink (s.assign c f).1 := by
  have counted (g : Channel → Channel) : s.poolsShrink ((s.reserve 1).upd c g) := State.poolsShrink_of_eq rfl
  unfold State.assign
  dsimp only
  split
  · exact State.poolsShrink_of_eq rfl
  · split
    · split
      · split
        · exact counted _
        · exact (counted _).trans (State.poolsShrink_bufferTake _ c _ _)
      · exact State.poolsShrink_of_eq rfl
    · exact State.poolsShrink_of_eq rfl

theorem State.poolsShrink_takeFrame (s : State) (c : ChannelId) (f : Frame) : s.poolsShrink (s.takeFrame c f) :=
  State.poolsShrink_assign s c f

theorem State.poolsShrink_offer (s : State) (c : ChannelId) (r : Completion) : s.poolsShrink (s.offer c r) :=
  State.poolsShrink_of_eq (Settles.offer c s r).pools

theorem State.poolsShrink_frameStart (s : State) (c : ChannelId) : s.poolsShrink (s.frameStart c) := by
  unfold State.frameStart
  split
  · exact State.poolsShrink_of_eq rfl
  · dsimp only
    generalize hv : (s.upd c _).send c .mark = v
    have begun : v.pools = s.pools := by rw [← hv]; rfl
    refine (State.poolsShrink_of_eq begun).trans ?_
    have drawn : v.poolsShrink v.drawn := State.poolsShrink_of_eq rfl
    split
    · split
      · split
        · split
          · exact drawn.trans ((State.poolsShrink_offer _ c _).trans (State.poolsShrink_takeFrame _ c _))
          · exact drawn.trans ((State.poolsShrink_takeFrame _ c _).trans (State.poolsShrink_offer _ c _))
        · exact (State.poolsShrink_offer _ c _).trans (State.poolsShrink_takeFrame _ c _)
      · exact State.poolsShrink_takeFrame _ c _
    · split
      · exact State.poolsShrink_offer _ c _
      · exact State.poolsShrink_of_eq rfl

section
variable {s t u : State} {c : ChannelId}

theorem State.poolsShrink_of_next (h : Host.Outcome.next u = (.next t : Host.Outcome State Fault Refusal)) (k : s.poolsShrink u) : s.poolsShrink t := by
  cases h
  exact k

theorem execTrigger_poolsShrink (h : execTrigger c s = .next t) : s.poolsShrink t := by
  unfold execTrigger at h
  split at h
  · exact State.poolsShrink_of_next h (State.poolsShrink_of_eq rfl)
  · refine State.poolsShrink_of_next h ?_
    unfold State.triggerTaken
    dsimp only
    split
    · split
      · exact State.poolsShrink_frameStart _ c
      · split
        · exact State.poolsShrink_offer _ c _
        · exact State.poolsShrink_of_eq rfl
      · exact State.poolsShrink_of_eq rfl
    · exact State.poolsShrink_of_eq rfl

theorem execPeriodEnd_poolsShrink (h : execPeriodEnd c s = .next t) : s.poolsShrink t := by
  unfold execPeriodEnd at h
  split at h
  · refine State.poolsShrink_of_next h ?_
    unfold State.periodEnd
    dsimp only
    split
    · split
      · exact State.poolsShrink_frameStart s c
      · exact State.poolsShrink_of_eq rfl
      · exact State.poolsShrink_of_eq rfl
    · exact State.poolsShrink_of_eq (Settles.settle c _).pools
  · exact State.poolsShrink_of_next h (State.poolsShrink_of_eq rfl)

theorem State.finishCommand_pools (s : State) (code : ResultCode) (gen : Option Gen) : (s.finishCommand code gen).pools = s.pools :=
  (Keeps.finishCommand (x := []) s code gen).pools List.not_mem_nil

theorem State.poolsShrink_reclaimClaim (s : State) (pool : PoolId) : s.poolsShrink (s.reclaimClaim pool) := by
  unfold State.reclaimClaim
  split
  · exact State.poolsShrink_of_eq (State.finishCommand_pools s _ _)
  · next d rest h =>
    intro p
    rw [(Keeps.handSpends (x := []) _).pools List.not_mem_nil]
    exact Four.length_modify_rest h p

theorem execReclaim_poolsShrink (h : execReclaim s = .next t) : s.poolsShrink t := by
  unfold execReclaim at h
  split at h
  · refine State.poolsShrink_of_next h ?_
    unfold State.reclaimStep
    split
    · exact State.poolsShrink_reclaimClaim s _
    · split
      · exact State.poolsShrink_of_eq (State.finishCommand_pools s _ _)
      · split
        · exact (State.poolsShrink_of_eq ((Keeps.handReserve (x := []) s).pools List.not_mem_nil)).trans (State.poolsShrink_reclaimClaim _ _)
        · exact State.poolsShrink_of_eq ((Keeps.waitCredit (x := []) s).pools List.not_mem_nil)
  · exact State.poolsShrink_of_next h (State.poolsShrink_of_eq rfl)

/-- R115: POST_BUFFERS looks for room before it appends. -/
theorem execPostBuffers_pools (h : execPostBuffers s = .next t) (hs : ∀ p : PoolId, (s.pools.get p).length ≤ 64) (p : PoolId) :
    (t.pools.get p).length ≤ 64 := by
  have kept (code : ResultCode) (k : Host.Outcome.next (s.finishCommand code none) = (.next t : Host.Outcome State Fault Refusal)) :
      (t.pools.get p).length ≤ 64 := by
    cases k; rw [State.finishCommand_pools]; exact hs p
  unfold execPostBuffers at h
  split at h
  · next pool descs _ =>
    unfold State.postCommand at h
    split at h
    · split at h
      · next hroom =>
        cases h
        rw [State.finishCommand_pools]
        show ((s.pools.modify pool fun ds => ds ++ descs).get p).length ≤ 64
        by_cases hp : p = pool
        · rw [hp, Four.get_modify_same, List.length_append]; exact hroom
        · rw [Four.get_modify_ne _ _ hp]; exact hs p
      · exact kept _ h
    · exact kept _ h
  · cases h; exact hs p

/-- R114: no command fills a pool beyond 64 descriptors. -/
theorem exec_pools {i : Instr} (hpower : i ≠ .powerOn) (hreset : ∀ cause, i ≠ .functionReset cause) (h : exec i s = .next t)
    (hs : ∀ p : PoolId, (s.pools.get p).length ≤ 64) (p : PoolId) : (t.pools.get p).length ≤ 64 := by
  have kept (hpost : i ≠ .postBuffers) (hreclaim : i ≠ .reclaim) (htrigger : ∀ c, i ≠ .trigger c) (hperiod : ∀ c, i ≠ .periodEnd c) :
      (t.pools.get p).length ≤ 64 := by
    rw [(exec_keeps hpower hreset h).pools (pools_notMem_ownParts hpost hreclaim htrigger hperiod)]
    exact hs p
  by_cases hpost : i = .postBuffers
  · subst hpost; exact execPostBuffers_pools h hs p
  by_cases hreclaim : i = .reclaim
  · subst hreclaim; exact Nat.le_trans (execReclaim_poolsShrink h p) (hs p)
  by_cases htrigger : ∃ c, i = .trigger c
  · obtain ⟨c, rfl⟩ := htrigger; exact Nat.le_trans (execTrigger_poolsShrink h p) (hs p)
  by_cases hperiod : ∃ c, i = .periodEnd c
  · obtain ⟨c, rfl⟩ := hperiod; exact Nat.le_trans (execPeriodEnd_poolsShrink h p) (hs p)
  exact kept hpost hreclaim (fun c e => htrigger ⟨c, e⟩) fun c e => hperiod ⟨c, e⟩

/-! ## Host memory -/

theorem State.land_mem_wf (w : BusWrite) (error : Bool) (h : s.mem.wf) : (s.land w error).mem.wf := by
  unfold State.land
  split
  · exact Memory.writeErrored_wf _ _ _ _ _ h
  · exact Memory.writeBytes_wf _ _ _ h

theorem State.landAbandoned_mem_wf (k : WriteClaim) (error : Bool) (h : s.mem.wf) : (s.landAbandoned k error).mem.wf := by
  unfold State.landAbandoned
  split
  · exact h
  · exact State.land_mem_wf (s := { s with port := _ }) _ _ h

/-- What stands behind a made write is not host memory's. -/
theorem Keeps.mem_wf {x : List Part} (k : Keeps x s t) (hx : .mem ∉ x) (h : s.mem.wf) : t.mem.wf := by rw [k.mem hx]; exact h

theorem execRowWrite_mem_wf {issue : Issue} {error : Bool} (h : execRowWrite c issue error s = .next t) (hs : s.mem.wf) : t.mem.wf := by
  unfold execRowWrite at h
  split at h
  · cases h; exact State.landAbandoned_mem_wf _ _ hs
  · dsimp only at h
    split at h
    · cases h; exact hs
    · next w _ =>
      cases h
      have handed : (s.handRow c).mem.wf := by rw [(Settles.handRow c s).mem]; exact hs
      refine (Keeps.finishWaitingStop (x := []) _).mem_wf List.not_mem_nil ?_
      rw [(Settles.settle c _).mem]
      exact State.land_mem_wf w error handed

theorem execHeaderWrite_mem_wf {issue : Issue} {error : Bool} (h : execHeaderWrite c issue error s = .next t) (hs : s.mem.wf) : t.mem.wf := by
  unfold execHeaderWrite at h
  split at h
  · cases h; exact State.landAbandoned_mem_wf _ _ hs
  · dsimp only at h
    have handed : (s.handHeader c).mem.wf := by rw [(Settles.handHeader c s).mem]; exact hs
    split at h
    · next w _ _ _ _ =>
      split at h
      · cases h
        refine (Keeps.finishWaitingStop (x := []) _).mem_wf List.not_mem_nil ?_
        rw [(Settles.settle c _).mem, (Settles.release c _ _ _).mem]
        exact State.land_mem_wf w error handed
      · cases h; exact hs
      · cases h; exact hs
    · cases h; exact hs

theorem execCompletionWrite_mem_wf {issue : Issue} {error : Bool} (h : execCompletionWrite issue error s = .next t) (hs : s.mem.wf) : t.mem.wf := by
  unfold execCompletionWrite at h
  split at h
  · cases h; exact State.landAbandoned_mem_wf _ _ hs
  · dsimp only at h
    split at h
    · cases h; exact hs
    · next w _ =>
      cases h
      have handed : s.handRecord.mem.wf := (Keeps.handRecord (x := []) s).mem_wf List.not_mem_nil hs
      refine (Keeps.askCredits (x := []) _).mem_wf List.not_mem_nil ((Keeps.announce (x := []) _).mem_wf List.not_mem_nil ?_)
      exact State.land_mem_wf w error handed

/-- Every command keeps the canonical form of host memory. -/
theorem exec_mem_wf {i : Instr} (h : exec i s = .next t) (hs : s.mem.wf) : t.mem.wf := by
  by_cases hrecord : ∃ issue error, i = .completionWrite issue error
  · obtain ⟨issue, error, rfl⟩ := hrecord; exact execCompletionWrite_mem_wf h hs
  by_cases hrow : ∃ c issue error, i = .rowWrite c issue error
  · obtain ⟨c, issue, error, rfl⟩ := hrow; exact execRowWrite_mem_wf h hs
  by_cases hheader : ∃ c issue error, i = .headerWrite c issue error
  · obtain ⟨c, issue, error, rfl⟩ := hheader; exact execHeaderWrite_mem_wf h hs
  rw [(onlyTheirCommandsChangeThem s t i h).1 (fun issue error e => hrecord ⟨issue, error, e⟩) (fun c issue error e => hrow ⟨c, issue, error, e⟩)
    fun c issue error e => hheader ⟨c, issue, error, e⟩]
  exact hs

end

/-! ## The step -/

/-- What every move keeps and every reset value satisfies, a step keeps of each channel. -/
theorem step_channels {halts : Bool} {P : Channel → Prop} (move : ∀ {a b}, Channel.Move halts a b → P a → P b)
    (reset : ∀ ch f, f = Link.powerOn ∨ f = Link.functionReset → P (Channel.resetWith ch (f ch.link)))
    {s t : State} (hh : t.regs.iface = .halted → halts = true) (hs : ∀ c : ChannelId, P (s.ch c)) (h : step s = .next t) (c : ChannelId) : P (t.ch c) := by
  obtain m | ⟨f, hf, rest, p, rfl⟩ := step_channel_cases hh h
  · exact (m c).keep move (hs c)
  · show P ((Four.map _ _).get c)
    rw [Four.get_map]
    exact reset _ f hf

/-- A channel at its reset values is within its bounds. -/
theorem Channel.bounded_resetWith (ch : Channel) (f : Link → Link) (hf : f = Link.powerOn ∨ f = Link.functionReset) :
    (ch.resetWith (f ch.link)).bounded := by
  have counters : (f ch.link).endMiss = 0 ∧ (f ch.link).stray = 0 := by
    obtain rfl | rfl := hf
    · exact ⟨rfl, rfl⟩
    · exact ⟨Link.send_endMiss _ _, Link.send_stray _ _⟩
  exact ⟨Nat.zero_le _, Nat.zero_le _, Nat.zero_le _, Nat.le_trans (Nat.le_of_eq counters.1) (Nat.zero_le _), Nat.zero_le _, Nat.zero_le _,
    Nat.le_trans (Nat.le_of_eq counters.2) (Nat.zero_le _)⟩

theorem step_pools {s t : State} (hs : ∀ p : PoolId, (s.pools.get p).length ≤ 64) (h : step s = .next t) (p : PoolId) : (t.pools.get p).length ≤ 64 := by
  unfold step at h
  split at h
  · cases h; exact hs p
  · next i rest _ =>
    by_cases hpower : i = .powerOn
    · subst hpower; cases h; exact Nat.le_trans (Nat.le_of_eq (congrArg List.length (Four.get_same [] p))) (Nat.zero_le _)
    · by_cases hreset : ∃ cause, i = .functionReset cause
      · obtain ⟨cause, rfl⟩ := hreset; cases h; exact Nat.le_trans (Nat.le_of_eq (congrArg List.length (Four.get_same [] p))) (Nat.zero_le _)
      · exact exec_pools hpower (fun cause e => hreset ⟨cause, e⟩) h hs p

theorem step_mem_wf {s t : State} (hs : s.mem.wf) (h : step s = .next t) : t.mem.wf := by
  unfold step at h
  split at h
  · cases h; exact hs
  · next i rest _ => exact exec_mem_wf (s := s.withPending rest) h hs

/-- Settles O56: every move of a channel keeps its bounds, no command fills a pool beyond 64, and the writes keep host memory's form. -/
theorem everyStepKeepsTheBounds : Obligations.EveryStepKeepsTheBounds :=
  fun _ _ ⟨hchannels, hpools⟩ hmem h =>
    ⟨⟨step_channels (halts := true) (fun m => m.bounded) Channel.bounded_resetWith (fun _ => rfl) hchannels h, step_pools hpools h⟩, step_mem_wf hmem h⟩

end Sys2Proof.Machine
end

section
/-! The capture queues stay sound over every step (R97, R98, R100, R102, R105). -/

namespace Sys2Proof.Machine

/-! ## A sound queue, in two halves -/

/-- The states of the captures of a queue that are not DRAINING, oldest first. -/
def standingStates (caps : List Capture) : List CaptureState :=
  (caps.map Capture.state).filter fun st => st != .draining

/-- R98: in a channel that runs the first standing capture is OPEN and the others QUEUED; in another none is OPEN. -/
structure OpensFirst (runs : Bool) (states : List CaptureState) : Prop where
  first : runs = true → (∀ st ∈ states.head?, st = .opened) ∧ ∀ st ∈ states.tail, st = .queued
  none_open : runs = false → CaptureState.opened ∉ states

/-- R97, R105: unique tags; a DRAINING capture has a reason and a frame in flight; the frames in use carry the tags `tags`, and each capture counts its own. -/
structure CountsFlight (caps : List Capture) (tags : List (Option Tag)) : Prop where
  unique : (caps.map Capture.tag).Nodup
  draining : ∀ k ∈ caps, k.state = .draining → k.reason.isSome = true ∧ k.inFlight ≠ 0
  flight : ∀ k ∈ caps, k.inFlight = tags.count (some k.tag)
  carried : ∀ t, some t ∈ tags → ∃ k ∈ caps, k.tag = t

theorem standingStates_eq (ch : Channel) : standingStates ch.captures = ch.standingCaptures.map Capture.state := by
  unfold standingStates Channel.standingCaptures
  rw [List.filter_map]
  rfl

theorem mem_standingStates_opened {caps : List Capture} : CaptureState.opened ∈ standingStates caps ↔ ∃ k ∈ caps, k.state = .opened := by
  simp [standingStates]

theorem Channel.queueSound_iff (ch : Channel) :
    ch.queueSound ↔ OpensFirst ch.state.runs (standingStates ch.captures) ∧ CountsFlight ch.captures (ch.frames.map Frame.tag) := by
  have count (t : Tag) : (ch.frames.filter fun f => f.tag == some t).length = (ch.frames.map Frame.tag).count (some t) := by
    rw [List.count, List.countP_map, List.countP_eq_length_filter]
    rfl
  have unique : (ch.captures.Pairwise fun j k => j.tag ≠ k.tag) ↔ (ch.captures.map Capture.tag).Nodup := List.pairwise_map.symm
  constructor
  · rintro ⟨htags, hruns, hstops, hdrain, hflight, hcarried⟩
    refine ⟨⟨fun h => ?_, fun h => ?_⟩, unique.mp htags, hdrain, fun k hk => (hflight k hk).trans (count _), ?_⟩
    · obtain ⟨hhead, htail⟩ := hruns h
      rw [standingStates_eq, List.head?_map, ← List.map_tail]
      exact ⟨by simpa using hhead, List.forall_mem_map.mpr htail⟩
    · rw [mem_standingStates_opened]
      rintro ⟨k, hk, hopen⟩
      exact hstops h k hk hopen
    · intro t ht
      obtain ⟨f, hf, hft⟩ := List.mem_map.mp ht
      exact hcarried f hf t hft
  · rintro ⟨⟨hruns, hstops⟩, htags, hdrain, hflight, hcarried⟩
    refine ⟨unique.mpr htags, fun h => ?_, fun h k hk hopen => hstops h (mem_standingStates_opened.mpr ⟨k, hk, hopen⟩), hdrain,
      fun k hk => (hflight k hk).trans (count _).symm, fun f hf t ht => hcarried t (List.mem_map.mpr ⟨f, hf, ht⟩)⟩
    obtain ⟨hhead, htail⟩ := hruns h
    rw [standingStates_eq, List.head?_map] at hhead
    rw [standingStates_eq, ← List.map_tail] at htail
    exact ⟨by simpa using hhead, List.forall_mem_map.mp htail⟩

/-! ## Changes of single captures -/

/-- The captures changed by `g`, and those that `p` does not keep gone. -/
theorem CountsFlight.mapFilter {caps : List Capture} {tags tags' : List (Option Tag)} (h : CountsFlight caps tags) {g : Capture → Capture}
    {p : Capture → Bool} (htag : ∀ k, (g k).tag = k.tag) (hflight : ∀ k ∈ caps, (g k).inFlight = tags'.count (some k.tag))
    (hdrain : ∀ k ∈ caps, p (g k) = true → (g k).state = .draining → (g k).reason.isSome = true ∧ (g k).inFlight ≠ 0)
    (hcarried : ∀ t, some t ∈ tags' → ∃ k ∈ caps, k.tag = t ∧ p (g k) = true) : CountsFlight ((caps.map g).filter p) tags' where
  unique := by
    have kept : (caps.map g).map Capture.tag = caps.map Capture.tag := by
      rw [List.map_map]; exact List.map_congr_left fun k _ => htag k
    exact (kept ▸ h.unique).sublist (List.filter_sublist.map _)
  draining := by
    intro k hk
    obtain ⟨hmem, hp⟩ := List.mem_filter.mp hk
    obtain ⟨j, hj, rfl⟩ := List.mem_map.mp hmem
    exact hdrain j hj hp
  flight := by
    intro k hk
    obtain ⟨hmem, _⟩ := List.mem_filter.mp hk
    obtain ⟨j, hj, rfl⟩ := List.mem_map.mp hmem
    rw [htag]; exact hflight j hj
  carried := by
    intro t ht
    obtain ⟨k, hk, hkt, hp⟩ := hcarried t ht
    exact ⟨g k, List.mem_filter.mpr ⟨List.mem_map_of_mem hk, hp⟩, (htag k).trans hkt⟩

/-- The captures changed by `g`, all of them kept. -/
theorem CountsFlight.map {caps : List Capture} {tags tags' : List (Option Tag)} (h : CountsFlight caps tags) {g : Capture → Capture}
    (htag : ∀ k, (g k).tag = k.tag) (hflight : ∀ k ∈ caps, (g k).inFlight = tags'.count (some k.tag))
    (hdrain : ∀ k ∈ caps, (g k).state = .draining → (g k).reason.isSome = true ∧ (g k).inFlight ≠ 0)
    (hcarried : ∀ t, some t ∈ tags' → ∃ k ∈ caps, k.tag = t) : CountsFlight (caps.map g) tags' := by
  have kept := h.mapFilter (tags' := tags') (p := fun _ => true) htag hflight (fun k hk _ => hdrain k hk)
    fun t ht => (hcarried t ht).imp fun k hk => ⟨hk.1, hk.2, rfl⟩
  rwa [List.filter_eq_self.mpr fun _ _ => rfl] at kept

/-- A change that keeps the states keeps the standing captures, whatever DRAINING ones it closes. -/
theorem standingStates_mapFilter (caps : List Capture) {g : Capture → Capture} {p : Capture → Bool} (hstate : ∀ k, (g k).state = k.state)
    (hp : ∀ k, (g k).state ≠ .draining → p (g k) = true) : standingStates ((caps.map g).filter p) = standingStates caps := by
  induction caps with
  | nil => rfl
  | cons k rest ih =>
    unfold standingStates at ih ⊢
    by_cases hk : (g k).state = .draining
    · have hk' := (hstate k).symm.trans hk
      cases hpk : p (g k) <;> simp [hpk, hk, hk', ih]
    · have hk' : k.state ≠ .draining := fun e => hk ((hstate k).trans e)
      simp [hp k hk, hstate, hk', ih]

theorem standingStates_map (caps : List Capture) {g : Capture → Capture} (hstate : ∀ k, (g k).state = k.state) :
    standingStates (caps.map g) = standingStates caps := by
  have kept := standingStates_mapFilter caps (p := fun _ => true) hstate fun _ _ => rfl
  rwa [List.filter_eq_self.mpr fun _ _ => rfl] at kept

/-- Tags are unique: a capture in the queue is known by its tag. -/
theorem CountsFlight.eq_of_tag {caps : List Capture} {tags : List (Option Tag)} (h : CountsFlight caps tags) {j k : Capture} (hj : j ∈ caps)
    (hk : k ∈ caps) (he : j.tag = k.tag) : j = k :=
  eq_of_nodup_map h.unique hj hk he

/-! ## The release of a frame (R105) -/

@[simp] theorem Capture.posted_tag (k : Capture) (tag : Tag) (whole : Bool) : (k.posted tag whole).tag = k.tag := by
  unfold Capture.posted; split <;> rfl

@[simp] theorem Capture.posted_state (k : Capture) (tag : Tag) (whole : Bool) : (k.posted tag whole).state = k.state := by
  unfold Capture.posted; split <;> rfl

@[simp] theorem Capture.posted_reason (k : Capture) (tag : Tag) (whole : Bool) : (k.posted tag whole).reason = k.reason := by
  unfold Capture.posted; split <;> rfl

theorem Capture.posted_inFlight (k : Capture) (tag : Tag) (whole : Bool) :
    (k.posted tag whole).inFlight = if k.tag = tag then k.inFlight - 1 else k.inFlight := by
  unfold Capture.posted; split <;> rfl

theorem Capture.closesWith_iff {tag : Tag} {k : Capture} : k.closesWith tag = true ↔ k.tag = tag ∧ k.state = .draining ∧ k.inFlight = 0 := by
  simp [Capture.closesWith, Capture.drained]

theorem CountsFlight.released {caps : List Capture} {tag : Tag} {tags : List (Option Tag)} (h : CountsFlight caps (some tag :: tags)) (whole : Bool) :
    CountsFlight ((caps.map fun k => k.posted tag whole).filter fun k => !k.closesWith tag) tags := by
  have flight (k : Capture) (hk : k ∈ caps) : (k.posted tag whole).inFlight = tags.count (some k.tag) := by
    have before := h.flight k hk
    rw [Capture.posted_inFlight]
    split
    · next htag =>
      rw [htag, List.count_cons_self] at before
      rw [htag]; omega
    · next htag =>
      rwa [List.count_cons_of_ne (fun e => htag (Option.some.inj e).symm)] at before
  refine h.mapFilter (fun k => k.posted_tag tag whole) flight (fun k hk hp hdraining => ?_) fun t ht => ?_
  · rw [Capture.posted_state] at hdraining
    obtain ⟨hreason, hflight⟩ := h.draining k hk hdraining
    refine ⟨(congrArg _ (k.posted_reason tag whole)).trans hreason, fun hzero => ?_⟩
    rw [Capture.posted_inFlight] at hzero
    split at hzero
    · next htag =>
      have closes : (k.posted tag whole).closesWith tag = true :=
        Capture.closesWith_iff.mpr ⟨(k.posted_tag tag whole).trans htag, (k.posted_state tag whole).trans hdraining,
          by rw [Capture.posted_inFlight, if_pos htag]; exact hzero⟩
      rw [closes] at hp; cases hp
    · exact hflight hzero
  · obtain ⟨k, hk, hkt⟩ := h.carried t (List.mem_cons_of_mem _ ht)
    refine ⟨k, hk, hkt, ?_⟩
    rw [Bool.not_eq_true', ← Bool.not_eq_true, Capture.closesWith_iff]
    rintro ⟨_, _, hzero⟩
    rw [flight k hk, hkt] at hzero
    exact (Nat.ne_of_gt (List.count_pos_iff.mpr ht)) hzero

theorem standingStates_released (caps : List Capture) (tag : Tag) (whole : Bool) :
    standingStates ((caps.map fun k => k.posted tag whole).filter fun k => !k.closesWith tag) = standingStates caps := by
  refine standingStates_mapFilter caps (fun k => k.posted_state tag whole) fun k hk => ?_
  rw [Bool.not_eq_true', ← Bool.not_eq_true, Capture.closesWith_iff]
  exact fun h => hk h.2.1

theorem CountsFlight.capturesLeft {ch : Channel} {f : Frame} {rest : List Frame} (whole : Bool) (hf : ch.frames = f :: rest)
    (h : CountsFlight ch.captures (ch.frames.map Frame.tag)) : CountsFlight (ch.capturesLeft f whole) (rest.map Frame.tag) := by
  rw [hf, List.map_cons] at h
  unfold Channel.capturesLeft
  cases ht : f.tag with
  | none =>
    rw [ht] at h
    exact ⟨h.unique, h.draining, fun k hk => (h.flight k hk).trans (List.count_cons_of_ne (by simp)),
      fun t hmem => h.carried t (List.mem_cons_of_mem _ hmem)⟩
  | some tag =>
    rw [ht] at h
    exact h.released whole

theorem standingStates_capturesLeft (ch : Channel) (f : Frame) (whole : Bool) : standingStates (ch.capturesLeft f whole) = standingStates ch.captures := by
  unfold Channel.capturesLeft
  cases f.tag with
  | none => rfl
  | some tag => exact standingStates_released _ _ _

/-! ## The end of a run (R111, R112) -/

/-- Every capture DRAINING, and those with no frame in flight gone. -/
def drainedOf (caps : List Capture) (r : CloseReason) : List Capture :=
  (caps.map fun k => k.drain r).filter fun k => !k.drained

@[simp] theorem Capture.drain_tag (k : Capture) (r : CloseReason) : (k.drain r).tag = k.tag := by
  unfold Capture.drain; split <;> rfl

@[simp] theorem Capture.drain_inFlight (k : Capture) (r : CloseReason) : (k.drain r).inFlight = k.inFlight := by
  unfold Capture.drain; split <;> rfl

@[simp] theorem Capture.drain_state (k : Capture) (r : CloseReason) : (k.drain r).state = .draining := by
  unfold Capture.drain
  split
  · assumption
  · rfl

theorem Capture.drained_drain (k : Capture) (r : CloseReason) : (k.drain r).drained = (k.inFlight == 0) := by
  simp [Capture.drained]

theorem CountsFlight.drain_reason {caps : List Capture} {tags : List (Option Tag)} (h : CountsFlight caps tags) {k : Capture} (hk : k ∈ caps)
    (r : CloseReason) : (k.drain r).reason.isSome = true := by
  unfold Capture.drain
  split
  · next hd => exact (h.draining k hk hd).1
  · rfl

theorem CountsFlight.drained {caps : List Capture} {tags : List (Option Tag)} (h : CountsFlight caps tags) (r : CloseReason) :
    CountsFlight (drainedOf caps r) tags := by
  refine h.mapFilter (fun k => k.drain_tag r) (fun k hk => (k.drain_inFlight r).trans (h.flight k hk)) (fun k hk hp _ => ?_) fun t ht => ?_
  · rw [Capture.drained_drain, Bool.not_eq_true', beq_eq_false_iff_ne] at hp
    exact ⟨h.drain_reason hk r, by rw [Capture.drain_inFlight]; exact hp⟩
  · obtain ⟨k, hk, hkt⟩ := h.carried t ht
    refine ⟨k, hk, hkt, ?_⟩
    rw [Capture.drained_drain, Bool.not_eq_true', beq_eq_false_iff_ne, h.flight k hk, hkt]
    exact (Nat.ne_of_gt (List.count_pos_iff.mpr ht))

theorem standingStates_drainedOf (caps : List Capture) (r : CloseReason) : standingStates (drainedOf caps r) = [] := by
  unfold standingStates drainedOf
  rw [List.filter_eq_nil_iff]
  intro st hst
  obtain ⟨k, hk, rfl⟩ := List.mem_map.mp hst
  obtain ⟨j, _, rfl⟩ := List.mem_map.mp (List.mem_filter.mp hk).1
  simp

theorem OpensFirst.nil (runs : Bool) : OpensFirst runs [] :=
  ⟨fun _ => ⟨fun _ h => by simp at h, fun _ h => by simp at h⟩, fun _ => List.not_mem_nil⟩

/-! ## The first standing capture opens (R98, R100) -/

@[simp] theorem openFirst_map_tag (caps : List Capture) : (openFirst caps).map Capture.tag = caps.map Capture.tag := by
  induction caps with
  | nil => rfl
  | cons k rest ih =>
    unfold openFirst
    split <;> simp [ih]

/-- Opening changes the state of a capture that is not DRAINING, and nothing else. -/
theorem mem_openFirst {caps : List Capture} {k : Capture} (h : k ∈ openFirst caps) :
    k ∈ caps ∨ ∃ j ∈ caps, k = { j with state := .opened } := by
  induction caps with
  | nil => exact .inl h
  | cons j rest ih =>
    unfold openFirst at h
    split at h
    · obtain rfl | h := List.mem_cons.mp h
      · exact .inl List.mem_cons_self
      · obtain h | ⟨i, hi, rfl⟩ := ih h
        · exact .inl (List.mem_cons_of_mem _ h)
        · exact .inr ⟨i, List.mem_cons_of_mem _ hi, rfl⟩
    · obtain rfl | h := List.mem_cons.mp h
      · exact .inr ⟨j, List.mem_cons_self, rfl⟩
      · exact .inl (List.mem_cons_of_mem _ h)
    · exact .inl h

theorem CountsFlight.opened {caps : List Capture} {tags : List (Option Tag)} (h : CountsFlight caps tags) :
    CountsFlight (openFirst caps) tags where
  unique := by rw [openFirst_map_tag]; exact h.unique
  draining := by
    intro k hk hd
    obtain hmem | ⟨j, _, rfl⟩ := mem_openFirst hk
    · exact h.draining k hmem hd
    · cases hd
  flight := by
    intro k hk
    obtain hmem | ⟨j, hj, rfl⟩ := mem_openFirst hk
    · exact h.flight k hmem
    · exact h.flight j hj
  carried := by
    intro t ht
    have tagged : t ∈ (openFirst caps).map Capture.tag := by
      rw [openFirst_map_tag]
      obtain ⟨k, hk, hkt⟩ := h.carried t ht
      exact List.mem_map.mpr ⟨k, hk, hkt⟩
    exact List.mem_map.mp tagged

theorem standingStates_openFirst (caps : List Capture) :
    standingStates (openFirst caps) = if standingStates caps = [] then [] else .opened :: (standingStates caps).tail := by
  induction caps with
  | nil => rfl
  | cons k rest ih =>
    unfold openFirst
    split
    · next hk =>
      have skip (l : List Capture) : standingStates (k :: l) = standingStates l := by simp [standingStates, hk]
      rw [skip, skip]; exact ih
    · next hk => simp [standingStates, hk]
    · next hk => simp [standingStates, hk]

/-- A queue whose standing captures are QUEUED behind the first is sound once the first has opened. -/
theorem OpensFirst.opened {caps : List Capture} (h : ∀ st ∈ (standingStates caps).tail, st = .queued) :
    OpensFirst true (standingStates (openFirst caps)) := by
  rw [standingStates_openFirst]
  split
  · exact OpensFirst.nil true
  · refine ⟨fun _ => ⟨fun st hst => ?_, h⟩, fun e => by cases e⟩
    simpa using hst.symm

/-- What opening a channel's first standing capture makes sound. -/
theorem Channel.queueSound_opening {ch : Channel} (hopen : ch.state.runs = false → CaptureState.opened ∉ standingStates ch.captures)
    (hqueued : ch.state.runs = true → ∀ st ∈ (standingStates ch.captures).tail, st = .queued)
    (h : CountsFlight ch.captures (ch.frames.map Frame.tag)) : ch.opening.queueSound := by
  rw [Channel.queueSound_iff, Channel.opening_eq]
  cases hr : ch.state.runs with
  | true => exact ⟨OpensFirst.opened (hqueued hr), h.opened⟩
  | false => exact ⟨⟨fun e => (by cases e), fun _ => hopen hr⟩, h⟩

/-! ## A frame start (R101 to R104) -/

theorem CountsFlight.inFlightMore {caps : List Capture} {tags : List (Option Tag)} (h : CountsFlight caps tags) {q : Capture} (hq : q ∈ caps) :
    CountsFlight (inFlightMore q.tag caps) (tags ++ [some q.tag]) := by
  have tagKept (k : Capture) : (if k.tag = q.tag then { k with inFlight := k.inFlight + 1 } else k).tag = k.tag := by split <;> rfl
  refine h.map tagKept (fun k hk => ?_) (fun k hk hd => ?_) fun t ht => ?_
  · rw [List.count_append, List.count_singleton, ← h.flight k hk]
    split
    · next he => simp [he]
    · next he => simp [Ne.symm he]
  · split at hd
    · next he => rw [if_pos he]; exact ⟨(h.draining k hk hd).1, Nat.succ_ne_zero _⟩
    · next he => rw [if_neg he]; exact h.draining k hk hd
  · obtain ht | ht := List.mem_append.mp ht
    · exact h.carried t ht
    · exact ⟨q, hq, (Option.some.inj (List.mem_singleton.mp ht)).symm⟩

theorem standingStates_inFlightMore (tag : Tag) (caps : List Capture) : standingStates (inFlightMore tag caps) = standingStates caps :=
  standingStates_map caps fun k => by split <;> rfl

@[simp] theorem Capture.bufferTaken_tag (k : Capture) : k.bufferTaken.tag = k.tag := by
  unfold Capture.bufferTaken
  split
  · rfl
  · dsimp only
    split <;> rfl

@[simp] theorem Capture.bufferTaken_inFlight (k : Capture) : k.bufferTaken.inFlight = k.inFlight := by
  unfold Capture.bufferTaken
  split
  · rfl
  · dsimp only
    split <;> rfl

/-- R104: the buffer that completes a capture makes it DRAINING with COMPLETE. -/
theorem Capture.bufferTaken_cases (k : Capture) :
    k.bufferTaken.state = k.state ∧ k.bufferTaken.reason = k.reason ∨ k.bufferTaken.state = .draining ∧ k.bufferTaken.reason = some .complete := by
  unfold Capture.bufferTaken
  split
  · exact .inl ⟨rfl, rfl⟩
  · dsimp only
    split
    · exact .inr ⟨rfl, rfl⟩
    · exact .inl ⟨rfl, rfl⟩

/-- The captures with the one tagged `tag` changed by `g`. -/
abbrev onTag (tag : Tag) (g : Capture → Capture) (caps : List Capture) : List Capture :=
  caps.map fun k => if k.tag = tag then g k else k

/-- A capture that stays or becomes DRAINING leaves the standing captures, in their order. -/
theorem standingStates_sublist (caps : List Capture) {g : Capture → Capture} (hg : ∀ k, (g k).state = k.state ∨ (g k).state = .draining) :
    (standingStates (caps.map g)).Sublist (standingStates caps) := by
  induction caps with
  | nil => exact List.Sublist.refl _
  | cons k rest ih =>
    unfold standingStates at ih ⊢
    by_cases hk : k.state = .draining
    · have hgk : (g k).state = .draining := (hg k).elim (fun e => e.trans hk) id
      simpa [hk, hgk] using ih
    · obtain he | he := hg k
      · simpa [he, hk] using ih
      · simpa [he, hk] using ih.cons _

theorem OpensFirst.queued_of_sublist {states states' : List CaptureState} (h : OpensFirst true states) (hsub : states'.Sublist states) :
    ∀ st ∈ states'.tail, st = .queued :=
  fun st hst => (h.first rfl).2 st (hsub.tail.subset hst)

theorem CountsFlight.bufferTaken {caps : List Capture} {tags : List (Option Tag)} (h : CountsFlight caps tags) {q : Capture} (hq : q ∈ caps)
    (hflight : q.inFlight ≠ 0) : CountsFlight (onTag q.tag Capture.bufferTaken caps) tags := by
  refine h.map (fun k => by split <;> simp) (fun k hk => ?_) (fun k hk hd => ?_) h.carried
  · rw [← h.flight k hk]
    split <;> simp
  · split at hd
    · next he =>
      rw [if_pos he]
      obtain rfl := h.eq_of_tag hk hq he
      obtain ⟨hs, hr⟩ | ⟨_, hr⟩ := k.bufferTaken_cases
      · rw [hs] at hd; rw [hr, Capture.bufferTaken_inFlight]; exact h.draining k hk hd
      · rw [hr, Capture.bufferTaken_inFlight]; exact ⟨rfl, hflight⟩
    · next he => rw [if_neg he]; exact h.draining k hk hd

/-- R101 to R104: the captures stay sound with the frame that starts among those in use. -/
theorem TakesFrame.sound {runs : Bool} {caps caps' : List Capture} {tags : List (Option Tag)} {f f' : Frame} (htake : TakesFrame runs caps f f' caps')
    (hf : f.tag = none) (hopens : OpensFirst runs (standingStates caps)) (hcounts : CountsFlight caps tags) :
    OpensFirst runs (standingStates caps') ∧ CountsFlight caps' (tags ++ [f'.tag]) := by
  cases htake with
  | untaken =>
    refine ⟨hopens, hcounts.unique, hcounts.draining, fun k hk => ?_, fun t ht => ?_⟩
    · rw [hf, List.count_append, ← hcounts.flight k hk]; simp
    · rw [hf] at ht; exact hcounts.carried t (by simpa using ht)
  | dropped q hold reason hq _ =>
    exact ⟨by rw [standingStates_inFlightMore]; exact hopens, hcounts.inFlightMore (List.mem_of_find?_eq_some hq)⟩
  | buffered q d hq =>
    have hmem := List.mem_of_find?_eq_some hq
    have hopened : q.state = .opened := by simpa using List.find?_some hq
    have hruns : runs = true := by
      cases hr : runs with
      | true => rfl
      | false => exact absurd (mem_standingStates_opened.mpr ⟨q, hmem, hopened⟩) (hopens.none_open hr)
    subst hruns
    have more := hcounts.inFlightMore hmem
    have hq' : { q with inFlight := q.inFlight + 1 } ∈ inFlightMore q.tag caps :=
      List.mem_map.mpr ⟨q, hmem, if_pos rfl⟩
    have taken := more.bufferTaken hq' (Nat.succ_ne_zero _)
    refine ⟨?_, taken.opened⟩
    refine OpensFirst.opened (hopens.queued_of_sublist ?_)
    rw [← standingStates_inFlightMore q.tag caps]
    refine standingStates_sublist _ fun k => ?_
    split
    · exact k.bufferTaken_cases.imp And.left And.left
    · exact .inl rfl

/-! ## CANCEL (R107 to R109) -/

@[simp] theorem Capture.cancel_tag (k : Capture) : k.cancel.tag = k.tag := by
  unfold Capture.cancel
  split
  · exact k.drain_tag _
  · exact k.drain_tag _
  · split <;> rfl

@[simp] theorem Capture.cancel_inFlight (k : Capture) : k.cancel.inFlight = k.inFlight := by
  unfold Capture.cancel
  split
  · exact k.drain_inFlight _
  · exact k.drain_inFlight _
  · split <;> rfl

@[simp] theorem Capture.cancel_state (k : Capture) : k.cancel.state = .draining := by
  unfold Capture.cancel
  split
  · exact k.drain_state _
  · exact k.drain_state _
  · split <;> assumption

theorem CountsFlight.cancel_reason {caps : List Capture} {tags : List (Option Tag)} (h : CountsFlight caps tags) {k : Capture} (hk : k ∈ caps) :
    k.cancel.reason.isSome = true := by
  unfold Capture.cancel
  split
  · exact h.drain_reason hk _
  · exact h.drain_reason hk _
  · next hd =>
    split
    · rfl
    · exact (h.draining k hk hd).1

/-- A capture that a CANCEL names in DRAINING has a frame in flight still. -/
theorem CountsFlight.cancelDraining {caps : List Capture} {tags : List (Option Tag)} (h : CountsFlight caps tags) {q : Capture} (hq : q ∈ caps)
    (hd : q.state = .draining) : CountsFlight (onTag q.tag Capture.cancel caps) tags := by
  refine h.map (fun k => by split <;> simp) (fun k hk => ?_) (fun k hk hdk => ?_) h.carried
  · rw [← h.flight k hk]
    split <;> simp
  · split at hdk
    · next he =>
      rw [if_pos he]
      obtain rfl := h.eq_of_tag hk hq he
      exact ⟨h.cancel_reason hk, by rw [Capture.cancel_inFlight]; exact (h.draining k hk hd).2⟩
    · next he => rw [if_neg he]; exact h.draining k hk hdk

/-- A standing capture that a CANCEL names closes, or drains with frames in flight. -/
theorem CountsFlight.cancelStanding {caps : List Capture} {tags : List (Option Tag)} (h : CountsFlight caps tags) (tag : Tag) :
    CountsFlight ((onTag tag Capture.cancel caps).filter fun k => !k.closesWith tag) tags := by
  refine h.mapFilter (fun k => by split <;> simp) (fun k hk => ?_) (fun k hk hp hd => ?_) fun t ht => ?_
  · rw [← h.flight k hk]
    split <;> simp
  · split at hd
    · next he =>
      rw [if_pos he] at hp ⊢
      refine ⟨h.cancel_reason hk, fun hzero => ?_⟩
      rw [Capture.closesWith_iff.mpr ⟨k.cancel_tag.trans he, k.cancel_state, hzero⟩] at hp
      cases hp
    · next he => rw [if_neg he]; exact h.draining k hk hd
  · obtain ⟨k, hk, hkt⟩ := h.carried t ht
    refine ⟨k, hk, hkt, ?_⟩
    rw [Bool.not_eq_true', ← Bool.not_eq_true, Capture.closesWith_iff]
    rintro ⟨_, _, hzero⟩
    have hcount : k.inFlight ≠ 0 := by
      rw [h.flight k hk, hkt]; exact (Nat.ne_of_gt (List.count_pos_iff.mpr ht))
    split at hzero
    · exact hcount (k.cancel_inFlight.symm.trans hzero)
    · exact hcount hzero

theorem standingStates_cancel_sublist (caps : List Capture) (tag : Tag) : (standingStates (onTag tag Capture.cancel caps)).Sublist (standingStates caps) :=
  standingStates_sublist caps fun k => by
    split
    · exact .inr k.cancel_state
    · exact .inl rfl

theorem standingStates_filter_closesWith (caps : List Capture) (tag : Tag) :
    standingStates (caps.filter fun k => !k.closesWith tag) = standingStates caps := by
  have kept := standingStates_mapFilter caps (g := id) (p := fun k => !k.closesWith tag) (fun _ => rfl) fun k hk => by
    rw [Bool.not_eq_true', ← Bool.not_eq_true, Capture.closesWith_iff]
    exact fun h => hk h.2.1
  rwa [List.map_id] at kept

/-! ## Every move -/

/-- What a queue's soundness speaks of: whether the channel runs, its captures, and the tags of its frames. -/
theorem Channel.queueSound_congr {a b : Channel} (h : a.queueSound) (hruns : b.state.runs = a.state.runs) (hcaps : b.captures = a.captures)
    (htags : b.frames.map Frame.tag = a.frames.map Frame.tag) : b.queueSound := by
  rw [Channel.queueSound_iff] at h ⊢
  rw [hruns, hcaps, htags]
  exact h

theorem map_tag_map {frames : List Frame} {g : Frame → Frame} (hg : ∀ f, (g f).tag = f.tag) : (frames.map g).map Frame.tag = frames.map Frame.tag := by
  rw [List.map_map]
  exact List.map_congr_left fun f _ => hg f

theorem Channel.queueSound_released {ch : Channel} {f : Frame} {rest : List Frame} (whole : Bool) (hf : ch.frames = f :: rest) (h : ch.queueSound) :
    (ch.released f whole).queueSound := by
  rw [Channel.queueSound_iff] at h ⊢
  refine ⟨?_, ?_⟩
  · show OpensFirst ch.state.runs (standingStates (ch.capturesLeft f whole))
    rw [standingStates_capturesLeft]; exact h.1
  · show CountsFlight (ch.capturesLeft f whole) (ch.frames.tail.map Frame.tag)
    rw [hf, List.tail_cons]
    exact h.2.capturesLeft whole hf

/-- A channel whose captures all drain, in a state without an OPEN one. -/
theorem Channel.queueSound_drained {a b : Channel} {r : CloseReason} (h : a.queueSound) (hruns : b.state.runs = false)
    (hcaps : b.captures = drainedOf a.captures r) (htags : b.frames.map Frame.tag = a.frames.map Frame.tag) : b.queueSound := by
  rw [Channel.queueSound_iff] at h ⊢
  rw [hruns, hcaps, htags, standingStates_drainedOf]
  exact ⟨OpensFirst.nil false, h.2.drained r⟩

theorem ChannelEvent.endState_runs (e : ChannelEvent) : e.endState.runs = false := by
  cases e <;> rfl

theorem Channel.queueSound_settled {ch : Channel} (writes : Bool) (h : ch.queueSound) : (ch.settled writes).queueSound := by
  refine Channel.settled_induct (P := Channel.queueSound) ?_ ?_ ?_ ?_ ?_ writes h
  · intro ch h
    refine Channel.queueSound_congr (b := ch.givenUp) h rfl rfl (map_tag_map fun f => ?_)
    unfold Frame.giveUpHeader
    split <;> rfl
  · exact fun ch f rest hf _ h => Channel.queueSound_released false hf h
  · intro ch f rest hf _ h
    refine Channel.queueSound_congr (b := ch.withHead _) h rfl rfl ?_
    rw [Channel.withHead, hf]; rfl
  · exact fun ch e _ _ h => Channel.queueSound_drained (b := ch.finished e) h (ChannelEvent.endState_runs e.event) rfl rfl
  · exact fun ch _ _ hstop _ h => Channel.queueSound_congr (b := ch.stoppedOff) h (by rw [hstop]; rfl) rfl rfl

theorem ChannelState.runs_of_not_inRun {st : ChannelState} (h : st.inRun = false) : st.runs = false := by
  cases st <;> first | rfl | cases h

/-- R98, R100: a QUEUED capture with a tag of its own joins the queue. -/
theorem CountsFlight.joined {caps : List Capture} {tags : List (Option Tag)} (h : CountsFlight caps tags) {k : Capture} (fresh : ∀ j ∈ caps, j.tag ≠ k.tag)
    (hqueued : k.state = .queued) (hflight : k.inFlight = 0) : CountsFlight (caps ++ [k]) tags := by
  refine ⟨?_, fun j hj hd => ?_, fun j hj => ?_, fun t ht => ?_⟩
  · rw [List.map_append, List.nodup_append]
    refine ⟨h.unique, List.nodup_cons.mpr ⟨List.not_mem_nil, List.nodup_nil⟩, fun t ht u hu => ?_⟩
    obtain ⟨j, hj, rfl⟩ := List.mem_map.mp ht
    rw [List.map_singleton, List.mem_singleton] at hu
    rw [hu]; exact fresh j hj
  · obtain hj | hj := List.mem_append.mp hj
    · exact h.draining j hj hd
    · rw [List.mem_singleton.mp hj, hqueued] at hd; cases hd
  · obtain hj | hj := List.mem_append.mp hj
    · exact h.flight j hj
    · rw [List.mem_singleton.mp hj, hflight]
      refine (List.count_eq_zero_of_not_mem fun hmem => ?_).symm
      obtain ⟨i, hi, hit⟩ := h.carried _ hmem
      exact fresh i hi hit
  · obtain ⟨j, hj, hjt⟩ := h.carried t ht
    exact ⟨j, List.mem_append_left _ hj, hjt⟩

theorem Channel.queueSound_joined {a : Channel} (h : a.queueSound) {k : Capture} (fresh : ∀ j ∈ a.captures, j.tag ≠ k.tag) (hqueued : k.state = .queued)
    (hflight : k.inFlight = 0) : (Channel.opening { a with captures := a.captures ++ [k] }).queueSound := by
  have ⟨hopens, hcounts⟩ := a.queueSound_iff.mp h
  have joined : standingStates (a.captures ++ [k]) = standingStates a.captures ++ [.queued] := by simp [standingStates, hqueued]
  refine Channel.queueSound_opening (ch := { a with captures := a.captures ++ [k] }) (fun hr => ?_) (fun hr st hst => ?_)
    (hcounts.joined fresh hqueued hflight)
  · show CaptureState.opened ∉ standingStates (a.captures ++ [k])
    rw [joined]
    simpa using hopens.none_open hr
  · change st ∈ (standingStates (a.captures ++ [k])).tail at hst
    rw [joined] at hst
    cases hs : standingStates a.captures with
    | nil => rw [hs] at hst; simp at hst
    | cons x xs =>
      rw [hs, List.cons_append, List.tail_cons, List.mem_append, List.mem_singleton] at hst
      exact hst.elim (fun hx => (hopens.first hr).2 st (by rw [hs]; exact hx)) id

/-- R107 to R109: a CANCEL leaves the queue sound. -/
theorem Channel.queueSound_cancelled {a : Channel} (h : a.queueSound) {tag : Tag} {k : Capture} (hk : a.captures.find? (fun k => k.tag == tag) = some k) :
    (Channel.opening (if k.state = .draining then a.cancelled tag else (a.cancelled tag).without (Capture.closesWith tag))).queueSound := by
  have ⟨hopens, hcounts⟩ := a.queueSound_iff.mp h
  have htag : k.tag = tag := by simpa using List.find?_some hk
  have sub := standingStates_cancel_sublist a.captures tag
  split
  · next hd =>
    refine Channel.queueSound_opening (fun hr hmem => hopens.none_open hr (sub.subset hmem)) (fun hr => ?_) ?_
    · exact OpensFirst.queued_of_sublist (hr ▸ hopens) sub
    · rw [← htag]; exact hcounts.cancelDraining (List.mem_of_find?_eq_some hk) hd
  · have gone : standingStates ((a.cancelled tag).without (Capture.closesWith tag)).captures = standingStates (a.cancelled tag).captures :=
      standingStates_filter_closesWith _ _
    refine Channel.queueSound_opening (fun hr hmem => ?_) (fun hr => ?_) (hcounts.cancelStanding tag)
    · rw [gone] at hmem; exact hopens.none_open hr (sub.subset hmem)
    · rw [gone]; exact OpensFirst.queued_of_sublist (hr ▸ hopens) sub

theorem Channel.Move.queueSound {halts : Bool} {a b : Channel} (m : Channel.Move halts a b) (h : a.queueSound) : b.queueSound := by
  have ⟨hopens, hcounts⟩ := a.queueSound_iff.mp h
  cases m with
  | lost => exact h
  | cause => exact h
  | link => exact h
  | timer => exact h
  | atLatch => exact h
  | sets => exact h
  | latched => exact h
  | waits => exact h
  | periodEnds writes => exact Channel.queueSound_settled writes h
  | frameStarts k f caps n _ _ _ _ htake =>
    rw [Channel.queueSound_iff]
    have sound := htake.sound rfl hopens hcounts
    refine ⟨?_, ?_⟩
    · show OpensFirst (a.state.frameStarted _).runs (standingStates caps)
      rw [ChannelState.frameStarted_runs]; exact sound.1
    · show CountsFlight caps ((a.frames ++ [f]).map Frame.tag)
      rw [List.map_append]; exact sound.2
  | backlogged => exact Channel.queueSound_congr h (ChannelState.frameStarted_runs _ _) rfl rfl
  | starts k g hoff =>
    have closed := hopens.none_open (by rw [hoff]; rfl)
    refine Channel.queueSound_opening (fun e => by cases e) (fun _ st hst => ?_) hcounts
    have hmem : st ∈ standingStates a.captures := List.mem_of_mem_tail hst
    have hstands : st ≠ .draining := by simpa using (List.mem_filter.mp hmem).2
    cases st with
    | queued => rfl
    | opened => exact absurd hmem closed
    | draining => exact absurd rfl hstands
  | stops writes link => exact Channel.queueSound_settled writes (Channel.queueSound_drained (r := .stopped) h rfl rfl rfl)
  | aborts writes event link =>
    refine Channel.queueSound_settled writes (Channel.queueSound_congr h rfl rfl (map_tag_map fun f => ?_))
    unfold Frame.abort
    split
    · split <;> rfl
    · rfl
    · rfl
  | goesOn writes => exact Channel.queueSound_settled writes h
  | off hrun => exact Channel.queueSound_congr h (ChannelState.runs_of_not_inRun hrun).symm rfl rfl
  | captures k _ htag hqueued hflight =>
    exact Channel.queueSound_joined h (by simpa [Channel.hasTag] using htag) hqueued hflight
  | cancels tag k hk =>
    exact Channel.queueSound_cancelled h hk
  | combines f k samples =>
    have combined := Channel.Combines.combine a f k samples
    have tags := congrArg (List.map Frame.tag) combined.frames
    rw [List.map_map, List.map_map] at tags
    rw [combined.rest]
    exact Channel.queueSound_congr h rfl rfl tags
  | flushes writes f missed link timer =>
    refine Channel.queueSound_settled writes (Channel.queueSound_congr h rfl rfl (map_tag_map fun f => ?_))
    split <;> rfl
  | rowHanded => exact h
  | headerHanded => exact h
  | rowMade writes =>
    refine Channel.queueSound_settled writes ?_
    unfold Channel.rowWritten
    split
    · exact h
    · dsimp only
      split
      · refine Channel.queueSound_congr h rfl rfl (map_tag_map fun f => ?_)
        split <;> rfl
      · exact h
  | headerMade writes whole f rest d hf => exact Channel.queueSound_settled writes (Channel.queueSound_released whole hf h)

/-- A channel at its reset values has no capture and no frame. -/
theorem Channel.queueSound_resetWith (ch : Channel) (l : Link) : (ch.resetWith l).queueSound :=
  (Channel.queueSound_iff _).mpr
    ⟨OpensFirst.nil _, List.nodup_nil, fun _ h => absurd h List.not_mem_nil, fun _ h => absurd h List.not_mem_nil, fun _ h => absurd h List.not_mem_nil⟩

/-- Settles O57: every move of a channel keeps its capture queue sound. -/
theorem everyStepKeepsTheCaptureQueues : Obligations.EveryStepKeepsTheCaptureQueues :=
  fun _ _ hs h => step_channels (halts := true) (fun m => m.queueSound) (fun ch f _ => Channel.queueSound_resetWith ch (f ch.link)) (fun _ => rfl) hs h

end Sys2Proof.Machine
end

section
/-! Every channel agrees with its state after every step, and a frame that holds a descriptor holds a credit (R1, R23, R81, R93, R121). -/

namespace Sys2Proof.Machine

/-! ## The agreement before the frames and the run have gone on -/

/-- R1, R23, R81, R93, R121: a channel agrees with its state, but for the passage to OFF or FAULTED that its frames and its run may still make. -/
structure Channel.RunFits (ch : Channel) : Prop where
  run : ch.state.inRun = true → ch.standing = true ∧ ch.table.governs
  rest : ch.state.inRun = false → ch.timer.state = .idle ∧ ch.table.idle ∧ ch.standing = false ∧ ch.frames = [] ∧ ch.ending = none
  free : ch.inFreeRun = true → ch.link.up = true ∧ (ch.timer.state = .idle → ch.state = .stopping)
  stopping : ch.state = .stopping → ch.timer.state ≠ .waiting
  ending : ch.ending.isSome = true → ch.timer.state = .idle
  paid : ∀ f ∈ ch.frames, f.paid

/-- A channel agrees with its state, and its frames are paid. -/
structure Channel.Accounts (ch : Channel) : Prop extends Channel.RunFits ch where
  waits : ch.state.inRun = true → ch.timer.state = .idle → ch.frames ≠ []

theorem Channel.accounts_iff (ch : Channel) : ch.Accounts ↔ ch.agrees ∧ ∀ f ∈ ch.frames, f.paid := by
  constructor
  · rintro ⟨⟨run, rest, free, stopping, ending, paid⟩, waits⟩
    exact ⟨⟨run, rest, free, stopping, ending, waits⟩, paid⟩
  · rintro ⟨⟨run, rest, free, stopping, ending, waits⟩, paid⟩
    exact ⟨⟨run, rest, free, stopping, ending, paid⟩, waits⟩

/-! ## The frames and the run go on -/

theorem ChannelEvent.endState_inRun (e : ChannelEvent) : e.endState.inRun = false := by
  cases e <;> rfl

/-- A frame in use belongs to a run. -/
theorem Channel.RunFits.inRun_of_frames {ch : Channel} (h : ch.RunFits) {f : Frame} {rest : List Frame} (hf : ch.frames = f :: rest) :
    ch.state.inRun = true := by
  cases hr : ch.state.inRun with
  | true => rfl
  | false =>
    have none := (h.rest hr).2.2.2.1
    rw [hf] at none; cases none

theorem Channel.RunFits.inRun_of_ending {ch : Channel} (h : ch.RunFits) {e : Ending} (he : ch.ending = some e) : ch.state.inRun = true := by
  cases hr : ch.state.inRun with
  | true => rfl
  | false =>
    have none := (h.rest hr).2.2.2.2
    rw [he] at none; cases none

/-- Other frames of a channel in a run, paid as well. -/
theorem Channel.RunFits.withFrames {ch : Channel} (h : ch.RunFits) {frames : List Frame} {caps : List Capture} {last : Option ContextId}
    (hrun : ch.state.inRun = false → frames = []) (hpaid : ∀ f ∈ frames, f.paid) :
    Channel.RunFits { ch with frames := frames, captures := caps, lastFreed := last } where
  run := h.run
  rest hr :=
    have ⟨htimer, htable, hstanding, _, hending⟩ := h.rest hr
    ⟨htimer, htable, hstanding, hrun hr, hending⟩
  free := h.free
  stopping := h.stopping
  ending := h.ending
  paid := hpaid

theorem Channel.RunFits.released {ch : Channel} (h : ch.RunFits) (f : Frame) (whole : Bool) : (ch.released f whole).RunFits :=
  h.withFrames (fun hr => by rw [(h.rest hr).2.2.2.1]; rfl) fun g hg => h.paid g (List.mem_of_mem_tail hg)

/-- Frames changed one by one, as they hold descriptors and credits. -/
theorem Channel.RunFits.mapFrames {ch : Channel} (h : ch.RunFits) {g : Frame → Frame} (hhold : ∀ f, (g f).hold = f.hold)
    (hcredit : ∀ f, (g f).credit = f.credit) : Channel.RunFits { ch with frames := ch.frames.map g } := by
  refine h.withFrames (caps := ch.captures) (last := ch.lastFreed) (fun hr => by rw [(h.rest hr).2.2.2.1]; rfl) fun f hf => ?_
  obtain ⟨f, hmem, rfl⟩ := List.mem_map.mp hf
  show (g f).hold ≠ _ → (g f).credit = true
  rw [hhold, hcredit]
  exact h.paid f hmem

theorem Frame.giveUpHeader_hold (f : Frame) (handed : Bool) : (f.giveUpHeader handed).hold = f.hold := by
  unfold Frame.giveUpHeader; split <;> rfl

theorem Frame.giveUpHeader_credit (f : Frame) (handed : Bool) : (f.giveUpHeader handed).credit = f.credit := by
  unfold Frame.giveUpHeader; split <;> rfl

theorem Channel.RunFits.advanced {ch : Channel} (h : ch.RunFits) (writes : Bool) : (ch.advanced writes).RunFits := by
  refine Channel.advanced_induct (P := Channel.RunFits) ?_ ?_ ?_ writes h
  · exact fun ch h => h.mapFrames (fun f => f.giveUpHeader_hold _) fun f => f.giveUpHeader_credit _
  · exact fun ch f rest _ _ h => h.released f false
  · intro ch f rest hf _ h
    refine h.withFrames (caps := ch.captures) (last := ch.lastFreed) (fun hr => ?_) fun g hg => ?_
    · rw [h.inRun_of_frames hf] at hr; cases hr
    · rw [hf, List.tail_cons] at hg
      obtain rfl | hg := List.mem_cons.mp hg
      · exact h.paid f (by rw [hf]; exact List.mem_cons_self)
      · exact h.paid g (by rw [hf]; exact List.mem_cons_of_mem _ hg)

/-- A channel whose run has ended, in OFF or FAULTED. -/
theorem Channel.Accounts.of_rest {ch : Channel} (hrun : ch.state.inRun = false) (htimer : ch.timer.state = .idle) (htable : ch.table.idle)
    (hstanding : ch.standing = false) (hframes : ch.frames = []) (hending : ch.ending = none) : ch.Accounts where
  run hr := by rw [hrun] at hr; cases hr
  rest _ := ⟨htimer, htable, hstanding, hframes, hending⟩
  free hr := by rw [Channel.inFreeRun, hrun] at hr; cases hr
  stopping hs := by rw [hs] at hrun; cases hrun
  ending he := by rw [hending] at he; cases he
  paid f hf := by rw [hframes] at hf; exact absurd hf List.not_mem_nil
  waits hr := by rw [hrun] at hr; cases hr

theorem SettingsTable.cleared_idle (t : SettingsTable) : t.cleared.idle := rfl

/-- R87, R128: once no frame is left, nothing keeps a run whose timer is IDLE from its end. -/
theorem Channel.RunFits.ended {ch : Channel} (h : ch.RunFits) : ch.ended.Accounts := by
  unfold Channel.ended
  split
  · next e hf he =>
    exact Channel.Accounts.of_rest (ChannelEvent.endState_inRun e.event) (h.ending (by rw [he]; rfl)) (SettingsTable.cleared_idle _) rfl hf rfl
  · next hf he =>
    split
    · next hs => exact Channel.Accounts.of_rest rfl hs.2 (SettingsTable.cleared_idle _) rfl hf he
    · next hs =>
      refine ⟨h, fun hr htimer => absurd ⟨(h.free ?_).2 htimer, htimer⟩ hs⟩
      rw [Channel.inFreeRun, hr, he]; rfl
  · next hf => exact ⟨h, fun _ _ => by rw [hf]; exact List.cons_ne_nil _ _⟩

theorem Channel.RunFits.settled {ch : Channel} (h : ch.RunFits) (writes : Bool) : (ch.settled writes).Accounts := (h.advanced writes).ended

/-! ## Every move -/

theorem ChannelState.inRun_of_runs {st : ChannelState} (h : st.runs = true) : st.inRun = true := by
  cases st with
  | starting => rfl
  | running => rfl
  | off => cases h
  | stopping => cases h
  | faulted => cases h

theorem ChannelState.ne_stopping_of_runs {st : ChannelState} (h : st.runs = true) : st ≠ .stopping := by
  rintro rfl; cases h

@[simp] theorem ChannelState.frameStarted_inRun (st : ChannelState) (seq : Seq) : (st.frameStarted seq).inRun = st.inRun := by
  unfold ChannelState.frameStarted
  split
  · next h => rw [h.1]; rfl
  · rfl

/-- A timer that is not IDLE belongs to a free run. -/
theorem Channel.RunFits.of_timer {ch : Channel} (h : ch.RunFits) (ht : ch.timer.state ≠ .idle) : ch.state.inRun = true ∧ ch.ending = none := by
  constructor
  · cases hr : ch.state.inRun with
    | true => rfl
    | false => exact absurd (h.rest hr).1 ht
  · cases he : ch.ending with
    | none => rfl
    | some e => exact absurd (h.ending (by rw [he]; rfl)) ht

theorem Channel.inFreeRun_iff {ch : Channel} : ch.inFreeRun = true ↔ ch.state.inRun = true ∧ ch.ending = none := by
  simp [Channel.inFreeRun]

/-- A latched set belongs to a run. -/
theorem Channel.RunFits.inRun_of_latched {ch : Channel} (h : ch.RunFits) {k : GoverningSet} (hk : ch.table.latched = some k) : ch.state.inRun = true := by
  cases hr : ch.state.inRun with
  | true => rfl
  | false =>
    have idle := congrArg SettingsTable.latched (h.rest hr).2.1
    rw [hk] at idle; cases idle

theorem TakesFrame.paid {runs : Bool} {caps caps' : List Capture} {f f' : Frame} (h : TakesFrame runs caps f f' caps') (hf : f.hold = .nothing) :
    f'.paid := by
  cases h with
  | untaken => exact fun hne => absurd hf hne
  | dropped => exact fun _ => rfl
  | buffered => exact fun _ => rfl

/-- The timer's start of a frame, whatever becomes of the frame. -/
theorem Channel.Accounts.frameBegun {ch : Channel} (h : ch.Accounts) {k : GoverningSet} {timer : FrameTimer} {n : Nat} (hk : ch.table.latched = some k)
    (hwhen : ch.timer.state = .waiting ∨ ch.timer.state = .period ∧ ch.timer.latchTaken = true) (htimer : timer.state = .period) :
    Channel.Accounts { ch.frameBegun k with lostEvents := n, timer := timer } := by
  have hrun := h.inRun_of_latched hk
  have htimer' : ch.timer.state ≠ .idle := by
    obtain e | ⟨e, _⟩ := hwhen <;> rw [e] <;> decide
  have ⟨_, hend⟩ := h.of_timer htimer'
  have notRest : (ch.state.frameStarted ch.timer.nextSeq).inRun = true := by rw [ChannelState.frameStarted_inRun]; exact hrun
  refine ⟨⟨fun _ => ⟨(h.run hrun).1, ?_⟩, fun hr => ?_, fun _ => ⟨?_, fun e => ?_⟩, fun _ e => ?_, fun he => ?_, h.paid⟩, fun _ e => ?_⟩
  · show (ch.table.latched.isSome && true && true) = true
    rw [hk]; rfl
  · exact absurd (notRest.symm.trans hr) nofun
  · exact (Link.send_isUp ch.link .mark).trans (h.free (Channel.inFreeRun_iff.mpr ⟨hrun, hend⟩)).1
  · exact absurd (htimer.symm.trans e) (by decide)
  · exact absurd (htimer.symm.trans e) (by decide)
  · change ch.ending.isSome = true at he
    rw [hend] at he; cases he
  · exact absurd (htimer.symm.trans e) (by decide)

/-- A channel whose captures, combiner, rows and handed writes alone have changed. -/
theorem Channel.Accounts.congr {a b : Channel} (h : a.Accounts) (hstate : b.state = a.state) (hstanding : b.standing = a.standing)
    (htable : b.table.governs ↔ a.table.governs) (hidle : b.table.idle ↔ a.table.idle) (htimer : b.timer.state = a.timer.state)
    (hframes : b.frames = a.frames) (hending : b.ending = a.ending) (hup : a.inFreeRun = true → a.link.up = true → b.link.up = true) :
    b.Accounts := by
  have hfree : b.inFreeRun = a.inFreeRun := by rw [Channel.inFreeRun, hstate, hending]; rfl
  refine ⟨⟨?_, ?_, ?_, ?_, ?_, ?_⟩, ?_⟩
  · rw [hstate, hstanding, htable]; exact h.run
  · rw [hstate, hstanding, hidle, htimer, hframes, hending]; exact h.rest
  · rw [hfree, htimer, hstate]; exact fun hr => ⟨hup hr (h.free hr).1, (h.free hr).2⟩
  · rw [hstate, htimer]; exact h.stopping
  · rw [hending, htimer]; exact h.ending
  · rw [hframes]; exact h.paid
  · rw [hstate, htimer, hframes]; exact h.waits

theorem Channel.Accounts.opening {ch : Channel} (h : ch.Accounts) : ch.opening.Accounts := by
  rw [Channel.opening_eq]
  exact h.congr rfl rfl Iff.rfl Iff.rfl rfl rfl rfl fun _ e => e

/-- A move that changes the frames one by one and keeps the run's place in its course. -/
theorem Channel.RunFits.congr {a b : Channel} (h : a.RunFits) (hstate : b.state = a.state) (hstanding : b.standing = a.standing)
    (htable : b.table = a.table) (htimer : b.timer.state = a.timer.state) (hending : b.ending = a.ending) (hup : b.link.up = a.link.up)
    (hframes : b.frames = [] ↔ a.frames = []) (hpaid : ∀ f ∈ b.frames, f.paid) : b.RunFits := by
  have hfree : b.inFreeRun = a.inFreeRun := by rw [Channel.inFreeRun, hstate, hending]; rfl
  refine ⟨?_, ?_, ?_, ?_, ?_, hpaid⟩
  · rw [hstate, hstanding, htable]; exact h.run
  · rw [hstate, hstanding, htable, htimer, hframes, hending]; exact h.rest
  · rw [hfree, htimer, hstate, hup]; exact h.free
  · rw [hstate, htimer]; exact h.stopping
  · rw [hending, htimer]; exact h.ending

theorem map_paid {frames : List Frame} {g : Frame → Frame} (hhold : ∀ f, (g f).hold = f.hold) (hcredit : ∀ f, (g f).credit = f.credit)
    (h : ∀ f ∈ frames, f.paid) : ∀ f ∈ frames.map g, f.paid := by
  intro f hf
  obtain ⟨f, hmem, rfl⟩ := List.mem_map.mp hf
  show (g f).hold ≠ _ → (g f).credit = true
  rw [hhold, hcredit]
  exact h f hmem

theorem Channel.Combines.paid {a b : Channel} (h : Channel.Combines a b) (hpaid : ∀ f ∈ a.frames, f.paid) : ∀ f ∈ b.frames, f.paid := by
  intro f hf
  obtain ⟨g, hg, hcore⟩ := List.mem_map.mp (h.frames ▸ List.mem_map_of_mem (f := Frame.core) hf)
  have hhold : g.hold = f.hold := (congrArg Frame.hold hcore :)
  have hcredit : g.credit = f.credit := (congrArg Frame.credit hcore :)
  show f.hold ≠ _ → f.credit = true
  rw [← hhold, ← hcredit]
  exact hpaid g hg

theorem Channel.Combines.frames_eq_nil {a b : Channel} (h : Channel.Combines a b) : b.frames = [] ↔ a.frames = [] := by
  rw [← List.length_eq_zero_iff, h.frames_length, List.length_eq_zero_iff]

theorem FrameTimer.stopped_state (t : FrameTimer) : t.stopped.state ≠ .waiting := by
  unfold FrameTimer.stopped
  split
  · exact nofun
  · next h => rw [h]; decide
  · next h => rw [h]; decide

@[simp] theorem Frame.abort_hold (f : Frame) (handed : Bool) (now : Nat) : (f.abort handed now).hold = f.hold := by
  unfold Frame.abort
  split
  · split <;> rfl
  · rfl
  · rfl

@[simp] theorem Frame.abort_credit (f : Frame) (handed : Bool) (now : Nat) : (f.abort handed now).credit = f.credit := by
  unfold Frame.abort
  split
  · split <;> rfl
  · rfl
  · rfl

theorem Channel.rowWritten_cases (ch : Channel) :
    ch.rowWritten = { ch with rows := ch.rows.tail, rowWrite := none }
      ∨ ∃ r ∈ ch.rows.head?, r.words.isSome = true
          ∧ ch.rowWritten = Channel.onFrame { ch with rows := ch.rows.tail, rowWrite := none } r.ctx Frame.oneProduced := by
  unfold Channel.rowWritten
  split
  · next h => left; rw [h]; rfl
  · next r rest h =>
    rw [h]
    dsimp only
    split
    · next hw => exact .inr ⟨r, rfl, hw, rfl⟩
    · exact .inl rfl

/-- R61: taking a written row off the queue touches, of the frames, one count. -/
theorem Channel.Combines.rowWritten (ch : Channel) : Channel.Combines { ch with rowWrite := none } ch.rowWritten := by
  have shorter : ch.rows.length ≤ 8 → ch.rows.tail.length ≤ 8 := fun h => by rw [List.length_tail]; omega
  obtain h | ⟨r, _, _, h⟩ := ch.rowWritten_cases
  · rw [h]; exact ⟨rfl, rfl, shorter⟩
  · rw [h]
    have taken : Channel.Combines { ch with rowWrite := none } { ch with rows := ch.rows.tail, rowWrite := none } := ⟨rfl, rfl, shorter⟩
    exact taken.trans (Channel.Combines.onFrame _ r.ctx fun _ => rfl)

theorem Channel.Combines.runFits {a b : Channel} (h : Channel.Combines a b) (hfits : a.RunFits) : b.RunFits := by
  have rest := h.rest
  exact hfits.congr (by rw [rest]) (by rw [rest]) (by rw [rest]) (by rw [rest]) (by rw [rest]) (by rw [rest]) h.frames_eq_nil (h.paid hfits.paid)

theorem Channel.Combines.accounts {a b : Channel} (h : Channel.Combines a b) (ha : a.Accounts) : b.Accounts := by
  refine ⟨h.runFits ha.toRunFits, fun hr htimer => ?_⟩
  rw [h.rest] at hr htimer
  rw [Ne, h.frames_eq_nil]
  exact ha.waits hr htimer

/-! ## What goes before the frames and the run go on -/

/-- R87: the last period of a STOPPING run is over. -/
theorem Channel.Accounts.idled {ch : Channel} (h : ch.Accounts) (hruns : ch.state.runs = false) (hperiod : ch.timer.state = .period) :
    Channel.RunFits { ch with timer := ch.timer.idled } := by
  have ⟨hrun, hend⟩ := h.of_timer (by rw [hperiod]; decide)
  have hstop : ch.state = .stopping := by
    cases hs : ch.state with
    | stopping => rfl
    | starting => rw [hs] at hruns; cases hruns
    | running => rw [hs] at hruns; cases hruns
    | off => rw [hs] at hrun; cases hrun
    | faulted => rw [hs] at hrun; cases hrun
  refine ⟨h.run, fun hr => ?_, fun hr => ⟨(h.free hr).1, fun _ => hstop⟩, fun _ e => (by cases e), fun _ => rfl, h.paid⟩
  exact absurd (hrun.symm.trans hr) nofun

/-- R86: a STOP without ABORT. -/
theorem Channel.Accounts.stopTaken {ch : Channel} (h : ch.Accounts) {link : Link} (hup : link.up = ch.link.up) (hruns : ch.state.runs = true)
    (hend : ch.ending = none) : Channel.RunFits { ch.stopTaken with link := link } := by
  have hrun := ChannelState.inRun_of_runs hruns
  have hlink := (h.free (Channel.inFreeRun_iff.mpr ⟨hrun, hend⟩)).1
  refine ⟨fun _ => h.run hrun, fun hr => (by cases hr), fun _ => ⟨hup.trans hlink, fun _ => rfl⟩, fun _ => ch.timer.stopped_state, fun he => ?_, h.paid⟩
  change ch.ending.isSome = true at he
  rw [hend] at he; cases he

/-- R88, R91, R128: a run whose end waits for its frames, whatever its link. -/
theorem Channel.RunFits.of_ending {ch : Channel} (hrun : ch.state.inRun = true) (hstanding : ch.standing = true) (hgoverns : ch.table.governs)
    (htimer : ch.timer.state = .idle) (hending : ch.ending.isSome = true) (hpaid : ∀ f ∈ ch.frames, f.paid) : ch.RunFits where
  run _ := ⟨hstanding, hgoverns⟩
  rest hr := absurd (hrun.symm.trans hr) nofun
  free hr := by rw [(Channel.inFreeRun_iff.mp hr).2] at hending; cases hending
  stopping _ := by rw [htimer]; decide
  ending _ := htimer
  paid := hpaid

/-- R95: HALTED marks the end of run that it finds. -/
theorem Channel.RunFits.withEnding {ch : Channel} (h : ch.RunFits) {ending : Option Ending} (same : ending.isSome = ch.ending.isSome) :
    Channel.RunFits { ch with ending := ending } := by
  have none : ending = none ↔ ch.ending = none := by
    rw [← Option.not_isSome_iff_eq_none, same, Option.not_isSome_iff_eq_none]
  refine ⟨h.run, fun hr => ?_, fun hr => ?_, h.stopping, fun he => h.ending (same.symm.trans he), h.paid⟩
  · obtain ⟨htimer, htable, hstanding, hframes, hnone⟩ := h.rest hr
    exact ⟨htimer, htable, hstanding, hframes, none.mpr hnone⟩
  · have ⟨hrun, hnone⟩ := Channel.inFreeRun_iff.mp hr
    exact h.free (Channel.inFreeRun_iff.mpr ⟨hrun, none.mp hnone⟩)

/-- R58: a flush, behind which the link's counters and the line position may have moved. -/
theorem Channel.RunFits.flushed {ch : Channel} (h : ch.RunFits) (f : Frame) (missed : Bool) {link : Link} {timer : FrameTimer}
    (hup : link.up = ch.link.up) (hstate : timer.state = ch.timer.state) : Channel.RunFits { ch.flush f missed with link := link, timer := timer } := by
  refine h.congr rfl rfl rfl hstate rfl hup List.map_eq_nil_iff (map_paid ?_ ?_ h.paid)
  · intro x; split <;> rfl
  · intro x; split <;> rfl

theorem Channel.Accounts.rowWritten {ch : Channel} (h : ch.Accounts) : ch.rowWritten.RunFits := by
  have taken : Channel.Accounts { ch with rowWrite := none } := h.congr rfl rfl Iff.rfl Iff.rfl rfl rfl rfl fun _ e => e
  exact (Channel.Combines.rowWritten ch).runFits taken.toRunFits

theorem Channel.Accounts.headerReleased {ch : Channel} (h : ch.Accounts) (f : Frame) (whole : Bool) :
    (Channel.released { ch with headerWrite := none } f whole).RunFits := by
  have taken : Channel.Accounts { ch with headerWrite := none } := h.congr rfl rfl Iff.rfl Iff.rfl rfl rfl rfl fun _ e => e
  exact taken.toRunFits.released f whole

theorem SettingsTable.idle_iff {t : SettingsTable} :
    t.idle ↔ t.latched = none ∧ t.active = none ∧ t.integration = none ∧ t.frame0Mark = false := by
  cases t
  simp [SettingsTable.idle]

theorem Channel.Move.accounts {halts : Bool} {a b : Channel} (m : Channel.Move halts a b) (h : a.Accounts) : b.Accounts := by
  have upKept : a.inFreeRun = true → a.link.up = true → a.link.up = true := fun _ e => e
  cases m with
  | lost => exact h.congr rfl rfl Iff.rfl Iff.rfl rfl rfl rfl upKept
  | cause => exact h.congr rfl rfl Iff.rfl Iff.rfl rfl rfl rfl upKept
  | link l _ hup => exact h.congr rfl rfl Iff.rfl Iff.rfl rfl rfl rfl hup
  | timer t ht => exact h.congr rfl rfl Iff.rfl Iff.rfl ht.1 rfl rfl upKept
  | atLatch => exact h.congr rfl rfl Iff.rfl Iff.rfl rfl rfl rfl upKept
  | sets t ht =>
    have governs : t.governs ↔ a.table.governs := by rw [ht]
    have idle : t.idle ↔ a.table.idle := by
      rw [ht]
      constructor
      · intro e
        have latched := congrArg SettingsTable.latched e
        have active := congrArg SettingsTable.active e
        have integration := congrArg SettingsTable.integration e
        have mark := congrArg SettingsTable.frame0Mark e
        exact SettingsTable.idle_iff.mpr ⟨latched, active, integration, mark⟩
      · intro e
        rw [SettingsTable.idle, e]
    exact h.congr rfl rfl governs idle rfl rfl rfl upKept
  | latched k g pending hruns =>
    have hrun := ChannelState.inRun_of_runs hruns
    refine ⟨⟨fun _ => ⟨(h.run hrun).1, ?_⟩, fun hr => ?_, h.free, h.stopping, h.ending, h.paid⟩, h.waits⟩
    · have governs := (h.run hrun).2
      simp only [SettingsTable.governs, Bool.and_eq_true] at governs ⊢
      exact ⟨⟨rfl, governs.1.2⟩, governs.2⟩
    · exact absurd (hrun.symm.trans hr) nofun
  | waits hruns hperiod =>
    have hrun := ChannelState.inRun_of_runs hruns
    have ⟨_, hend⟩ := h.of_timer (by rw [hperiod]; decide)
    refine ⟨⟨h.run, fun hr => ?_, fun hr => ⟨(h.free hr).1, fun e => by cases e⟩, fun hs => ?_, fun he => ?_, h.paid⟩, fun _ e => by cases e⟩
    · exact absurd (hrun.symm.trans hr) nofun
    · exact absurd hs (ChannelState.ne_stopping_of_runs hruns)
    · change a.ending.isSome = true at he
      rw [hend] at he; cases he
  | periodEnds writes hruns hperiod => exact (h.idled hruns hperiod).settled writes
  | frameStarts k f caps n _ hk _ hwhen htake =>
    have begun := h.frameBegun (n := n) hk hwhen (timer := a.timer.frameStarted k) rfl
    have hrun : (a.state.frameStarted a.timer.nextSeq).inRun = true := by rw [ChannelState.frameStarted_inRun]; exact h.inRun_of_latched hk
    refine ⟨⟨begun.run, fun hr => ?_, begun.free, begun.stopping, begun.ending, fun g hg => ?_⟩, fun _ e => by cases e⟩
    · exact absurd (hrun.symm.trans hr) nofun
    · obtain hg | hg := List.mem_append.mp hg
      · exact h.paid g hg
      · rw [List.mem_singleton.mp hg]; exact htake.paid rfl
  | backlogged k n _ hk hwhen => exact h.frameBegun hk hwhen rfl
  | starts k g hoff hup _ _ =>
    refine Channel.Accounts.opening ⟨⟨fun _ => ⟨rfl, rfl⟩, fun hr => (by cases hr), fun _ => ⟨?_, fun e => by cases e⟩, fun e => (by cases e), fun he => ?_, h.paid⟩,
      fun _ e => by cases e⟩
    · exact (Link.send_isUp _ _).trans hup
    · have none := (h.rest (by rw [hoff]; rfl)).2.2.2.2
      change a.ending.isSome = true at he
      rw [none] at he; cases he
  | stops writes link _ hup hruns hend => exact (h.stopTaken hup hruns hend).settled writes
  | aborts writes event link _ hfree =>
    have ⟨hrun, _⟩ := Channel.inFreeRun_iff.mp hfree
    have ⟨hstanding, hgoverns⟩ := h.run hrun
    refine Channel.RunFits.settled (ch := { a.aborted event with link := link }) ?_ writes
    exact Channel.RunFits.of_ending hrun hstanding hgoverns rfl rfl (map_paid (fun f => f.abort_hold _ _) (fun f => f.abort_credit _ _) h.paid)
  | goesOn writes ending hend =>
    exact (h.toRunFits.withEnding (hend.elim (fun e => by rw [e]) And.right)).settled writes
  | off hrun =>
    obtain ⟨htimer, htable, hstanding, hframes, hending⟩ := h.rest hrun
    exact Channel.Accounts.of_rest rfl htimer htable hstanding hframes hending
  | captures => exact Channel.Accounts.opening (h.congr rfl rfl Iff.rfl Iff.rfl rfl rfl rfl upKept)
  | cancels tag k =>
    have marked : (a.cancelled tag).Accounts := h.congr rfl rfl Iff.rfl Iff.rfl rfl rfl rfl upKept
    refine Channel.Accounts.opening ?_
    split
    · exact marked
    · exact h.congr rfl rfl Iff.rfl Iff.rfl rfl rfl rfl upKept
  | combines f k samples => exact (Channel.Combines.combine a f k samples).accounts h
  | flushes writes f missed link timer _ _ hup hstate => exact (h.toRunFits.flushed f missed hup hstate).settled writes
  | rowHanded => exact h.congr rfl rfl Iff.rfl Iff.rfl rfl rfl rfl upKept
  | headerHanded => exact h.congr rfl rfl Iff.rfl Iff.rfl rfl rfl rfl upKept
  | rowMade writes => exact h.rowWritten.settled writes
  | headerMade writes whole f => exact (h.headerReleased f whole).settled writes

/-- A channel at its reset values is OFF with nothing in hand. -/
theorem Channel.accounts_resetWith (ch : Channel) (l : Link) : (ch.resetWith l).Accounts :=
  Channel.Accounts.of_rest rfl rfl rfl rfl rfl rfl

/-! ## No end of a run waits to report HALT outside HALTED (R95) -/

/-- The channel's end of run, if one waits, does not report HALT behind its event. -/
def Channel.quiet (ch : Channel) : Prop := ∀ e ∈ ch.ending, e.thenHalt = false

theorem Channel.quiet_of_ending_eq {a b : Channel} (h : b.ending = a.ending) (ha : a.quiet) : b.quiet := by
  unfold Channel.quiet
  rw [h]; exact ha

theorem Channel.quiet_of_none {ch : Channel} (h : ch.ending = none) : ch.quiet := fun e he => by rw [h] at he; cases he

theorem Channel.quiet_settled {ch : Channel} (writes : Bool) (h : ch.quiet) : (ch.settled writes).quiet := by
  refine Channel.settled_induct (P := Channel.quiet) ?_ ?_ ?_ ?_ ?_ writes h
  · exact fun ch h => Channel.quiet_of_ending_eq (b := ch.givenUp) rfl h
  · exact fun ch f _ _ _ h => Channel.quiet_of_ending_eq (b := ch.released f false) rfl h
  · exact fun ch f _ _ _ h => Channel.quiet_of_ending_eq (b := ch.withHead _) rfl h
  · exact fun ch e _ _ _ => Channel.quiet_of_none (ch := ch.finished e) rfl
  · exact fun ch _ he _ _ _ => Channel.quiet_of_none (ch := ch.stoppedOff) he

theorem Channel.Move.quiet {a b : Channel} (m : Channel.Move false a b) (h : a.quiet) : b.quiet := by
  have same {b : Channel} (e : b.ending = a.ending) : b.quiet := Channel.quiet_of_ending_eq e h
  cases m with
  | lost => exact h
  | cause => exact h
  | link => exact h
  | timer => exact h
  | atLatch => exact h
  | sets => exact h
  | latched => exact h
  | waits => exact h
  | periodEnds writes => exact Channel.quiet_settled writes (same rfl)
  | frameStarts => exact h
  | backlogged => exact h
  | starts => exact same (by rw [Channel.started, Channel.opening_eq])
  | stops writes => exact Channel.quiet_settled writes (same rfl)
  | aborts writes event =>
    refine Channel.quiet_settled writes fun e he => ?_
    rw [← Option.some.inj he]
  | goesOn writes ending hend => exact Channel.quiet_settled writes (same (hend.elim id fun e => by cases e.1))
  | off => exact h
  | captures => exact same (by rw [Channel.opening_eq])
  | cancels =>
    refine same ?_
    rw [Channel.opening_eq]
    show Channel.ending (if _ then _ else _) = _
    split <;> rfl
  | combines f k samples => exact same (by rw [(Channel.Combines.combine a f k samples).rest])
  | flushes writes => exact Channel.quiet_settled writes (same rfl)
  | rowHanded => exact h
  | headerHanded => exact h
  | rowMade writes => exact Channel.quiet_settled writes (same (by rw [(Channel.Combines.rowWritten a).rest]))
  | headerMade writes => exact Channel.quiet_settled writes (same rfl)

end Sys2Proof.Machine
end

section
/-! The credits of a channel, and the ledger through the shared operations (R93, R106, R121, R128, R151 to R154). -/

namespace Sys2Proof.Machine

/-! ## The credits of one channel (R153) -/

/-- The credits of the frames `frames`. -/
def frameCredits (frames : List Frame) : Nat := (frames.filter fun f => f.credit).length

@[simp] theorem frameCredits_nil : frameCredits [] = 0 := rfl

@[simp] theorem frameCredits_cons (f : Frame) (rest : List Frame) : frameCredits (f :: rest) = bitNat f.credit + frameCredits rest := by
  unfold frameCredits
  cases hf : f.credit <;> simp [bitNat, hf]; omega

theorem frameCredits_append (a b : List Frame) : frameCredits (a ++ b) = frameCredits a + frameCredits b := by
  simp [frameCredits]

theorem frameCredits_map {frames : List Frame} {g : Frame → Frame} (hg : ∀ f, (g f).credit = f.credit) : frameCredits (frames.map g) = frameCredits frames := by
  induction frames with
  | nil => rfl
  | cons f rest ih => simp [hg, ih]

theorem Channel.heldCredits_eq (ch : Channel) : ch.heldCredits = bitNat ch.standing + ch.captures.length + frameCredits ch.frames := rfl

/-- What a channel's credits are counted from. -/
theorem Channel.heldCredits_congr {a b : Channel} (hstanding : b.standing = a.standing) (hcaps : b.captures.length = a.captures.length)
    (hframes : frameCredits b.frames = frameCredits a.frames) : b.heldCredits = a.heldCredits := by
  rw [Channel.heldCredits_eq, Channel.heldCredits_eq, hstanding, hcaps, hframes]

theorem length_filter_not_add {α : Type} (l : List α) (p : α → Bool) : (l.filter fun x => !p x).length + (l.filter p).length = l.length := by
  induction l with
  | nil => rfl
  | cons x rest ih =>
    rw [List.filter_cons, List.filter_cons]
    cases p x with
    | true =>
      rw [if_neg (by decide), if_pos rfl, List.length_cons, List.length_cons]
      omega
    | false =>
      rw [if_pos (c := (!false) = true) rfl, if_neg (by decide), List.length_cons, List.length_cons]
      omega

/-- R106: each capture that closes gives its close credit. -/
theorem Channel.capturesLeft_credits (ch : Channel) (c : ChannelId) (f : Frame) (whole : Bool) :
    (ch.capturesLeft f whole).length + (ch.releaseRecords c f whole).length = ch.captures.length := by
  unfold Channel.capturesLeft Channel.releaseRecords
  cases f.tag with
  | none => rfl
  | some tag =>
    have all := length_filter_not_add (ch.captures.map fun k => k.posted tag whole) (Capture.closesWith tag)
    rw [List.length_map] at all
    simpa [Channel.credited, Channel.without, Channel.closeRecords] using all

/-- The release of a frame, its result record not counted. -/
theorem Channel.released_credits {ch : Channel} {f : Frame} {rest : List Frame} (hf : ch.frames = f :: rest) (c : ChannelId) (whole : Bool) :
    (ch.released f whole).heldCredits + (ch.releaseRecords c f whole).length + bitNat f.credit = ch.heldCredits := by
  have left := ch.capturesLeft_credits c f whole
  rw [Channel.heldCredits_eq, Channel.heldCredits_eq, hf, frameCredits_cons]
  show bitNat ch.standing + (ch.capturesLeft f whole).length + frameCredits ch.frames.tail + _ + _ = _
  rw [hf, List.tail_cons]
  omega

theorem Channel.unwrittenRecords_length (ch : Channel) (c : ChannelId) (f : Frame) :
    (ch.unwrittenRecords c f).length = bitNat f.credit + (ch.releaseRecords c f false).length := by
  unfold Channel.unwrittenRecords
  cases f.credit <;> simp [bitNat]; omega

theorem Channel.advance_credits (ch : Channel) (c : ChannelId) (fuel : Nat) :
    (ch.advance fuel).heldCredits + (ch.advanceRecords c fuel).length = ch.heldCredits := by
  induction fuel generalizing ch with
  | zero => rfl
  | succ fuel ih =>
    unfold Channel.advance Channel.advanceRecords
    cases hf : ch.frames with
    | nil => rfl
    | cons f rest =>
      dsimp only
      split
      · have released := Channel.released_credits hf c false
        have later := ih (ch.released f false)
        rw [List.length_append, Channel.unwrittenRecords_length]
        omega
      · split
        · refine Channel.heldCredits_congr rfl rfl ?_
          show frameCredits (f.closingAt ch.lostEvents :: ch.frames.tail) = _
          rw [hf, frameCredits_cons, List.tail_cons, frameCredits_cons]
          rfl
        · rfl


theorem Channel.advanced_credits (ch : Channel) (c : ChannelId) (writes : Bool) :
    (ch.advanced writes).heldCredits + ((ch.decided writes).advanceRecords c ch.frames.length).length = ch.heldCredits := by
  have decided : (ch.decided writes).heldCredits = ch.heldCredits := by
    cases writes with
    | true => rfl
    | false => exact Channel.heldCredits_congr rfl rfl (frameCredits_map fun f => f.giveUpHeader_credit _)
  rw [← decided]
  exact Channel.advance_credits _ c _

/-- R93, R106: the end of a run spends the standing credit on its event, and each close credit on its CAPTURE_CLOSED. -/
theorem Channel.RunFits.ended_credits {ch : Channel} (h : ch.RunFits) (c : ChannelId) : ch.ended.heldCredits + (ch.endedRecords c).length = ch.heldCredits := by
  unfold Channel.ended Channel.endedRecords
  cases hf : ch.frames with
  | cons f rest => rfl
  | nil =>
    cases he : ch.ending with
    | some e =>
      have standing := (h.run (h.inRun_of_ending he)).1
      have all := length_filter_not_add (ch.captures.map fun k => k.drain e.event.closeReason) Capture.drained
      rw [List.length_map] at all
      rw [Channel.heldCredits_eq, Channel.heldCredits_eq, standing]
      show 0 + List.length ((ch.captures.map _).filter _) + frameCredits ch.frames + List.length (ch.finishRecords c e.event) = _
      rw [Channel.finishRecords, List.length_append, List.length_map, List.length_singleton]
      show _ = 1 + _ + _
      omega
    | none =>
      dsimp only
      split
      · next hs =>
        have standing := (h.run (by rw [hs.1]; rfl)).1
        rw [Channel.heldCredits_eq, Channel.heldCredits_eq, standing]
        show 0 + ch.captures.length + frameCredits ch.frames + 1 = 1 + _ + _
        omega
      · rfl

theorem Channel.RunFits.settled_credits {ch : Channel} (h : ch.RunFits) (c : ChannelId) (writes : Bool) :
    (ch.settled writes).heldCredits + (ch.settledRecords c writes).length = ch.heldCredits := by
  have advanced := ch.advanced_credits c writes
  have ended := (h.advanced writes).ended_credits c
  rw [Channel.settled, Channel.settledRecords, List.length_append]
  omega

/-! ## The ledger's sums (R151, R153) -/

/-- R151, R153: the credits reserved are exactly those held, and with the entries occupied they are at most 64. -/
structure State.Funded (s : State) : Prop where
  reserved : s.cpl.reserved = s.channelCredits + s.handCredits
  room : s.cpl.queue.length + s.cpl.reserved ≤ 64

section
variable {s t u : State} {c : ChannelId}

/-- The credits of the other channels stay. -/
theorem State.channelCredits_of_others (h : ∀ d, d ≠ c → t.ch d = s.ch d) :
    t.channelCredits + (s.ch c).heldCredits = s.channelCredits + (t.ch c).heldCredits := by
  unfold State.channelCredits
  match c with
  | 0 => rw [h 1 (by decide), h 2 (by decide), h 3 (by decide)]; omega
  | 1 => rw [h 0 (by decide), h 2 (by decide), h 3 (by decide)]; omega
  | 2 => rw [h 0 (by decide), h 1 (by decide), h 3 (by decide)]; omega
  | 3 => rw [h 0 (by decide), h 1 (by decide), h 2 (by decide)]; omega

theorem State.channelCredits_of_chans (h : t.chans = s.chans) : t.channelCredits = s.channelCredits := by
  unfold State.channelCredits State.ch
  rw [h]

/-- A channel's credit holding bounds the credits of all. -/
theorem State.heldCredits_le (s : State) (c : ChannelId) : (s.ch c).heldCredits ≤ s.channelCredits := by
  unfold State.channelCredits
  match c with
  | 0 => omega
  | 1 => omega
  | 2 => omega
  | 3 => omega

theorem State.handCredits_of_proc (h : t.proc.hand = s.proc.hand) : t.handCredits = s.handCredits := by
  unfold State.handCredits
  rw [h]

theorem State.handCredits_of_some {h : Hand} (hh : s.proc.hand = some h) : s.handCredits = h.credits := by
  unfold State.handCredits
  rw [hh]

theorem State.handCredits_of_none (hh : s.proc.hand = none) : s.handCredits = 0 := by
  unfold State.handCredits
  rw [hh]

/-- A change that no credit is part of. -/
theorem State.Funded.of_eq (f : s.Funded) (hqueue : t.cpl.queue = s.cpl.queue) (hreserved : t.cpl.reserved = s.cpl.reserved)
    (hchans : t.chans = s.chans) (hhand : t.proc.hand = s.proc.hand) : t.Funded := by
  refine ⟨?_, ?_⟩
  · rw [hreserved, State.channelCredits_of_chans hchans, State.handCredits_of_proc hhand]; exact f.reserved
  · rw [hqueue, hreserved]; exact f.room

/-- Records placed with credits that channel `c` held. -/
theorem State.Funded.emit (f : s.Funded) {ch : Channel} {r : List Completion} (h : ch.heldCredits + r.length = (s.ch c).heldCredits) :
    (s.emit c ch r).Funded := by
  have others := State.channelCredits_of_others (s := s) (t := s.emit c ch r) (c := c) fun d hd => State.emit_ch_ne _ _ _ _ hd
  have held := s.heldCredits_le c
  have hand : (s.emit c ch r).handCredits = s.handCredits := State.handCredits_of_proc rfl
  have reserved := f.reserved
  have room := f.room
  rw [State.emit_ch_same] at others
  refine ⟨?_, ?_⟩
  · rw [State.emit_reserved, hand]; omega
  · rw [State.emit_reserved, State.emit_queue, List.length_append]; omega

/-- A change of one channel that none of its credits is part of. -/
theorem State.Funded.upd (f : s.Funded) {g : Channel → Channel} (h : (g (s.ch c)).heldCredits = (s.ch c).heldCredits) : (s.upd c g).Funded := by
  rw [State.upd_eq_emit]
  exact f.emit h

theorem State.Funded.send (f : s.Funded) (m : LinkMsg) : (s.send c m).Funded := f.upd rfl

/-- R154: an offer takes a free credit and uses it at once, or none. -/
theorem State.Funded.offer (f : s.Funded) (c : ChannelId) (r : Completion) : (s.offer c r).Funded := by
  obtain ⟨hfree, h⟩ | ⟨_, h⟩ := State.offer_cases s c r
  · rw [h]
    have reserved := f.reserved
    have room := f.room
    rw [State.creditsFree] at hfree
    refine ⟨?_, ?_⟩
    · show s.cpl.reserved + 1 - 1 = s.channelCredits + s.handCredits
      omega
    · show (s.cpl.queue ++ [r]).length + (s.cpl.reserved + 1 - 1) ≤ 64
      rw [List.length_append, List.length_singleton]
      omega
  · rw [h]; exact f.upd rfl

theorem State.Funded.haltedAfter (f : s.Funded) (c : ChannelId) : (s.haltedAfter c).Funded :=
  State.Funded.offer (f.upd (g := fun ch => { ch with state := .off }) rfl) c _

theorem State.Funded.settle (f : s.Funded) (h : (s.ch c).RunFits) : (s.settle c).Funded := by
  have emitted := f.emit (h.settled_credits c s.regs.iface.busWrites)
  rw [State.settle_eq_emit]
  split
  · exact emitted.haltedAfter c
  · exact emitted

/-- A channel of which, at the end of its run, its event and its frames can be paid. -/
theorem State.Funded.abortRun (f : s.Funded) (hrun : (s.ch c).state.inRun = true) (hstanding : (s.ch c).standing = true)
    (hgoverns : (s.ch c).table.governs) (hpaid : ∀ f ∈ (s.ch c).frames, f.paid) (event : ChannelEvent) : (s.abortRun c event).Funded := by
  have aborted : ((s.upd c fun ch => { ch.abortFrames with timer := ch.timer.idled, ending := some ⟨event, false⟩ }).send c .halt).Funded :=
    (f.upd (Channel.heldCredits_congr rfl rfl (frameCredits_map fun f => f.abort_credit _ _))).send _
  refine aborted.settle ?_
  rw [State.send, State.ch_upd_same, State.ch_upd_same]
  exact Channel.RunFits.of_ending hrun hstanding hgoverns rfl rfl (map_paid (fun f => f.abort_hold _ _) (fun f => f.abort_credit _ _) hpaid)

theorem State.Funded.abortFree (f : s.Funded) (h : (s.ch c).Accounts) (hfree : (s.ch c).inFreeRun = true) (event : ChannelEvent) :
    (s.abortRun c event).Funded := by
  have ⟨hrun, _⟩ := Channel.inFreeRun_iff.mp hfree
  have ⟨hstanding, hgoverns⟩ := h.run hrun
  exact f.abortRun hrun hstanding hgoverns h.paid event

/-- A fault, whatever has become of the link meanwhile. -/
theorem State.Funded.faultChannel (f : s.Funded) (h : (s.ch c).state.inRun = true → (s.ch c).standing = true ∧ (s.ch c).table.governs)
    (hpaid : ∀ f ∈ (s.ch c).frames, f.paid) (cause : FaultCause) : (s.faultChannel c cause).Funded := by
  unfold State.faultChannel
  split
  · next hfree =>
    have ⟨hrun, _⟩ := Channel.inFreeRun_iff.mp hfree
    have ⟨hstanding, hgoverns⟩ := h hrun
    have caused : (s.upd c fun ch => { ch with faultCause := some cause }).Funded := f.upd rfl
    refine caused.abortRun ?_ ?_ ?_ ?_ _
    all_goals rw [State.ch_upd_same]
    · exact hrun
    · exact hstanding
    · exact hgoverns
    · exact hpaid
  · exact f

/-- A pass over the channels, each of which is dealt with on its own. -/
theorem State.Funded.eachChannel {g : ChannelId → State → State} (acts : ∀ c s, ActsOn c s (g c s)) {P : Channel → Prop}
    (step : ∀ c s, State.Funded s → P (s.ch c) → (g c s).Funded) (f : s.Funded) (h : ∀ c, P (s.ch c)) : (s.eachChannel g).Funded := by
  have keep {c d : ChannelId} (hd : d ≠ c) (u : State) : (g c u).ch d = u.ch d := (acts c u).others d hd
  have f0 := step 0 s f (h 0)
  have f1 := step 1 _ f0 (by rw [keep (by decide)]; exact h 1)
  have f2 := step 2 _ f1 (by rw [keep (by decide), keep (by decide)]; exact h 2)
  exact step 3 _ f2 (by rw [keep (by decide), keep (by decide), keep (by decide)]; exact h 3)

theorem State.Funded.enterDisabled (f : s.Funded) (h : ∀ c, (s.ch c).Accounts) : s.enterDisabled.Funded :=
  State.Funded.eachChannel (P := Channel.Accounts) (fun c s => (Settles.settle c s).toActsOn) (fun _ _ f h => f.settle h.toRunFits)
    (f.of_eq rfl rfl rfl rfl) h

/-! ## The frame start -/

/-- R102: the capture table reserves a credit for the frames it takes, where one is free. -/
theorem State.assign_credit (s : State) (c : ChannelId) (f : Frame) :
    (s.assign c f).2.credit = f.credit ∧ (s.assign c f).1.cpl = s.cpl
      ∨ (s.assign c f).2.credit = true ∧ 1 ≤ s.creditsFree ∧ (s.assign c f).1.cpl = (s.reserve 1).cpl := by
  unfold State.assign
  split
  · exact .inl ⟨rfl, rfl⟩
  · split
    · split
      · next hfree =>
        dsimp only
        split
        · exact .inr ⟨rfl, hfree, rfl⟩
        · unfold State.bufferTake
          split
          · exact .inr ⟨rfl, hfree, rfl⟩
          · dsimp only
            split
            · exact .inr ⟨rfl, hfree, rfl⟩
            · exact .inr ⟨rfl, hfree, rfl⟩
      · exact .inl ⟨rfl, rfl⟩
    · exact .inl ⟨rfl, rfl⟩

theorem State.takeFrame_heldCredits (s : State) (c : ChannelId) {f : Frame} (hf : f.hold = .nothing) :
    ((s.takeFrame c f).ch c).heldCredits = (s.ch c).heldCredits + bitNat (s.assign c f).2.credit := by
  obtain ⟨n, caps, _, htake, hch⟩ := State.assign_ch s c hf
  rw [State.takeFrame, State.ch_upd_same, hch, Channel.heldCredits_eq, Channel.heldCredits_eq]
  show _ + caps.length + frameCredits ((s.ch c).frames ++ [(s.assign c f).2]) = _
  rw [frameCredits_append, htake.captures_length, frameCredits_cons, frameCredits_nil]
  show bitNat (s.ch c).standing + _ + _ = _
  omega

theorem State.Funded.takeFrame (f : s.Funded) (c : ChannelId) {fr : Frame} (hhold : fr.hold = .nothing) (hcredit : fr.credit = false) :
    (s.takeFrame c fr).Funded := by
  have acts := ActsOn.takeFrame c s fr
  have others := State.channelCredits_of_others acts.others
  have hand : (s.takeFrame c fr).handCredits = s.handCredits := State.handCredits_of_proc (by rw [acts.proc])
  have held := State.takeFrame_heldCredits s c hhold
  have cpl : (s.takeFrame c fr).cpl = (s.assign c fr).1.cpl := rfl
  have reserved := f.reserved
  have room := f.room
  obtain ⟨hc, hcpl⟩ | ⟨hc, hfree, hcpl⟩ := State.assign_credit s c fr
  · rw [hc, hcredit] at held
    have held' : ((s.takeFrame c fr).ch c).heldCredits = (s.ch c).heldCredits := held
    refine ⟨?_, ?_⟩
    · rw [cpl, hcpl, hand]; omega
    · rw [cpl, hcpl]; exact room
  · rw [hc] at held
    have held' : ((s.takeFrame c fr).ch c).heldCredits = (s.ch c).heldCredits + 1 := held
    rw [State.creditsFree] at hfree
    refine ⟨?_, ?_⟩
    · rw [cpl, hcpl, hand]
      show s.cpl.reserved + 1 = _
      omega
    · rw [cpl, hcpl]
      show s.cpl.queue.length + (s.cpl.reserved + 1) ≤ 64
      omega

theorem State.Funded.drawn (f : s.Funded) : s.drawn.Funded := f.of_eq rfl rfl rfl rfl

theorem State.Funded.frameStart (f : s.Funded) (c : ChannelId) : (s.frameStart c).Funded := by
  unfold State.frameStart
  split
  · exact f
  · next k hk =>
    dsimp only
    generalize hv : (s.upd c _).send c .mark = v
    have begun : v.Funded := by rw [← hv]; exact (f.upd (by rfl)).send _
    split
    · split
      · split
        · split
          · exact (begun.drawn.offer c _).takeFrame c rfl rfl
          · exact (begun.drawn.takeFrame c rfl rfl).offer c _
        · exact (begun.offer c _).takeFrame c rfl rfl
      · exact begun.takeFrame c rfl rfl
    · have counted : (v.backlog c).Funded := begun.upd rfl
      split
      · exact counted.offer c _
      · exact counted

/-! ## The processor's credits (R136, R137) -/

theorem State.Funded.tryFetch (f : s.Funded) (h : s.regs.iface = .active → s.proc.state = .idle → s.proc.hand = none) : s.tryFetch.Funded := by
  unfold State.tryFetch
  split
  · next hc => exact f.of_eq rfl rfl rfl (h hc.1 hc.2.1).symm
  · exact f

/-- The hand spends a credit on a record. -/
theorem State.Funded.placeSpending (f : s.Funded) (r : Completion) (hc : 1 ≤ s.handCredits) : ((s.place r).handSpends).Funded := by
  cases hh : s.proc.hand with
  | none => rw [State.handCredits_of_none hh] at hc; omega
  | some h =>
    have reserved := f.reserved
    have room := f.room
    rw [State.handCredits_of_some hh] at hc reserved
    have spent : (s.place r).handSpends = { s.place r with proc := { s.proc with hand := some { h with credits := h.credits - 1 } } } := by
      unfold State.handSpends
      show (match s.proc.hand with | none => _ | some h => _) = _
      rw [hh]
      rfl
    rw [spent]
    refine ⟨?_, ?_⟩
    · show s.cpl.reserved - 1 = s.channelCredits + (h.credits - 1)
      omega
    · show (s.cpl.queue ++ [r]).length + (s.cpl.reserved - 1) ≤ 64
      rw [List.length_append, List.length_singleton]
      omega

theorem State.handSpends_of_some {h : Hand} (hh : s.proc.hand = some h) :
    s.handSpends = { s with proc := { s.proc with hand := some { h with credits := h.credits - 1 } } } := by
  simp only [State.handSpends, hh]

/-- A credit of the hand passes to channel `c`. -/
theorem State.Funded.updSpending (f : s.Funded) {g : Channel → Channel} (hc : 1 ≤ s.handCredits)
    (hg : (g (s.ch c)).heldCredits = (s.ch c).heldCredits + 1) : ((s.upd c g).handSpends).Funded := by
  cases hh : s.proc.hand with
  | none => rw [State.handCredits_of_none hh] at hc; omega
  | some h =>
    have reserved := f.reserved
    have room := f.room
    rw [State.handCredits_of_some hh] at hc reserved
    have others := State.channelCredits_of_others (s := s) (t := s.upd c g) (c := c) fun d hd => State.ch_upd_ne s g hd
    rw [State.ch_upd_same, hg] at others
    rw [State.handSpends_of_some (s := s.upd c g) hh]
    refine ⟨?_, room⟩
    show s.cpl.reserved = (s.upd c g).channelCredits + (h.credits - 1)
    omega

/-- R137: the answer places the CMD_RESULT with one credit of the hand, and the others go back. -/
theorem State.Funded.answer (f : s.Funded) {h : Hand} (hh : s.proc.hand = some h) (hc : 1 ≤ h.credits) (code : ResultCode) (gen : Option Gen) :
    (s.answer h code gen).Funded := by
  have reserved := f.reserved
  have room := f.room
  rw [State.handCredits_of_some hh] at reserved
  refine ⟨?_, ?_⟩
  · show s.cpl.reserved - 1 - (h.credits - 1) = s.channelCredits + 0
    omega
  · show (s.cpl.queue ++ [cmdResultRecord h code gen]).length + (s.cpl.reserved - 1 - (h.credits - 1)) ≤ 64
    rw [List.length_append, List.length_singleton]
    omega

theorem State.Funded.finishCommand (f : s.Funded) (hchans : ∀ c, (s.ch c).Accounts) (hc : 1 ≤ s.handCredits) (code : ResultCode) (gen : Option Gen) :
    (s.finishCommand code gen).Funded := by
  cases hh : s.proc.hand with
  | none => rw [State.handCredits_of_none hh] at hc; omega
  | some h =>
    rw [State.handCredits_of_some hh] at hc
    have answered := f.answer hh hc code gen
    rw [State.finishCommand_of_some hh]
    split
    · exact answered.enterDisabled hchans
    · exact answered.tryFetch fun _ _ => rfl

/-- R136: the processor reserves what it waits for where it is free. -/
theorem State.Funded.askCredits (f : s.Funded) : s.askCredits.Funded := by
  obtain h | ⟨h, want, _, hh, hfree, _, heq⟩ := State.askCredits_cases s
  · rw [h]; exact f
  · rw [heq]
    have reserved := f.reserved
    have room := f.room
    rw [State.handCredits_of_some hh] at reserved
    rw [State.creditsFree] at hfree
    by_cases hw : want = 0
    · subst hw
      exact f.of_eq rfl rfl rfl hh.symm
    · refine ⟨?_, ?_⟩
      · show s.cpl.reserved + want = s.channelCredits + (h.credits + want)
        omega
      · show s.cpl.queue.length + (s.cpl.reserved + want) ≤ 64
        omega

theorem State.Funded.waitCredit (f : s.Funded) : s.waitCredit.Funded := State.Funded.askCredits (f.of_eq rfl rfl rfl rfl)

end

end Sys2Proof.Machine
end

section
/-! The credit ledger is kept by every step (R88, R128, R132 to R137, R149, R151, R153). -/

namespace Sys2Proof.Machine

/-! ## The processor in its states (R132, R136, R149) -/

/-- The processor is sound, IDLE in HALTED, and IDLE without a record outside it. -/
structure State.ProcFits (s : State) : Prop where
  sound : s.proc.sound
  halted : s.regs.iface = .halted → s.proc.state = .idle
  idle : s.regs.iface ≠ .halted → s.proc.state = .idle → s.proc.hand = none

section
variable {s t u : State} {c : ChannelId}

theorem State.ProcFits.of_eq (h : s.ProcFits) (hproc : t.proc = s.proc) (hiface : t.regs.iface = .halted ↔ s.regs.iface = .halted) : t.ProcFits := by
  refine ⟨?_, ?_, ?_⟩
  · rw [hproc]; exact h.sound
  · rw [hproc, hiface]; exact h.halted
  · rw [hproc, Ne, hiface]; exact h.idle

/-- A processor that is IDLE with no record. -/
theorem State.ProcFits.of_reset (h : s.proc = Processor.reset) : s.ProcFits := by
  refine ⟨?_, fun _ => (by rw [h]; rfl), fun _ _ => (by rw [h]; rfl)⟩
  rw [h]
  exact ⟨rfl, fun _ hk => (by cases hk), fun hr => (by cases hr)⟩

/-- A processor that fetches. -/
theorem State.ProcFits.of_fetching {r : Option BusRead} (h : s.proc = { state := .fetching, hand := none, read := r }) (hiface : s.regs.iface ≠ .halted) :
    s.ProcFits := by
  refine ⟨?_, fun e => absurd e hiface, fun _ _ => (by rw [h])⟩
  rw [h]
  exact ⟨rfl, fun _ hk => (by cases hk), fun _ => rfl⟩

/-- R132: a record in hand outside HALTED, not taken. -/
theorem State.ProcFits.of_hand {h : Hand} {st : ProcState} (hproc : s.proc = { state := st, hand := some h, read := none })
    (hst : st = .waitCredit ∨ st = .executing ∧ (commandOf h.bytes).executingCredits ≤ h.credits) (htaken : h.taken = false)
    (hiface : s.regs.iface ≠ .halted) : s.ProcFits := by
  obtain rfl | ⟨rfl, hc⟩ := hst
  · refine ⟨?_, fun e => absurd e hiface, fun _ e => by rw [hproc] at e; cases e⟩
    rw [hproc]
    exact ⟨by simp [Processor.handFits, htaken], fun _ _ e => absurd rfl e, fun e => by cases e⟩
  · refine ⟨?_, fun e => absurd e hiface, fun _ e => by rw [hproc] at e; cases e⟩
    rw [hproc]
    exact ⟨by simp [Processor.handFits, htaken], fun k hk _ => (by obtain rfl := Option.some.inj hk; exact hc), fun e => (by cases e)⟩

theorem State.ProcFits.tryFetch (h : s.ProcFits) : s.tryFetch.ProcFits := by
  unfold State.tryFetch
  split
  · next hc =>
    refine State.ProcFits.of_fetching rfl ?_
    show s.regs.iface ≠ .halted
    rw [hc.1]; decide
  · exact h

theorem ActsOn.procFits (acts : ActsOn c s t) (h : s.ProcFits) : t.ProcFits :=
  h.of_eq acts.proc (by rw [acts.regs])

theorem State.eachChannel_proc {g : ChannelId → State → State} (acts : ∀ c s, ActsOn c s (g c s)) (s : State) : (s.eachChannel g).proc = s.proc := by
  unfold State.eachChannel
  rw [(acts 3 _).proc, (acts 2 _).proc, (acts 1 _).proc, (acts 0 _).proc]

theorem State.eachChannel_regs {g : ChannelId → State → State} (acts : ∀ c s, ActsOn c s (g c s)) (s : State) : (s.eachChannel g).regs = s.regs := by
  unfold State.eachChannel
  rw [(acts 3 _).regs, (acts 2 _).regs, (acts 1 _).regs, (acts 0 _).regs]

theorem State.enterDisabled_proc (s : State) : s.enterDisabled.proc = s.proc :=
  State.eachChannel_proc (fun c s => (Settles.settle c s).toActsOn) { s with regs := { s.regs with iface := .disabled } }

theorem State.enterDisabled_regs (s : State) : s.enterDisabled.regs = { s.regs with iface := .disabled } :=
  State.eachChannel_regs (fun c s => (Settles.settle c s).toActsOn) { s with regs := { s.regs with iface := .disabled } }

/-- R137: behind a CMD_RESULT the processor is IDLE, or fetches. -/
theorem State.ProcFits.finishCommand {h : Hand} (hh : s.proc.hand = some h) (code : ResultCode) (gen : Option Gen) : (s.finishCommand code gen).ProcFits := by
  have answered : (s.answer h code gen).ProcFits := State.ProcFits.of_reset rfl
  rw [State.finishCommand_of_some hh]
  split
  · exact State.ProcFits.of_reset (State.enterDisabled_proc _)
  · exact answered.tryFetch

theorem Command.executingCredits_le_two (cmd : Command) : cmd.executingCredits ≤ 2 := by
  cases cmd <;> simp [Command.executingCredits]

theorem Command.one_le_executingCredits (cmd : Command) : 1 ≤ cmd.executingCredits := by
  cases cmd <;> simp [Command.executingCredits]

theorem State.executingCredits_le_creditNeed (s : State) (cmd : Command) : cmd.executingCredits ≤ s.creditNeed cmd := by
  cases cmd with
  | stop c abort =>
    show 1 ≤ if _ then 2 else 1
    split <;> decide
  | set => exact Nat.le_refl _
  | start => exact Nat.le_refl _
  | capture => exact Nat.le_refl _
  | cancel => exact Nat.le_refl _
  | postBuffers => exact Nat.le_refl _
  | reclaim => exact Nat.le_refl _
  | query => exact Nat.le_refl _
  | rejected => exact Nat.le_refl _

/-- A record that waits for credits is not taken, and the port reads nothing for it. -/
theorem State.ProcFits.waiting (h : s.ProcFits) {k : Hand} (hst : s.proc.state = .waitCredit) (hk : s.proc.hand = some k) :
    k.taken = false ∧ s.proc.read = none ∧ s.regs.iface ≠ .halted := by
  obtain ⟨hfits, _, hread⟩ := h.sound
  refine ⟨?_, ?_, fun e => ?_⟩
  · simpa [Processor.handFits, hst, hk] using hfits
  · cases hr : s.proc.read with
    | none => rfl
    | some r =>
      have fetching := hread (by rw [hr]; rfl)
      rw [hst] at fetching; cases fetching
  · have idle := h.halted e
    rw [hst] at idle; cases idle

theorem State.ProcFits.askCredits (h : s.ProcFits) : s.askCredits.ProcFits := by
  obtain heq | ⟨k, want, hst, hk, _, hwant, heq⟩ := State.askCredits_cases s
  · rw [heq]; exact h
  · obtain ⟨htaken, hread, hiface⟩ := h.waiting hst hk
    rw [heq]
    refine State.ProcFits.of_hand (h := { k with credits := k.credits + want }) (congrArg (Processor.mk _ _) hread) (.inr ⟨rfl, ?_⟩) htaken hiface
    show _ ≤ k.credits + want
    rw [hwant]
    split
    · exact Nat.le_trans (State.executingCredits_le_creditNeed s _) (Nat.le_add_left _ _)
    · have two := (commandOf k.bytes).executingCredits_le_two
      show (commandOf k.bytes).executingCredits ≤ _
      omega

/-- R118, R140: a record that is EXECUTING and not taken may wait for more credits. -/
theorem State.ProcFits.waitCredit {k : Hand} (hread : s.proc.read = none) (hk : s.proc.hand = some k) (htaken : k.taken = false)
    (hiface : s.regs.iface ≠ .halted) : s.waitCredit.ProcFits := by
  have waits : State.ProcFits { s with proc := { s.proc with state := .waitCredit } } :=
    State.ProcFits.of_hand (congr (congrArg (Processor.mk _) hk) hread) (.inl rfl) htaken hiface
  exact waits.askCredits

/-- A record that its channel has taken is a STOP with ABORT with its result credit (R88, R128). -/
theorem State.ProcFits.taken (h : s.ProcFits) {k : Hand} (hk : s.proc.hand = some k) (htaken : k.taken = true) :
    k.abortTaken = true ∧ s.proc.state ≠ .waitCredit := by
  obtain ⟨hfits, _, _⟩ := h.sound
  unfold Processor.handFits at hfits
  rw [hk] at hfits
  cases hst : s.proc.state with
  | idle => rw [hst] at hfits; exact ⟨hfits, by decide⟩
  | fetching => rw [hst] at hfits; cases hfits
  | waitCredit => rw [hst] at hfits; simp [htaken] at hfits
  | executing => rw [hst] at hfits; exact ⟨by simpa [htaken] using hfits, by decide⟩

theorem Hand.abortTaken_iff {k : Hand} : k.abortTaken = true ↔ k.taken = true ∧ 1 ≤ k.credits ∧ ∃ c, commandOf k.bytes = .stop c true := by
  unfold Hand.abortTaken
  cases commandOf k.bytes <;> simp [and_assoc]

/-- A processor that is IDLE, with at most a STOP with ABORT in hand that its channel has taken, in HALTED. -/
theorem State.ProcFits.of_halted {hand : Option Hand} (hproc : s.proc = { state := .idle, hand := hand, read := none })
    (hhand : ∀ k ∈ hand, k.abortTaken = true) (hiface : s.regs.iface = .halted) : s.ProcFits := by
  refine ⟨?_, fun _ => by rw [hproc], fun e => absurd hiface e⟩
  rw [hproc]
  refine ⟨?_, fun k hk _ => ?_, fun e => by cases e⟩
  · cases hand with
    | none => rfl
    | some k => exact hhand k rfl
  · obtain ⟨_, hc, d, hcmd⟩ := Hand.abortTaken_iff.mp (hhand k hk)
    rw [hcmd]; exact hc

/-! ## The books -/

/-- The ledger but for the ends of runs that report HALT: the credits add up, the processor fits its state, and the channels agree with theirs. -/
structure State.Books (s : State) : Prop where
  funded : s.Funded
  proc : s.ProcFits
  chans : ∀ c, (s.ch c).Accounts

theorem State.ledger_iff (s : State) : s.ledger ↔ s.Books ∧ (s.regs.iface ≠ .halted → ∀ c : ChannelId, (s.ch c).quiet) := by
  constructor
  · rintro ⟨reserved, room, sound, chans, halted, idle, quiet⟩
    exact ⟨⟨⟨reserved, room⟩, ⟨sound, halted, fun hne hi => idle ⟨hne, hi⟩⟩, fun c => (Channel.accounts_iff _).mpr (chans c)⟩, quiet⟩
  · rintro ⟨⟨⟨reserved, room⟩, ⟨sound, halted, idle⟩, chans⟩, quiet⟩
    exact ⟨reserved, room, sound, fun c => (Channel.accounts_iff _).mp (chans c), halted, fun h => idle h.1 h.2, quiet⟩

theorem State.MovesTo.accounts {halts : Bool} (m : s.MovesTo halts t) (h : ∀ c, (s.ch c).Accounts) (c : ChannelId) : (t.ch c).Accounts :=
  (m c).keep (fun m => m.accounts) (h c)

theorem State.Books.of_next (h : Host.Outcome.next u = (.next t : Host.Outcome State Fault Refusal)) (b : u.Books) : t.Books := by
  cases h
  exact b

/-- A change that neither the processor, its credits nor the channels are part of. -/
theorem State.Books.of_eq (b : s.Books) (hqueue : t.cpl.queue = s.cpl.queue) (hreserved : t.cpl.reserved = s.cpl.reserved)
    (hchans : t.chans = s.chans) (hproc : t.proc = s.proc) (hiface : t.regs.iface = .halted ↔ s.regs.iface = .halted) : t.Books where
  funded := b.funded.of_eq hqueue hreserved hchans (by rw [hproc])
  proc := b.proc.of_eq hproc hiface
  chans c := by rw [State.ch, hchans]; exact b.chans c

/-- An event of one channel. -/
theorem State.Books.actsOn (b : s.Books) (acts : ActsOn c s t) (m : s.MovesTo true t) (f : t.Funded) : t.Books :=
  ⟨f, acts.procFits b.proc, m.accounts b.chans⟩

/-- A record answered: the credits may have moved to channels or records before. -/
theorem State.Books.finishCommand (f : s.Funded) (hchans : ∀ c, (s.ch c).Accounts) {h : Hand} (hh : s.proc.hand = some h) (hc : 1 ≤ h.credits)
    (code : ResultCode) (gen : Option Gen) : (s.finishCommand code gen).Books where
  funded := f.finishCommand hchans (by rw [State.handCredits_of_some hh]; exact hc) code gen
  proc := State.ProcFits.finishCommand hh code gen
  chans := (State.MovesTo.finishCommand (halts := true) s code gen).accounts hchans

/-- A record presented to its block: EXECUTING, not taken, with the credits its kind needs. -/
theorem State.Books.presented (b : s.Books) {cmd : Command} (h : s.presented = some cmd) :
    ∃ k, s.proc.hand = some k ∧ k.taken = false ∧ commandOf k.bytes = cmd ∧ cmd.executingCredits ≤ k.credits ∧ s.proc.state = .executing
      ∧ s.proc.read = none ∧ s.regs.iface ≠ .halted := by
  obtain ⟨hst, k, hk, htaken, hcmd⟩ := State.presented_some s cmd h
  obtain ⟨_, hcredits, hread⟩ := b.proc.sound
  refine ⟨k, hk, htaken, hcmd, ?_, hst, ?_, fun e => ?_⟩
  · rw [← hcmd]; exact hcredits k hk (by rw [hst]; decide)
  · cases hr : s.proc.read with
    | none => rfl
    | some r =>
      have fetching := hread (by rw [hr]; rfl)
      rw [hst] at fetching; cases fetching
  · have idle := b.proc.halted e
    rw [hst] at idle; cases idle

/-- A record answered by its block with nothing changed. -/
theorem State.Books.answerPresented (b : s.Books) {cmd : Command} (h : s.presented = some cmd) (code : ResultCode) (gen : Option Gen) :
    (s.finishCommand code gen).Books := by
  obtain ⟨k, hk, _, _, hc, _⟩ := b.presented h
  exact State.Books.finishCommand b.funded b.chans hk (Nat.le_trans cmd.one_le_executingCredits hc) code gen

/-- A STOP with ABORT that waited is answered once its channel has gone on (R128). -/
theorem State.Books.finishWaitingStop (b : s.Books) : s.finishWaitingStop.Books := by
  unfold State.finishWaitingStop
  split
  · exact b
  · next k hk =>
    split
    · next htaken =>
      obtain ⟨_, hc, _⟩ := Hand.abortTaken_iff.mp (b.proc.taken hk htaken).1
      split
      · split
        · exact State.Books.finishCommand b.funded b.chans hk hc _ _
        · exact b
      · exact b
    · exact b

/-- What a frame start needs of the timer (R5, R8). -/
theorem State.Books.frameStart (b : s.Books) (hwhen : (s.ch c).table.latched ≠ none → (s.ch c).timer.startsNow) : (s.frameStart c).Books :=
  b.actsOn (ActsOn.frameStart c s) (State.MovesTo.frameStart hwhen) (b.funded.frameStart c)

/-! ## HALTED (R95, R149, R171) -/

theorem State.Funded.haltChannel (f : s.Funded) (h : (s.ch c).Accounts) : (State.haltChannel c s).Funded := by
  have free {st : ChannelState} (hst : st.inRun = true) (hend : (s.ch c).ending = none) (h : (s.ch c).state = st) : (s.ch c).inFreeRun = true :=
    Channel.inFreeRun_iff.mpr ⟨by rw [h]; exact hst, hend⟩
  unfold State.haltChannel
  split
  · next e he =>
    have marked : (s.upd c fun ch => { ch with ending := some e.halted }).Funded := f.upd rfl
    refine marked.settle ?_
    rw [State.ch_upd_same]
    exact h.toRunFits.withEnding (by rw [he]; rfl)
  · exact f
  · next he hs => exact f.abortFree h (free rfl he hs) _
  · next he hs => exact f.abortFree h (free rfl he hs) _
  · next he hs => exact f.abortFree h (free rfl he hs) _
  · have off : (s.upd c fun ch => { ch with state := .off }).Funded := f.upd rfl
    exact off.offer c _

theorem State.discardHand_proc (s : State) : s.discardHand.proc = { state := .idle, hand := s.proc.hand.bind Hand.keptByHalt, read := none } := rfl

theorem State.discardHand_of_taken {h : Hand} (hh : s.proc.hand = some h) (ht : h.taken = true) :
    s.discardHand.cpl = s.cpl ∧ s.discardHand.proc.hand = some h := by
  simp [State.discardHand, hh, ht, Hand.keptByHalt]

theorem State.discardHand_of_not_taken {h : Hand} (hh : s.proc.hand = some h) (ht : h.taken = false) :
    s.discardHand.cpl = (s.giveBack h.credits).cpl ∧ s.discardHand.proc.hand = none := by
  simp [State.discardHand, hh, ht, Hand.keptByHalt]

theorem State.discardHand_of_none (hh : s.proc.hand = none) : s.discardHand.cpl = s.cpl ∧ s.discardHand.proc.hand = none := by
  simp [State.discardHand, hh]

theorem State.Funded.discardHand (f : s.Funded) : s.discardHand.Funded := by
  have reserved := f.reserved
  have room := f.room
  cases hh : s.proc.hand with
  | none =>
    obtain ⟨hcpl, hhand⟩ := State.discardHand_of_none hh
    exact f.of_eq (by rw [hcpl]) (by rw [hcpl]) (State.discardHand_chans s) (by rw [hhand, hh])
  | some h =>
    rw [State.handCredits_of_some hh] at reserved
    cases ht : h.taken with
    | true =>
      obtain ⟨hcpl, hhand⟩ := State.discardHand_of_taken hh ht
      exact f.of_eq (by rw [hcpl]) (by rw [hcpl]) (State.discardHand_chans s) (by rw [hhand, hh])
    | false =>
      obtain ⟨hcpl, hhand⟩ := State.discardHand_of_not_taken hh ht
      refine ⟨?_, ?_⟩
      · rw [hcpl, State.handCredits_of_none hhand, State.channelCredits_of_chans (State.discardHand_chans s)]
        show s.cpl.reserved - h.credits = _
        omega
      · rw [hcpl]
        show s.cpl.queue.length + (s.cpl.reserved - h.credits) ≤ 64
        omega

theorem State.discardHand_regs (s : State) : s.discardHand.regs = s.regs := by
  unfold State.discardHand
  split
  · rfl
  · split <;> rfl

/-- R149: the hand that HALTED leaves is a STOP with ABORT that its channel has taken. -/
theorem State.ProcFits.discardHand (h : s.ProcFits) (hiface : u.regs.iface = .halted) (hproc : u.proc = s.proc) : u.discardHand.ProcFits := by
  refine State.ProcFits.of_halted (State.discardHand_proc u) (fun k hk => ?_) (by rw [State.discardHand_regs]; exact hiface)
  rw [hproc] at hk
  obtain ⟨j, hj, hkeep⟩ := Option.bind_eq_some_iff.mp hk
  unfold Hand.keptByHalt at hkeep
  split at hkeep
  · next htaken =>
    obtain rfl := Option.some.inj hkeep
    exact (h.taken hj htaken).1
  · cases hkeep

theorem State.deliver_cpl (s : State) (m : Interrupt) : (s.deliver m).cpl = s.cpl := by
  unfold State.deliver
  split <;> rfl

theorem State.deliver_proc (s : State) (m : Interrupt) : (s.deliver m).proc = s.proc := by
  unfold State.deliver
  split <;> rfl

theorem State.deliver_regs (s : State) (m : Interrupt) : (s.deliver m).regs = s.regs := by
  unfold State.deliver
  split <;> rfl

theorem State.Books.deliver (b : s.Books) (m : Interrupt) : (s.deliver m).Books :=
  b.of_eq (by rw [State.deliver_cpl]) (by rw [State.deliver_cpl]) (State.deliver_chans s m) (State.deliver_proc s m) (by rw [State.deliver_regs])

theorem State.Books.announce (b : s.Books) : s.announce.Books := by
  unfold State.announce
  split
  · have disarmed : State.Books { s with cpl := { s.cpl with armed := false } } := b.of_eq rfl rfl rfl rfl Iff.rfl
    exact disarmed.deliver _
  · exact b

theorem State.Books.announceHalt (b : s.Books) : s.announceHalt.Books := by
  unfold State.announceHalt
  split
  · exact b.deliver _
  · exact b

theorem State.Books.arm (b : s.Books) : s.arm.Books := by
  have armed : State.Books { s with cpl := { s.cpl with armed := true } } := b.of_eq rfl rfl rfl rfl Iff.rfl
  unfold State.arm
  dsimp only
  split
  · exact armed.announce
  · exact armed

theorem State.Books.enterHalted (b : s.Books) (cause : HaltCause) : (s.enterHalted cause).Books := by
  unfold State.enterHalted
  split
  · exact b
  · dsimp only
    generalize hu : ({ s with regs := { s.regs with iface := .halted, haltCause := cause } } : State) = u
    have uchans : u.chans = s.chans := by rw [← hu]
    have ufunded : u.Funded := b.funded.of_eq (by rw [← hu]) (by rw [← hu]) uchans (by rw [← hu])
    have discarded : u.discardHand.Books := by
      refine ⟨ufunded.discardHand, b.proc.discardHand (by rw [← hu]) (by rw [← hu]), fun c => ?_⟩
      rw [State.ch, State.discardHand_chans, uchans]
      exact b.chans c
    generalize u.discardHand = v at discarded
    have acts : ∀ c s, ActsOn c s (State.haltChannel c s) := fun c s => (Settles.haltChannel c s).toActsOn
    have stopped : (v.eachChannel State.haltChannel).Books := by
      refine ⟨discarded.funded.eachChannel acts (P := Channel.Accounts) (fun _ _ f h => f.haltChannel h) discarded.chans, ?_,
        (State.MovesTo.eachChannel State.MovesTo.haltChannel v).accounts discarded.chans⟩
      exact discarded.proc.of_eq (State.eachChannel_proc acts v) (by rw [State.eachChannel_regs acts v])
    exact stopped.finishWaitingStop.announceHalt

/-! ## The commands -/

theorem State.Books.tryFetch (b : s.Books) : s.tryFetch.Books where
  funded := b.funded.tryFetch fun hactive hidle => b.proc.idle (by rw [hactive]; decide) hidle
  proc := b.proc.tryFetch
  chans c := by rw [State.tryFetch_ch]; exact b.chans c

theorem State.Books.enterActive (b : s.Books) (hne : s.regs.iface ≠ .halted) : s.enterActive.Books := by
  have active : State.Books { s with regs := { s.regs with iface := .active } } :=
    b.of_eq rfl rfl rfl rfl ⟨fun e => (by cases e), fun e => absurd e hne⟩
  exact active.tryFetch

theorem State.Books.enterDisabled (b : s.Books) (hne : s.regs.iface ≠ .halted) : s.enterDisabled.Books where
  funded := b.funded.enterDisabled b.chans
  proc := b.proc.of_eq (State.enterDisabled_proc s) (by rw [State.enterDisabled_regs]; exact ⟨fun e => (by cases e), fun e => absurd e hne⟩)
  chans := (State.MovesTo.enterDisabled (halts := true) s).accounts b.chans

theorem execEnable_books {reserved : BitVec 30} (b : s.Books) (h : execEnable reserved s = .next t) : t.Books := by
  unfold execEnable at h
  split at h
  · next hi =>
    split at h
    · exact State.Books.of_next h (b.enterActive (by rw [hi]; decide))
    · exact State.Books.of_next h (b.of_eq rfl rfl rfl rfl Iff.rfl)
  · next hi => exact State.Books.of_next h (b.enterActive (by rw [hi]; decide))
  · exact State.Books.of_next h b
  · exact State.Books.of_next h b

theorem execDisable_books {reserved : BitVec 30} (b : s.Books) (h : execDisable reserved s = .next t) : t.Books := by
  unfold execDisable at h
  split at h
  · next hi =>
    split at h
    · exact State.Books.of_next h (b.enterDisabled (by rw [hi]; decide))
    · exact State.Books.of_next h (b.of_eq rfl rfl rfl rfl ⟨fun e => (by cases e), fun e => by rw [hi] at e; cases e⟩)
  · exact State.Books.of_next h b
  · exact State.Books.of_next h b
  · exact State.Books.of_next h b

theorem State.Books.configure (b : s.Books) (reg : ConfigReg) (value : Word) : (s.configure reg value).Books := by
  cases reg <;> exact b.of_eq rfl rfl rfl rfl Iff.rfl

theorem execConfigWrite_books {reg : ConfigReg} {value : Word} (b : s.Books) (h : execConfigWrite reg value s = .next t) : t.Books := by
  unfold execConfigWrite at h
  split at h
  · exact State.Books.of_next h (b.configure reg value)
  · exact State.Books.of_next h (b.of_eq rfl rfl rfl rfl Iff.rfl)

theorem execCmdTailWrite_books {value : Word} (b : s.Books) (h : execCmdTailWrite value s = .next t) : t.Books := by
  have moved : State.Books { s with regs := { s.regs with cmdTail := value.toNat } } := b.of_eq rfl rfl rfl rfl Iff.rfl
  unfold execCmdTailWrite at h
  split at h
  · exact State.Books.of_next h b
  · split at h
    · split at h
      · exact State.Books.of_next h moved.tryFetch
      · exact State.Books.of_next h (b.enterHalted _)
    · exact State.Books.of_next h (b.of_eq rfl rfl rfl rfl Iff.rfl)

theorem execCplHeadWrite_books {value : Word} (b : s.Books) (h : execCplHeadWrite value s = .next t) : t.Books :=
  State.Books.of_next h (State.Books.arm (b.of_eq rfl rfl rfl rfl Iff.rfl))

theorem execIntControlWrite_books {value : Word} (b : s.Books) (h : execIntControlWrite value s = .next t) : t.Books := by
  unfold execIntControlWrite at h
  split at h
  · exact State.Books.of_next h (State.Books.arm (b.of_eq rfl rfl rfl rfl Iff.rfl))
  · exact State.Books.of_next h (b.of_eq rfl rfl rfl rfl Iff.rfl)

theorem execRegisterWriteIgnored_books {offset bytes : Nat} {value : Word} (b : s.Books) (h : execRegisterWriteIgnored offset bytes value s = .next t) :
    t.Books := by
  unfold execRegisterWriteIgnored at h
  split at h
  · exact State.Books.of_next h b
  · cases h

theorem execPortDown_books (b : s.Books) (h : execPortDown s = .next t) : t.Books := by
  have down : State.Books { s with port := { s.port with linkUp := false } } := b.of_eq rfl rfl rfl rfl Iff.rfl
  unfold execPortDown at h
  split at h
  · exact State.Books.of_next h (down.enterHalted _)
  · exact State.Books.of_next h b

/-- R174: enabling bus mastering hands a fetch that waited for it. -/
theorem execBusMasteringChange_books {enabled : Bool} (b : s.Books) (h : execBusMasteringChange enabled s = .next t) : t.Books := by
  refine State.Books.of_next h ?_
  by_cases hc : enabled = true ∧ s.proc.state = .fetching ∧ s.proc.read = none
  · refine ⟨b.funded.of_eq rfl rfl rfl (by rw [if_pos hc]), ?_, b.chans⟩
    have hne : s.regs.iface ≠ .halted := fun e => by
      have idle := b.proc.halted e
      rw [hc.2.1] at idle; cases idle
    have hnone : s.proc.hand = none := by
      have fits := b.proc.sound.1
      simpa [Processor.handFits, hc.2.1] using fits
    refine State.ProcFits.of_fetching (r := some s.regs.slotRead) ((if_pos hc).trans ?_) hne
    rw [hc.2.1, hnone]
  · exact b.of_eq rfl rfl rfl (by rw [if_neg hc]) Iff.rfl

/-- A processor whose read the port holds is FETCHING with no record, outside HALTED. -/
theorem State.Books.fetching (b : s.Books) {r : BusRead} (hr : s.proc.read = some r) : s.proc.hand = none ∧ s.regs.iface ≠ .halted := by
  obtain ⟨hfits, _, hread⟩ := b.proc.sound
  have fetching := hread (by rw [hr]; rfl)
  refine ⟨?_, fun e => ?_⟩
  · simpa [Processor.handFits, fetching] using hfits
  · have idle := b.proc.halted e
    rw [fetching] at idle; cases idle

theorem State.Books.askCredits (b : s.Books) : s.askCredits.Books :=
  ⟨b.funded.askCredits, b.proc.askCredits, fun c => by rw [State.ch, State.askCredits_chans]; exact b.chans c⟩

theorem State.Books.recordArrives (b : s.Books) {r : BusRead} (hr : s.proc.read = some r) (bytes : List Byte) : (s.recordArrives bytes).Books := by
  obtain ⟨hnone, hne⟩ := b.fetching hr
  have reserved := b.funded.reserved
  rw [State.handCredits_of_none hnone] at reserved
  have arrived : State.Books { s with proc := { state := .waitCredit, hand := some ⟨s.regs.cmdHead, bytes, 0, false⟩, read := none } } :=
    ⟨⟨reserved, b.funded.room⟩, State.ProcFits.of_hand rfl (.inl rfl) rfl hne, b.chans⟩
  exact arrived.askCredits

theorem execFetchComplete_books {issue : Issue} {result : FetchResult} (b : s.Books) (h : execFetchComplete issue result s = .next t) : t.Books := by
  unfold execFetchComplete at h
  split at h
  · exact State.Books.of_next h (b.of_eq rfl rfl rfl rfl Iff.rfl)
  · split at h
    · exact State.Books.of_next h b
    · next r bytes hr => exact State.Books.of_next h (b.recordArrives hr bytes)
    · next r hr =>
      obtain ⟨hnone, _⟩ := b.fetching hr
      have reset : State.Books { s with proc := Processor.reset } :=
        ⟨b.funded.of_eq rfl rfl rfl hnone.symm, State.ProcFits.of_reset rfl, b.chans⟩
      exact State.Books.of_next h (reset.enterHalted _)

theorem execRecordRejected_books (b : s.Books) (h : execRecordRejected s = .next t) : t.Books := by
  unfold execRecordRejected at h
  split at h
  · next hp => exact State.Books.of_next h (b.answerPresented hp _ _)
  · exact State.Books.of_next h b

/-- A record answered behind a change of one channel that none of its credits is part of. -/
theorem State.Books.finishUpd (b : s.Books) {cmd : Command} (h : s.presented = some cmd) {g : Channel → Channel}
    (hcredits : (g (s.ch c)).heldCredits = (s.ch c).heldCredits) (m : s.MovesTo true (s.upd c g)) (code : ResultCode) (gen : Option Gen) :
    ((s.upd c g).finishCommand code gen).Books := by
  obtain ⟨k, hk, _, _, hc, _⟩ := b.presented h
  exact State.Books.finishCommand (b.funded.upd hcredits) (m.accounts b.chans) hk (Nat.le_trans cmd.one_le_executingCredits hc) code gen

theorem State.Books.setCommand (b : s.Books) {flags : SetFlags} {edits : RawEdits} (h : s.presented = some (.set c flags edits)) :
    (s.setCommand c flags edits).Books := by
  have answered (code : ResultCode) (gen : Option Gen) : (s.finishCommand code gen).Books := b.answerPresented h code gen
  unfold State.setCommand
  dsimp only
  split
  · split
    · refine b.finishUpd h rfl (State.MovesTo.upd s c _ ?_) _ _
      exact (Channel.Move.sets { (s.ch c).table with working := ((s.ch c).table.trial flags.revert).edited edits } rfl (.inl rfl)).moves
    · split
      · next hok =>
        refine b.finishUpd h rfl (State.MovesTo.upd s c _ (Channel.Move.sets (SettingsTable.commit _ _ _) rfl (.inr ?_)).moves) _ _
        rintro k hk
        obtain rfl := Option.some.inj hk
        exact Settings.combinationOk_wholeGroups hok
      · exact answered _ _
  · exact answered _ _

/-! ## START, STOP, CAPTURE, CANCEL, QUERY and the buffer commands -/

theorem Channel.opening_credits (ch : Channel) : ch.opening.heldCredits = ch.heldCredits := by
  unfold Channel.opening
  split
  · exact Channel.heldCredits_congr rfl (openFirst_length _) rfl
  · rfl

theorem Channel.started_credits {ch : Channel} (g : GoverningSet) (h : ch.standing = false) : (ch.started g).heldCredits = ch.heldCredits + 1 := by
  rw [Channel.started, Channel.opening_credits, Channel.heldCredits_eq, Channel.heldCredits_eq, h]
  show 1 + ch.captures.length + frameCredits ch.frames = 0 + ch.captures.length + frameCredits ch.frames + 1
  omega

theorem State.Books.startAccepted (b : s.Books) (h : s.presented = some (.start c)) {g : GoverningSet} (hcheck : (s.ch c).startCheck = .inr g) :
    (s.startAccepted c g).Books := by
  obtain ⟨k, hk, _, _, hc, _⟩ := b.presented h
  obtain ⟨hoff, hup, _, set, hset, hg, _⟩ := Channel.startCheck_eq_inr hcheck
  have standing := ((b.chans c).rest (by rw [hoff]; rfl)).2.2.1
  have hc : 2 ≤ k.credits := hc
  have m : s.MovesTo true (s.upd c fun ch => ch.started g).handSpends :=
    (State.MovesTo.upd s c _ (Channel.Move.starts set g hoff hup hset hg).moves).trans (State.MovesTo.handSpends _)
  have waiting : ((s.upd c fun ch => ch.started g).handSpends.ch c).timer.state = .waiting := by
    rw [State.handSpends_ch, State.ch_upd_same, Channel.started, Channel.opening_timer]
    rfl
  have funded : (s.upd c fun ch => ch.started g).handSpends.Funded :=
    b.funded.updSpending (by rw [State.handCredits_of_some hk]; omega) (Channel.started_credits g standing)
  have hand : (s.upd c fun ch => ch.started g).handSpends.proc.hand = some { k with credits := k.credits - 1 } := by
    rw [State.handSpends_of_some (s := s.upd c _) hk]
  have chans := m.accounts b.chans
  unfold State.startAccepted
  dsimp only
  generalize (s.upd c fun ch => ch.started g).handSpends = u at waiting funded hand chans
  have finished (v : State) (fv : v.Funded) (hv : v.proc = u.proc) (cv : ∀ c, (v.ch c).Accounts) (code : ResultCode) (gen : Option Gen) :
      (v.finishCommand code gen).Books :=
    State.Books.finishCommand fv cv (by rw [hv]; exact hand) (show 1 ≤ k.credits - 1 by omega) code gen
  have begins (v : State) (hv : (v.ch c).timer.state = .waiting) (code : ResultCode) (gen : Option Gen) (bv : (v.finishCommand code gen).Books) :
      ((v.finishCommand code gen).frameStart c).Books :=
    bv.frameStart fun _ => .inl (by rw [State.finishCommand_timer]; exact hv)
  split
  · exact finished u funded rfl chans _ _
  · split
    · split
      · exact begins u.drawn waiting _ _ (finished u.drawn funded.drawn rfl chans _ _)
      · refine finished (u.drawn.frameStart c) (funded.drawn.frameStart c) (ActsOn.frameStart c u.drawn).proc ?_ _ _
        exact (State.MovesTo.frameStart (halts := true) (s := u.drawn) fun _ => .inl waiting).accounts chans
    · exact begins u waiting _ _ (finished u funded rfl chans _ _)

theorem execStart_books (b : s.Books) (h : execStart s = .next t) : t.Books := by
  unfold execStart at h
  split at h
  · next hp =>
    unfold State.startCommand at h
    split at h
    · exact State.Books.of_next h (b.answerPresented hp _ _)
    · next hcheck => exact State.Books.of_next h (b.startAccepted hp hcheck)
  · exact State.Books.of_next h b

theorem Channel.stopTaken_credits (ch : Channel) (c : ChannelId) (link : Link) :
    Channel.heldCredits { ch.stopTaken with link := link }
      + (Channel.closeRecords { ch with captures := ch.captures.map fun k => k.drain .stopped } c Capture.drained).length = ch.heldCredits := by
  have all := length_filter_not_add (ch.captures.map fun k => k.drain .stopped) Capture.drained
  rw [List.length_map] at all
  rw [Channel.closeRecords, List.length_map, Channel.heldCredits_eq, Channel.heldCredits_eq]
  generalize hl : (ch.captures.map fun k => k.drain .stopped) = l at all
  show bitNat ch.standing + (List.filter (fun k => !k.drained) (ch.captures.map fun k => k.drain .stopped)).length + frameCredits ch.frames + _ = _
  rw [hl]
  dsimp only
  omega

theorem State.Books.stopRun (b : s.Books) (hruns : (s.ch c).state.runs = true) (hend : (s.ch c).ending = none) : (s.stopRun c).Books := by
  refine b.actsOn (Settles.stopRun c s).toActsOn (State.MovesTo.stopRun hruns hend) ?_
  rw [State.stopRun_eq_emit]
  refine (b.funded.emit (Channel.stopTaken_credits _ c _)).settle ?_
  rw [State.emit_ch_same]
  exact (b.chans c).stopTaken (Channel.stopLink_up _) hruns hend

theorem State.handTaken_of_some {k : Hand} (hk : s.proc.hand = some k) :
    s.handTaken = { s with proc := { s.proc with hand := some { k with taken := true } } } := by
  simp only [State.handTaken, hk]

/-- R88: the STOP with ABORT that its channel takes. -/
theorem State.Books.handTaken (b : s.Books) (h : s.presented = some (.stop c true)) : s.handTaken.Books := by
  obtain ⟨k, hk, _, hcmd, hc, hst, hread, hne⟩ := b.presented h
  have hc : 1 ≤ k.credits := hc
  rw [State.handTaken_of_some hk]
  refine ⟨⟨?_, b.funded.room⟩, ⟨⟨?_, ?_, ?_⟩, fun e => absurd e hne, fun _ e => ?_⟩, b.chans⟩
  · have reserved := b.funded.reserved
    rw [State.handCredits_of_some hk] at reserved
    exact reserved
  · show Processor.handFits { s.proc with hand := some { k with taken := true } } = true
    have taken : Hand.abortTaken { k with taken := true } = true := Hand.abortTaken_iff.mpr ⟨rfl, hc, c, hcmd⟩
    simp [Processor.handFits, hst, taken]
  · rintro j hj -
    obtain rfl := Option.some.inj hj
    show (commandOf k.bytes).executingCredits ≤ k.credits
    rw [hcmd]; exact hc
  · intro e
    change s.proc.read.isSome = true at e
    rw [hread] at e; cases e
  · change s.proc.state = .idle at e
    rw [hst] at e; cases e

theorem State.Books.stopWithAbort (b : s.Books) (h : s.presented = some (.stop c true)) (hfree : (s.ch c).inFreeRun = true) :
    (s.stopWithAbort c).Books := by
  have taken := b.handTaken h
  have free : (s.handTaken.ch c).inFreeRun = true := by rw [State.ch, State.handTaken_chans]; exact hfree
  have aborted : (s.handTaken.abortRun c (.stopped .abort)).Books :=
    taken.actsOn (Settles.abortRun c _ _).toActsOn (State.MovesTo.abortRun _ free) (taken.funded.abortFree (taken.chans c) free _)
  exact aborted.finishWaitingStop

theorem State.Books.stopFaulted (b : s.Books) {abort : Bool} (h : s.presented = some (.stop c abort)) (hstate : (s.ch c).state = .faulted) :
    (s.stopFaulted c).Books := by
  obtain ⟨k, hk, htaken, _, hc, _, hread, hne⟩ := b.presented h
  unfold State.stopFaulted
  split
  · exact ⟨b.funded.waitCredit, State.ProcFits.waitCredit hread hk htaken hne, fun d => by rw [State.ch, State.waitCredit_chans]; exact b.chans d⟩
  · next hcredits =>
    rw [State.handCredits_of_some hk] at hcredits
    have funded := b.funded.placeSpending (channelEventRecord c (s.ch c) (.stopped .cleared)) (by rw [State.handCredits_of_some hk]; omega)
    have hand : ((s.place (channelEventRecord c (s.ch c) (.stopped .cleared))).handSpends).proc.hand = some { k with credits := k.credits - 1 } := by
      rw [State.handSpends_of_some (s := s.place _) hk]
    have m : ((s.place (channelEventRecord c (s.ch c) (.stopped .cleared))).handSpends).MovesTo true
        ((s.place (channelEventRecord c (s.ch c) (.stopped .cleared))).handSpends.upd c fun ch => { ch with state := .off }) := by
      refine State.MovesTo.upd _ c _ (Channel.Move.off ?_).moves
      rw [State.handSpends_ch]
      exact congrArg ChannelState.inRun hstate
    refine State.Books.finishCommand (funded.upd rfl) (m.accounts fun d => ?_) hand (show 1 ≤ k.credits - 1 by omega) _ _
    rw [State.handSpends_ch]
    exact b.chans d

theorem State.Books.stopCommand (b : s.Books) {abort : Bool} (h : s.presented = some (.stop c abort)) (hend : (s.ch c).ending = none) :
    (s.stopCommand c abort).Books := by
  obtain ⟨k, hk, _, _, hc, _⟩ := b.presented h
  have answered (code : ResultCode) (gen : Option Gen) : (s.finishCommand code gen).Books := b.answerPresented h code gen
  have free {st : ChannelState} (hst : st.inRun = true) (he : (s.ch c).state = st) : (s.ch c).inFreeRun = true :=
    Channel.inFreeRun_iff.mpr ⟨by rw [he]; exact hst, hend⟩
  have stopped (hruns : (s.ch c).state.runs = true) : ((s.stopRun c).finishCommand .ok none).Books := by
    have ran := b.stopRun hruns hend
    exact State.Books.finishCommand ran.funded ran.chans (by rw [(Settles.stopRun c s).proc]; exact hk)
      (Nat.le_trans (Command.one_le_executingCredits _) hc) _ _
  unfold State.stopCommand
  split
  · exact answered _ _
  · next hs => exact b.stopFaulted h hs
  · next hs =>
    split
    · next ha => subst ha; exact b.stopWithAbort h (free rfl hs)
    · exact stopped (by rw [hs]; rfl)
  · next hs =>
    split
    · next ha => subst ha; exact b.stopWithAbort h (free rfl hs)
    · exact stopped (by rw [hs]; rfl)
  · next hs =>
    split
    · next ha => subst ha; exact b.stopWithAbort h (free rfl hs)
    · exact answered _ _

theorem execStop_books (b : s.Books) (h : execStop s = .next t) : t.Books := by
  unfold execStop at h
  split at h
  · next hp =>
    split at h
    · exact State.Books.of_next h b
    · next hend => exact State.Books.of_next h (b.stopCommand hp (Option.eq_none_of_isSome_ne hend))
  · exact State.Books.of_next h b

/-- R99: a capture that joins takes the second credit of its record as its close credit. -/
theorem State.Books.captureJoins (b : s.Books) {cap : Capture} (hc : ∃ k, s.proc.hand = some k ∧ 2 ≤ k.credits) (hlen : (s.ch c).captures.length < 4)
    (htag : (s.ch c).hasTag cap.tag = false) (hqueued : cap.state = .queued) (hflight : cap.inFlight = 0) :
    (((s.upd c fun ch => ({ ch with captures := ch.captures ++ [cap] }).opening).handSpends).finishCommand .ok none).Books := by
  obtain ⟨k, hk, hc⟩ := hc
  have funded : (s.upd c fun ch => ({ ch with captures := ch.captures ++ [cap] }).opening).handSpends.Funded := by
    refine b.funded.updSpending (by rw [State.handCredits_of_some hk]; omega) ?_
    rw [Channel.opening_credits, Channel.heldCredits_eq, Channel.heldCredits_eq]
    show _ + ((s.ch c).captures ++ [cap]).length + _ = _
    rw [List.length_append, List.length_singleton]
    show bitNat (s.ch c).standing + _ + frameCredits (s.ch c).frames = _
    omega
  have m : s.MovesTo true (s.upd c fun ch => ({ ch with captures := ch.captures ++ [cap] }).opening).handSpends :=
    (State.MovesTo.upd s c _ (Channel.Move.captures cap hlen htag hqueued hflight).moves).trans (State.MovesTo.handSpends _)
  refine State.Books.finishCommand funded (m.accounts b.chans) (h := { k with credits := k.credits - 1 }) ?_ (show 1 ≤ k.credits - 1 by omega) _ _
  rw [State.handSpends_of_some (s := s.upd c _) hk]

theorem execCapture_books (b : s.Books) (h : execCapture s = .next t) : t.Books := by
  unfold execCapture at h
  split at h
  · next hp =>
    split at h
    · exact State.Books.of_next h b
    · refine State.Books.of_next h ?_
      unfold State.captureCommand
      split
      · next hlen =>
        split
        · exact b.answerPresented hp _ _
        · next htag =>
          obtain ⟨k, hk, _, _, hc, _⟩ := b.presented hp
          exact b.captureJoins ⟨k, hk, hc⟩ hlen (Bool.of_not_eq_true htag) rfl rfl
      · exact b.answerPresented hp _ _
  · exact State.Books.of_next h b

/-- R107: the CAPTURE_CLOSED of a capture that a CANCEL closes is paid by its close credit. -/
theorem Channel.cancelled_credits (ch : Channel) (c : ChannelId) (tag : Tag) (k : Capture) :
    (Channel.opening (if k.state = .draining then ch.cancelled tag else (ch.cancelled tag).without (Capture.closesWith tag))).heldCredits
      + List.length (if k.state = .draining then [] else (ch.cancelled tag).closeRecords c (Capture.closesWith tag)) = ch.heldCredits := by
  rw [Channel.opening_credits]
  split
  · exact Channel.heldCredits_congr rfl (List.length_map ..) rfl
  · have all := length_filter_not_add (ch.captures.map fun k => if k.tag = tag then k.cancel else k) (Capture.closesWith tag)
    rw [List.length_map] at all
    rw [Channel.closeRecords, List.length_map, Channel.heldCredits_eq, Channel.heldCredits_eq]
    generalize hl : (ch.captures.map fun k => if k.tag = tag then k.cancel else k) = l at all
    change bitNat ch.standing + (List.filter _ (ch.captures.map fun k => if k.tag = tag then k.cancel else k)).length + frameCredits ch.frames
      + (List.filter _ (ch.captures.map fun k => if k.tag = tag then k.cancel else k)).length = _
    rw [hl]
    omega

theorem State.Books.cancelCommand (b : s.Books) {tag : Tag} (h : s.presented = some (.cancel c tag)) : (s.cancelCommand c tag).Books := by
  cases hf : (s.ch c).captures.find? (fun k => k.tag == tag) with
  | none =>
    unfold State.cancelCommand
    rw [hf]
    exact b.answerPresented h _ _
  | some q =>
    obtain ⟨k, hk, _, _, hc, _⟩ := b.presented h
    rw [State.cancelCommand_eq_emit s c hf]
    refine State.Books.finishCommand (b.funded.emit (Channel.cancelled_credits _ c tag q)) ?_ hk hc _ _
    exact (State.MovesTo.emit (halts := true) s c _ (Channel.Move.cancels tag q hf).moves).accounts b.chans

theorem execCancel_books (b : s.Books) (h : execCancel s = .next t) : t.Books := by
  unfold execCancel at h
  split at h
  · next hp =>
    split at h
    · exact State.Books.of_next h b
    · exact State.Books.of_next h (b.cancelCommand hp)
  · exact State.Books.of_next h b

theorem State.Books.queryCommand (b : s.Books) {clear : Bool} (h : s.presented = some (.query c clear)) : (s.queryCommand c clear).Books := by
  obtain ⟨k, hk, _, _, hc, _⟩ := b.presented h
  have hc : 2 ≤ k.credits := hc
  have funded := b.funded.placeSpending (.status ((s.ch c).status c clear)) (by rw [State.handCredits_of_some hk]; omega)
  have hand : ((s.place (.status ((s.ch c).status c clear))).handSpends).proc.hand = some { k with credits := k.credits - 1 } := by
    rw [State.handSpends_of_some (s := s.place _) hk]
  have chans : ∀ d, (((s.place (.status ((s.ch c).status c clear))).handSpends).ch d).Accounts := fun d => by
    rw [State.handSpends_ch]; exact b.chans d
  unfold State.queryCommand
  dsimp only
  generalize (s.place (.status ((s.ch c).status c clear))).handSpends = u at funded hand chans
  split
  · refine State.Books.finishCommand (funded.upd rfl) ?_ hand (show 1 ≤ k.credits - 1 by omega) _ _
    exact (State.MovesTo.upd (halts := true) u c _ (Channel.Moves.clearCounters _)).accounts chans
  · exact State.Books.finishCommand funded chans hand (show 1 ≤ k.credits - 1 by omega) _ _

theorem execQuery_books (b : s.Books) (h : execQuery s = .next t) : t.Books := by
  unfold execQuery at h
  split at h
  · next hp =>
    split at h
    · exact State.Books.of_next h b
    · exact State.Books.of_next h (b.queryCommand hp)
  · exact State.Books.of_next h b

theorem execPostBuffers_books (b : s.Books) (h : execPostBuffers s = .next t) : t.Books := by
  unfold execPostBuffers at h
  split at h
  · next hp =>
    refine State.Books.of_next h ?_
    unfold State.postCommand
    split
    · split
      · have posted (p : Four (List Descriptor)) : State.Books { s with pools := p } := b.of_eq rfl rfl rfl rfl Iff.rfl
        exact (posted _).answerPresented (cmd := .postBuffers _ _) (by exact hp) _ _
      · exact b.answerPresented hp _ _
    · exact b.answerPresented hp _ _
  · exact State.Books.of_next h b

/-- A RECLAIM step with its credit reserved (R118). -/
theorem State.Books.reclaimClaim {pool : PoolId} {k : Hand} (f : s.Funded) (hchans : ∀ c, (s.ch c).Accounts) (hk : s.proc.hand = some k)
    (htaken : k.taken = false) (hcmd : commandOf k.bytes = .reclaim pool) (hc : 2 ≤ k.credits) (hst : s.proc.state = .executing)
    (hread : s.proc.read = none) (hne : s.regs.iface ≠ .halted) : (s.reclaimClaim pool).Books := by
  unfold State.reclaimClaim
  split
  · exact State.Books.finishCommand f hchans hk (by omega) _ _
  · next d rest _ =>
    have moved : State.Funded { s with pools := s.pools.modify pool fun _ => rest } := f.of_eq rfl rfl rfl rfl
    refine ⟨moved.placeSpending _ ?_, ?_, fun c => ?_⟩
    · exact (State.handCredits_of_some (h := k) hk).symm ▸ (by omega : 1 ≤ k.credits)
    · rw [State.handSpends_of_some (s := State.place { s with pools := s.pools.modify pool fun _ => rest } _) hk]
      refine State.ProcFits.of_hand (h := { k with credits := k.credits - 1 }) (st := .executing) ?_ (.inr ⟨rfl, ?_⟩) htaken hne
      · exact congr (congrArg (fun st r => Processor.mk st _ r) hst) hread
      · show (commandOf k.bytes).executingCredits ≤ k.credits - 1
        rw [hcmd]
        show 1 ≤ k.credits - 1
        omega
    · rw [State.handSpends_ch]; exact hchans c

theorem State.handReserve_of_some {k : Hand} (hk : s.proc.hand = some k) :
    s.handReserve = { s.reserve 1 with proc := { s.proc with hand := some { k with credits := k.credits + 1 } } } := by
  simp only [State.handReserve, hk]

theorem State.Books.reclaimStep (b : s.Books) {pool : PoolId} (h : s.presented = some (.reclaim pool)) : (s.reclaimStep pool).Books := by
  obtain ⟨k, hk, htaken, hcmd, hc, hst, hread, hne⟩ := b.presented h
  have hc : 1 ≤ k.credits := hc
  unfold State.reclaimStep
  split
  · next held =>
    have two : 2 ≤ k.credits := by simpa [State.stepCreditHeld, hk] using held
    exact State.Books.reclaimClaim b.funded b.chans hk htaken hcmd two hst hread hne
  · split
    · exact b.answerPresented h _ _
    · split
      · next hfree =>
        rw [State.handReserve_of_some hk]
        refine State.Books.reclaimClaim (k := { k with credits := k.credits + 1 }) ⟨?_, ?_⟩ b.chans rfl htaken hcmd (Nat.succ_le_succ hc) hst hread hne
        · have reserved := b.funded.reserved
          rw [State.handCredits_of_some hk] at reserved
          show s.cpl.reserved + 1 = s.channelCredits + (k.credits + 1)
          omega
        · rw [State.creditsFree] at hfree
          show s.cpl.queue.length + (s.cpl.reserved + 1) ≤ 64
          omega
      · exact ⟨b.funded.waitCredit, State.ProcFits.waitCredit hread hk htaken hne,
          fun d => by rw [State.ch, State.waitCredit_chans]; exact b.chans d⟩

theorem execReclaim_books (b : s.Books) (h : execReclaim s = .next t) : t.Books := by
  unfold execReclaim at h
  split at h
  · next hp => exact State.Books.of_next h (b.reclaimStep hp)
  · exact State.Books.of_next h b

/-! ## Writes -/

theorem State.Books.land (b : s.Books) (w : BusWrite) (error : Bool) : (s.land w error).Books := by
  unfold State.land
  split <;> exact b.of_eq rfl rfl rfl rfl Iff.rfl

theorem State.Books.landAbandoned (b : s.Books) (k : WriteClaim) (error : Bool) : (s.landAbandoned k error).Books := by
  unfold State.landAbandoned
  split
  · exact b
  · refine State.Books.land ?_ _ _
    exact b.of_eq rfl rfl rfl rfl Iff.rfl

theorem State.Books.handRow (b : s.Books) : (s.handRow c).Books := by
  refine b.actsOn (Settles.handRow c s).toActsOn (State.MovesTo.handRow s c) ?_
  unfold State.handRow
  split
  · exact b.funded.upd rfl
  · exact b.funded

theorem State.Books.handHeader (b : s.Books) : (s.handHeader c).Books := by
  refine b.actsOn (Settles.handHeader c s).toActsOn (State.MovesTo.handHeader s c) ?_
  unfold State.handHeader
  split
  · exact b.funded.upd rfl
  · exact b.funded

theorem State.Books.handRecord (b : s.Books) : s.handRecord.Books := by
  unfold State.handRecord
  split
  · exact b.of_eq rfl rfl rfl rfl Iff.rfl
  · exact b

theorem execWriteHanded_books {claim : WriteClaim} (b : s.Books) (h : execWriteHandedToHostPort claim s = .next t) : t.Books := by
  unfold execWriteHandedToHostPort at h
  split at h
  · exact State.Books.of_next h b.handRow
  · exact State.Books.of_next h b.handHeader
  · exact State.Books.of_next h b.handRecord

theorem Channel.Combines.credits {a b : Channel} (h : Channel.Combines a b) : b.heldCredits = a.heldCredits := by
  have core (l : List Frame) : frameCredits (l.map Frame.core) = frameCredits l := frameCredits_map fun _ => rfl
  refine Channel.heldCredits_congr ?_ ?_ ?_
  · rw [h.rest]
  · rw [h.rest]
  · rw [← core, h.frames, core]

theorem State.Books.rowMade (b : s.Books) {w : BusWrite} (hw : (s.ch c).rowWrite.isSome = true) (error : Bool) : (s.rowMade c w error).Books := by
  have landed := b.land w error
  have hw' : ((s.land w error).ch c).rowWrite.isSome = true := by rw [State.land_ch]; exact hw
  rw [State.rowMade]
  generalize s.land w error = v at landed hw'
  have credits : (v.ch c).rowWritten.heldCredits = (v.ch c).heldCredits := (Channel.Combines.rowWritten (v.ch c)).credits
  have acts : ActsOn c v ((v.upd c Channel.rowWritten).settle c) :=
    ((Settles.upd c v _ (by simp) (by simp) (by simp)).trans (Settles.settle c _)).toActsOn
  have m : v.MovesTo true ((v.upd c Channel.rowWritten).settle c) := by
    refine State.MovesTo.settle (Settles.upd c v _ (by simp) (by simp) (by simp)) fun writes => ?_
    rw [State.ch_upd_same]
    exact Channel.Move.rowMade writes hw'
  refine State.Books.finishWaitingStop (landed.actsOn acts m (State.Funded.settle (landed.funded.upd credits) ?_))
  rw [State.ch_upd_same]
  exact (landed.chans c).rowWritten

theorem execRowWrite_books {issue : Issue} {error : Bool} (b : s.Books) (h : execRowWrite c issue error s = .next t) : t.Books := by
  unfold execRowWrite at h
  split at h
  · exact State.Books.of_next h (b.landAbandoned _ _)
  · dsimp only at h
    split at h
    · exact State.Books.of_next h b
    · next w hw => exact State.Books.of_next h (b.handRow.rowMade (by rw [hw]; rfl) error)

theorem State.Books.headerMade (b : s.Books) {f : Frame} {rest : List Frame} {d : Descriptor} {w : BusWrite} (hf : (s.ch c).frames = f :: rest)
    (hd : f.hold = .buffer d) (hw : (s.ch c).headerWrite.isSome = true) (error : Bool) : (s.headerMade c f d w error).Books := by
  have landed := b.land w error
  have hch : (s.land w error).ch c = s.ch c := State.land_ch s w error c
  have paid : f.credit = true := (b.chans c).paid f (by rw [hf]; exact List.mem_cons_self) (by rw [hd]; exact nofun)
  rw [State.headerMade_eq_emit]
  generalize s.land w error = v at landed hch
  have credits := Channel.released_credits (ch := { s.ch c with headerWrite := none }) hf c (!f.flags.aborted)
  rw [paid] at credits
  have made : (v.emit c (Channel.released { s.ch c with headerWrite := none } f (!f.flags.aborted))
      (frameDoneRecord c f d :: Channel.releaseRecords { s.ch c with headerWrite := none } c f (!f.flags.aborted))).Funded := by
    refine landed.funded.emit ?_
    rw [hch, List.length_cons]
    exact (Nat.add_assoc _ _ _).symm.trans credits
  have m : v.MovesTo true ((v.emit c (Channel.released { s.ch c with headerWrite := none } f (!f.flags.aborted))
      (frameDoneRecord c f d :: Channel.releaseRecords { s.ch c with headerWrite := none } c f (!f.flags.aborted))).settle c) := by
    refine State.MovesTo.settleEmit v c _ fun writes => ?_
    rw [hch]
    exact Channel.Move.headerMade writes _ f rest d hf hd hw
  have proc : (v.emit c (Channel.released { s.ch c with headerWrite := none } f (!f.flags.aborted))
      (frameDoneRecord c f d :: Channel.releaseRecords { s.ch c with headerWrite := none } c f (!f.flags.aborted))).ProcFits :=
    landed.proc.of_eq rfl Iff.rfl
  refine State.Books.finishWaitingStop ⟨made.settle ?_, (Settles.settle c _).toActsOn.procFits proc, m.accounts landed.chans⟩
  rw [State.emit_ch_same]
  exact (b.chans c).headerReleased f _

theorem execHeaderWrite_books {issue : Issue} {error : Bool} (b : s.Books) (h : execHeaderWrite c issue error s = .next t) : t.Books := by
  unfold execHeaderWrite at h
  split at h
  · exact State.Books.of_next h (b.landAbandoned _ _)
  · dsimp only at h
    split at h
    · next hw hf =>
      split at h
      · next hd => exact State.Books.of_next h (b.handHeader.headerMade hf hd (by rw [hw]; rfl) error)
      · exact State.Books.of_next h b
      · exact State.Books.of_next h b
    · exact State.Books.of_next h b

/-- R157: a record written frees its entry. -/
theorem State.Books.recordWritten (b : s.Books) (n : Nat) : State.Books { s with cpl := s.cpl.recordWritten n } := by
  refine ⟨⟨b.funded.reserved, ?_⟩, b.proc.of_eq rfl Iff.rfl, b.chans⟩
  have room := b.funded.room
  show s.cpl.queue.tail.length + s.cpl.reserved ≤ 64
  rw [List.length_tail]
  omega

theorem execCompletionWrite_books {issue : Issue} {error : Bool} (b : s.Books) (h : execCompletionWrite issue error s = .next t) : t.Books := by
  unfold execCompletionWrite at h
  split at h
  · exact State.Books.of_next h (b.landAbandoned _ _)
  · dsimp only at h
    split at h
    · exact State.Books.of_next h b
    · exact State.Books.of_next h ((b.handRecord.land _ error).recordWritten _).announce.askCredits

/-! ## Events of one channel -/

theorem State.Books.offer (b : s.Books) (r : Completion) : (s.offer c r).Books :=
  b.actsOn (Settles.offer c s r).toActsOn (State.MovesTo.offer s c r) (b.funded.offer c r)

theorem State.Books.inputHigh (b : s.Books) (v : Bool) : (s.upd c fun ch => { ch with timer := { ch.timer with inputHigh := v } }).Books :=
  b.actsOn (Settles.upd c s _ rfl rfl rfl).toActsOn (State.MovesTo.inputHigh s c v) (b.funded.upd rfl)

theorem execTrigger_books (b : s.Books) (h : execTrigger c s = .next t) : t.Books := by
  unfold execTrigger at h
  split at h
  · exact State.Books.of_next h b
  · have raised := b.inputHigh (c := c) true
    refine State.Books.of_next h ?_
    unfold State.triggerTaken
    dsimp only
    split
    · split
      · next hw => exact raised.frameStart fun _ => .inl hw
      · split
        · exact raised.offer _
        · exact raised
      · exact raised
    · exact raised

theorem execPeriodEnd_books (b : s.Books) (h : execPeriodEnd c s = .next t) : t.Books := by
  refine b.actsOn (execPeriodEnd_actsOn h) (execPeriodEnd_movesTo h) ?_
  unfold execPeriodEnd at h
  split at h
  · next hend =>
    cases h
    unfold State.periodEnd
    dsimp only
    split
    · split
      · exact b.funded.frameStart c
      · exact b.funded.upd rfl
      · exact b.funded
    · next hruns =>
      have idled : (s.upd c fun ch => { ch with timer := ch.timer.idled }).Funded := b.funded.upd rfl
      refine idled.settle ?_
      rw [State.ch_upd_same]
      exact (b.chans c).idled (Bool.of_not_eq_true hruns) hend.1
  · cases h; exact b.funded

theorem State.Funded.latch (f : s.Funded) : (s.latch c).Funded := by
  unfold State.latch
  split
  · split
    · exact f
    · split
      · exact f
      · exact State.Funded.send (f.upd rfl) _
  · exact f

theorem State.Books.latch (b : s.Books) : (s.latch c).Books :=
  b.actsOn (Settles.latch c s).toActsOn (State.MovesTo.latch s c) b.funded.latch

theorem State.Books.faultChannel (b : s.Books) (cause : FaultCause) : (s.faultChannel c cause).Books :=
  b.actsOn (Settles.faultChannel c s cause).toActsOn (State.MovesTo.faultChannel s c cause)
    (b.funded.faultChannel (b.chans c).run (b.chans c).paid cause)

theorem State.Books.headSilent (b : s.Books) : (s.headSilent c).Books := by
  have drawn : s.drawn.Books := b.of_eq rfl rfl rfl rfl Iff.rfl
  unfold State.headSilent
  split
  · exact drawn.latch.faultChannel _
  · exact drawn.faultChannel _

theorem State.Books.frameEndMissed (b : s.Books) {f : Frame} (hf : (s.ch c).reading = some f) :
    ((s.upd c fun ch => { ch with timer := ch.timer.atLatch }).frameEndMissed c f).Books := by
  have acts : ActsOn c s ((s.upd c fun ch => { ch with timer := ch.timer.atLatch }).frameEndMissed c f) :=
    ((Settles.upd c s _ rfl rfl rfl).trans (Settles.frameEndMissed c _ f)).toActsOn
  have placed : (s.upd c fun ch => { ch with timer := ch.timer.atLatch }).Funded := b.funded.upd rfl
  refine b.actsOn acts (State.MovesTo.frameEndMissed hf) (State.Funded.settle (placed.upd ?_) ?_)
  · refine Channel.heldCredits_congr rfl rfl (frameCredits_map fun x => ?_)
    split <;> rfl
  · rw [State.ch_upd_same, State.ch_upd_same]
    exact (b.chans c).toRunFits.flushed f true rfl rfl

theorem execLatchPoint_books (b : s.Books) (h : execLatchPoint c s = .next t) : t.Books := by
  unfold execLatchPoint at h
  split at h
  · refine State.Books.of_next h ?_
    unfold State.latchPoint
    dsimp only
    split
    · next hread =>
      rw [State.ch_upd_same] at hread
      have placed : (s.upd c fun ch => { ch with timer := ch.timer.atLatch }).Books :=
        b.actsOn (Settles.upd c s _ rfl rfl rfl).toActsOn (State.MovesTo.upd s c _ (Channel.Move.atLatch (ch := s.ch c) hread).moves) (b.funded.upd rfl)
      exact placed.latch
    · next f hread =>
      rw [State.ch_upd_same] at hread
      have missed := b.frameEndMissed (c := c) (f := f) hread
      split
      · exact missed.headSilent
      · exact missed.latch
  · exact State.Books.of_next h b

theorem State.Books.updLink (b : s.Books) (f : Link → Link) (hf : ∀ l, Link.countersKept l (f l)) (hup : ∀ l : Link, l.up = true → (f l).up = true) :
    (s.upd c fun ch => { ch with link := f ch.link }).Books :=
  b.actsOn (Settles.upd c s _ rfl rfl rfl).toActsOn (State.MovesTo.updLink s c f hf hup) (b.funded.upd rfl)

theorem State.Books.linkDown (b : s.Books) : (s.linkDown c).Books := by
  refine b.actsOn (Settles.linkDown c s).toActsOn (State.MovesTo.linkDown s c) ?_
  have down : (s.upd c fun ch => { ch with link := { ch.link with geometry := none, headFault := none } }).Funded := b.funded.upd rfl
  refine down.faultChannel ?_ ?_ _
  · rw [State.ch_upd_same]; exact (b.chans c).run
  · rw [State.ch_upd_same]; exact (b.chans c).paid

theorem execHello_books {m : HelloMsg} (b : s.Books) (h : execHello c m s = .next t) : t.Books := by
  have greeted {v : State} (bv : v.Books) : (v.upd c fun ch => { ch with link := ch.link.hello m }).Books :=
    bv.updLink (fun l => l.hello m) (fun l => Link.hello_countersKept l m) fun _ hup => Link.hello_up m hup
  unfold execHello at h
  split at h
  · refine State.Books.of_next h ?_
    split
    · exact greeted b.linkDown
    · exact greeted b
  · exact State.Books.of_next h b

theorem State.Books.setHeadFault (b : s.Books) (v : Option Byte) : (s.setHeadFault c v).Books :=
  b.updLink (fun l => { l with headFault := v }) (fun _ => ⟨.inl rfl, .inl rfl⟩) fun _ h => h

theorem execHeadStatus_books {condition : HeadCondition} (b : s.Books) (h : execHeadStatus c condition s = .next t) : t.Books := by
  unfold execHeadStatus at h
  split at h
  · split at h
    · exact State.Books.of_next h (b.setHeadFault _)
    · split at h
      · exact State.Books.of_next h b
      · exact State.Books.of_next h ((b.setHeadFault _).faultChannel _)
    · exact State.Books.of_next h b
  · exact State.Books.of_next h b

theorem State.Books.carrier (b : s.Books) (v : Bool) : (s.upd c fun ch => { ch with link := { ch.link with carrier := v } }).Books :=
  b.updLink (fun l => { l with carrier := v }) (fun _ => ⟨.inl rfl, .inl rfl⟩) fun _ h => h

theorem execCarrierLost_books (b : s.Books) (h : execCarrierLost c s = .next t) : t.Books := by
  unfold execCarrierLost at h
  dsimp only at h
  split at h
  · exact State.Books.of_next h (b.carrier false).linkDown
  · exact State.Books.of_next h (b.carrier false)

theorem execRow_books {seq : Seq} {index : Nat} {samples : List Sample} (b : s.Books) (h : execRow c seq index samples s = .next t) : t.Books := by
  refine b.actsOn (execRow_settles h).toActsOn (execRow_movesTo h) ?_
  unfold execRow at h
  split at h
  · split at h
    · cases h; exact b.funded.upd (Channel.Combines.combine _ _ _ _).credits
    · cases h; exact b.funded.upd rfl
  · cases h; exact b.funded

theorem execFrameEnd_books {seq : Seq} {n : Nat} (b : s.Books) (h : execFrameEnd c seq n s = .next t) : t.Books := by
  refine b.actsOn (execFrameEnd_settles h).toActsOn (execFrameEnd_movesTo h) ?_
  unfold execFrameEnd at h
  split at h
  · split at h
    · next f _ =>
      cases h
      refine State.Funded.settle (b.funded.upd (Channel.heldCredits_congr rfl rfl (frameCredits_map fun x => ?_))) ?_
      · split <;> rfl
      · rw [State.ch_upd_same]
        exact (b.chans c).toRunFits.flushed f false rfl rfl
    · cases h; exact b.funded
  · cases h; exact b.funded

end

/-! ## The step -/

theorem exec_books {s t : State} {i : Instr} (b : s.Books) (hpower : i ≠ .powerOn) (hreset : ∀ cause, i ≠ .functionReset cause)
    (h : exec i s = .next t) : t.Books := by
  cases i with
  | powerOn => exact absurd rfl hpower
  | functionReset cause => exact absurd rfl (hreset cause)
  | enable reserved => exact execEnable_books (reserved := reserved) b h
  | disable reserved => exact execDisable_books (reserved := reserved) b h
  | configWrite _ _ => exact execConfigWrite_books b h
  | cmdTailWrite _ => exact execCmdTailWrite_books b h
  | cplHeadWrite _ => exact execCplHeadWrite_books b h
  | ifStatusWrite _ => exact State.Books.of_next h (b.of_eq rfl rfl rfl rfl Iff.rfl)
  | intControlWrite _ => exact execIntControlWrite_books b h
  | registerWriteIgnored _ _ value => exact execRegisterWriteIgnored_books (value := value) b h
  | portDown => exact execPortDown_books b h
  | busMasteringChange _ => exact execBusMasteringChange_books b h
  | fetchComplete _ _ => exact execFetchComplete_books b h
  | recordRejected => exact execRecordRejected_books b h
  | set =>
    change execSet s = .next t at h
    unfold execSet at h
    split at h
    · next hp => exact State.Books.of_next h (b.setCommand hp)
    · exact State.Books.of_next h b
  | start => exact execStart_books b h
  | stop => exact execStop_books b h
  | capture => exact execCapture_books b h
  | cancel => exact execCancel_books b h
  | postBuffers => exact execPostBuffers_books b h
  | reclaim => exact execReclaim_books b h
  | query => exact execQuery_books b h
  | completionWrite _ _ => exact execCompletionWrite_books b h
  | trigger c => exact execTrigger_books b h
  | latchPoint c => exact execLatchPoint_books b h
  | periodEnd c => exact execPeriodEnd_books b h
  | hello c _ => exact execHello_books b h
  | headStatus c _ => exact execHeadStatus_books b h
  | carrierLost c => exact execCarrierLost_books b h
  | row c _ _ _ => exact execRow_books b h
  | frameEnd c _ _ => exact execFrameEnd_books b h
  | rowWrite _ _ _ => exact execRowWrite_books b h
  | headerWrite _ _ _ => exact execHeaderWrite_books b h
  | carrierPresent c => exact State.Books.of_next h (b.carrier true)
  | hostPortLinkUp => exact State.Books.of_next h (b.of_eq rfl rfl rfl rfl Iff.rfl)
  | messageSignalledInterruptsChange _ => exact State.Books.of_next h (b.of_eq rfl rfl rfl rfl Iff.rfl)
  | triggerInputLow c => exact State.Books.of_next h (b.inputHigh false)
  | writeHandedToHostPort _ => exact execWriteHanded_books b h

/-- After a reset no credit is held. -/
theorem State.Books.resetBlocks (s : State) (f : Link → Link) (p : Port) : (s.resetBlocks f p).Books := by
  have hch (d : ChannelId) : (s.resetBlocks f p).ch d = (s.ch d).resetWith (f (s.ch d).link) := Four.get_map _ _ _
  refine ⟨⟨?_, Nat.zero_le _⟩, State.ProcFits.of_reset rfl, fun d => by rw [hch]; exact Channel.accounts_resetWith _ _⟩
  unfold State.channelCredits
  rw [hch, hch, hch, hch]
  rfl

theorem State.Books.tick {s : State} (b : s.Books) : s.tick.Books := by
  refine ⟨⟨?_, b.funded.room⟩, b.proc.of_eq rfl Iff.rfl, (State.MovesTo.tick (halts := true) s).accounts b.chans⟩
  refine b.funded.reserved.trans (congrArg (· + s.handCredits) ?_)
  unfold State.channelCredits
  simp only [State.tick_ch]
  rfl

theorem step_books {s t : State} (b : s.Books) (h : step s = .next t) : t.Books := by
  unfold step at h
  split at h
  · cases h; exact b.tick
  · next i rest _ =>
    by_cases hpower : i = .powerOn
    · subst hpower; cases h; exact State.Books.resetBlocks _ _ _
    · by_cases hreset : ∃ cause, i = .functionReset cause
      · obtain ⟨cause, rfl⟩ := hreset; cases h; exact State.Books.resetBlocks _ _ _
      · exact exec_books (s := s.withPending rest) (b.of_eq rfl rfl rfl rfl Iff.rfl) hpower (fun cause e => hreset ⟨cause, e⟩) h

/-- Outside HALTED a step starts outside HALTED, or is a reset. -/
theorem step_iface {s t : State} (h : step s = .next t) (ht : t.regs.iface ≠ .halted) :
    s.regs.iface ≠ .halted ∨ ∃ f rest p, t = (s.withPending rest).resetBlocks f p := by
  unfold step at h
  split at h
  · cases h; exact .inl ht
  · next i rest _ =>
    by_cases hpower : i = .powerOn
    · subst hpower; cases h; exact .inr ⟨_, _, _, rfl⟩
    · by_cases hreset : ∃ cause, i = .functionReset cause
      · obtain ⟨cause, rfl⟩ := hreset; cases h; exact .inr ⟨_, _, _, rfl⟩
      · exact .inl fun hs => ht ((exec_keeps hpower (fun cause e => hreset ⟨cause, e⟩) h).halted hs).1

/-- Settles O55: the books are kept by every command, and outside HALTED every move leaves the ends of runs quiet. -/
theorem everyStepKeepsTheCreditLedger : Obligations.EveryStepKeepsTheCreditLedger := by
  intro s t hs h
  obtain ⟨books, quiet⟩ := s.ledger_iff.mp hs
  refine t.ledger_iff.mpr ⟨step_books books h, fun ht c => ?_⟩
  have reset (f : Link → Link) (ch : Channel) : (ch.resetWith (f ch.link)).quiet := Channel.quiet_of_none rfl
  obtain hne | ⟨f, rest, p, rfl⟩ := step_iface h ht
  · exact step_channels (halts := false) (fun m => m.quiet) (fun ch f _ => reset f ch) (fun e => absurd e ht) (quiet hne) h c
  · rw [State.resetBlocks, State.ch, Four.get_map]
    exact reset f _

end Sys2Proof.Machine
end

section
/-! The row accounts of one channel are kept by every move (R55 to R59, R62, R63, R124, R125, R128, R129). -/

namespace Sys2Proof.Machine

/-! ## The accounts before the frames have gone on -/

/-- The combiner stands inside the open group of a frame whose next row is `e`, with groups of `v` rows (R55, R56). -/
structure Combiner.Stands (r : Combiner) (v e : Nat) : Prop where
  missing : r.invalid = true → e % v ≠ 0
  complete : r.invalid = false → r.rowsInGroup = e % v

/-- The output rows of `f` that are produced, lost or waiting (R57). -/
def Channel.tally (ch : Channel) (f : Frame) : Nat :=
  f.produced + f.lost + ch.validRows f.ctx

/-- A frame in use is in account. -/
structure Channel.FrameFits (ch : Channel) (f : Frame) : Prop where
  window : f.snapshot.vRows % f.snapshot.mode.v = 0
  next : f.nextRow ≤ f.snapshot.vRows
  balanced : f.flags.aborted = false → ch.tally f = ch.settledRows f
  given : f.noHeader = true → f.flags.aborted = true
  ends : f.flags.aborted = true → ch.ending.isSome = true
  spared : f.flags.aborted = false → ch.ending = none ∨ f.stage = .closing ∧ ch.headerWrite.isSome = true
  reading : f.stage = .reading → ch.timer.state = .period ∧ ch.timer.line + 16 < ch.timer.periodLength ∧ ch.combiner.Stands f.snapshot.mode.v f.nextRow

theorem Channel.frameSound_iff (ch : Channel) (f : Frame) : ch.frameSound f ↔ ch.FrameFits f := by
  have aborts : ch.abortFits f = true ↔ (f.noHeader = true → f.flags.aborted = true) ∧ (f.flags.aborted = true → ch.ending.isSome = true)
      ∧ (f.flags.aborted = false → ch.ending = none ∨ f.stage = .closing ∧ ch.headerWrite.isSome = true) := by
    unfold Channel.abortFits
    cases f.flags.aborted <;> cases f.noHeader <;> simp
  constructor
  · rintro ⟨window, next, balanced, habort, reading⟩
    obtain ⟨given, ends, spared⟩ := aborts.mp habort
    exact ⟨window, next, balanced, given, ends, spared, fun hs => ⟨(reading hs).1, (reading hs).2.1, (reading hs).2.2.1, (reading hs).2.2.2⟩⟩
  · rintro ⟨window, next, balanced, given, ends, spared, reading⟩
    exact ⟨window, next, balanced, aborts.mpr ⟨given, ends, spared⟩,
      fun hs => ⟨(reading hs).1, (reading hs).2.1, (reading hs).2.2.missing, (reading hs).2.2.complete⟩⟩

/-- R124, R125: an earliest frame in CLOSING has its rows done and a header, and one whose header is handed has not given it up. -/
abbrev Channel.closingFits (ch : Channel) : Prop :=
  ∀ f ∈ ch.frames.head?, f.stage = .closing →
    ch.rowsRemain f.ctx = false ∧ f.hold.isBuffer = true ∧ (ch.headerWrite.isSome = true → f.noHeader = false)

/-- The row accounts of a channel, but for what its frames wait for. -/
structure Channel.RowsFit (ch : Channel) : Prop where
  groups : ch.table.wholeGroups
  contexts : ch.frames.Pairwise fun f g => f.ctx ≠ g.ctx
  early : ∀ f ∈ ch.frames.dropLast, f.stage ≠ .reading
  owned : ∀ r ∈ ch.rows, ∃ f ∈ ch.frames, f.ctx = r.ctx
  handed : ch.headerWrite.isSome = true → ∃ f ∈ ch.frames.head?, f.stage = .closing
  later : ∀ f ∈ ch.frames.tail, f.stage ≠ .closing
  held : ch.ending.isSome = true → ch.rows.length ≤ bitNat ch.rowWrite.isSome
  frames : ∀ f ∈ ch.frames, ch.FrameFits f
  closing : ch.closingFits

/-- The row accounts of a channel whose frames have gone on. -/
structure Channel.RowAccounts (ch : Channel) : Prop extends Channel.RowsFit ch where
  waits : ch.headWaits = true

theorem Channel.closingFits_of_headWaits {ch : Channel} (h : ch.headWaits = true) : ch.closingFits := by
  intro f hf hs
  obtain ⟨rest, hframes⟩ := List.head?_eq_some_iff.mp hf
  rw [Channel.headWaits, hframes] at h
  simp only [hs] at h
  obtain ⟨hrows, hhold, hheader⟩ : ch.rowsRemain f.ctx = false ∧ f.hold.isBuffer = true ∧ f.noHeader = false := by simpa [and_assoc] using h
  exact ⟨hrows, hhold, fun _ => hheader⟩

theorem Channel.rowAccounts_iff (ch : Channel) : ch.RowAccounts ↔ ch.rowsSound ∧ ch.headWaits = true := by
  constructor
  · rintro ⟨⟨groups, contexts, early, owned, handed, later, held, frames, _⟩, waits⟩
    exact ⟨⟨groups, contexts, early, owned, handed, later, held, fun f hf => (ch.frameSound_iff f).mpr (frames f hf)⟩, waits⟩
  · rintro ⟨⟨groups, contexts, early, owned, handed, later, held, frames⟩, waits⟩
    exact ⟨⟨groups, contexts, early, owned, handed, later, held, fun f hf => (ch.frameSound_iff f).mp (frames f hf),
      Channel.closingFits_of_headWaits waits⟩, waits⟩

/-! ## What a frame's account depends on -/

theorem Channel.settledRows_of_ne_reading {a : Channel} (b : Channel) {f : Frame} (h : f.stage ≠ .reading) : b.settledRows f = a.settledRows f := by
  unfold Channel.settledRows
  cases hs : f.stage with
  | reading => exact absurd hs h
  | draining => rfl
  | closing => rfl

theorem Channel.FrameFits.congr {a b : Channel} {f : Frame} (h : a.FrameFits f) (hvalid : b.validRows f.ctx = a.validRows f.ctx)
    (hcombiner : f.stage = .reading → b.combiner = a.combiner) (hending : b.ending.isSome = a.ending.isSome)
    (hheader : f.stage = .closing → a.headerWrite.isSome = true → b.headerWrite.isSome = true)
    (htimer : f.stage = .reading → b.timer.state = .period ∧ b.timer.line + 16 < b.timer.periodLength) : b.FrameFits f where
  window := h.window
  next := h.next
  balanced hab := by
    have settled : b.settledRows f = a.settledRows f := by
      by_cases hs : f.stage = .reading
      · unfold Channel.settledRows; rw [hcombiner hs]
      · exact Channel.settledRows_of_ne_reading b hs
    rw [settled, ← h.balanced hab, Channel.tally, Channel.tally, hvalid]
  given := h.given
  ends hab := hending.trans (h.ends hab)
  spared hab := by
    refine (h.spared hab).imp (fun e => ?_) fun e => ⟨e.1, hheader e.1 e.2⟩
    rw [e] at hending
    exact Option.isNone_iff_eq_none.mp (by simpa using hending)
  reading hs := ⟨(htimer hs).1, (htimer hs).2, by rw [hcombiner hs]; exact (h.reading hs).2.2⟩

/-- A change that leaves the frames, the rows, the combiner and the ending as they are. -/
theorem Channel.RowsFit.congr {a b : Channel} (h : a.RowsFit) (hgroups : b.table.wholeGroups) (hframes : b.frames = a.frames) (hrows : b.rows = a.rows)
    (hcombiner : b.combiner = a.combiner) (hheader : b.headerWrite = a.headerWrite) (hrow : b.rowWrite = a.rowWrite)
    (hending : b.ending.isSome = a.ending.isSome)
    (htimer : ∀ f ∈ a.frames, f.stage = .reading → b.timer.state = .period ∧ b.timer.line + 16 < b.timer.periodLength) : b.RowsFit where
  groups := hgroups
  contexts := by rw [hframes]; exact h.contexts
  early := by rw [hframes]; exact h.early
  owned := by rw [hframes, hrows]; exact h.owned
  handed := by rw [hframes, hheader]; exact h.handed
  later := by rw [hframes]; exact h.later
  held := by rw [hrows, hrow, hending]; exact h.held
  frames := by
    rw [hframes]
    refine fun f hf => (h.frames f hf).congr ?_ (fun _ => hcombiner) hending ?_ (htimer f hf)
    · rw [Channel.validRows, hrows]; rfl
    · rw [hheader]; exact fun _ => id
  closing := by
    unfold Channel.closingFits Channel.rowsRemain
    rw [hframes, hrows, hheader]
    exact h.closing

theorem Channel.headWaits_congr {a b : Channel} (hframes : b.frames = a.frames) (hrows : b.rows = a.rows) : b.headWaits = a.headWaits := by
  unfold Channel.headWaits Channel.rowsRemain
  rw [hframes, hrows]

theorem Channel.RowAccounts.congr {a b : Channel} (h : a.RowAccounts) (hgroups : b.table.wholeGroups) (hframes : b.frames = a.frames)
    (hrows : b.rows = a.rows) (hcombiner : b.combiner = a.combiner) (hheader : b.headerWrite = a.headerWrite) (hrow : b.rowWrite = a.rowWrite)
    (hending : b.ending.isSome = a.ending.isSome)
    (htimer : ∀ f ∈ a.frames, f.stage = .reading → b.timer.state = .period ∧ b.timer.line + 16 < b.timer.periodLength) : b.RowAccounts :=
  ⟨h.toRowsFit.congr hgroups hframes hrows hcombiner hheader hrow hending htimer, by rw [Channel.headWaits_congr hframes hrows]; exact h.waits⟩

/-- The line of a frame that is READING is before its latch point. -/
theorem Channel.RowsFit.inPeriod {ch : Channel} (h : ch.RowsFit) {f : Frame} (hf : f ∈ ch.frames) (hs : f.stage = .reading) :
    ch.timer.state = .period ∧ ch.timer.line + 16 < ch.timer.periodLength :=
  have ⟨hstate, hline, _⟩ := (h.frames f hf).reading hs
  ⟨hstate, hline⟩

/-- No frame is READING where no period runs before its latch point. -/
theorem Channel.RowsFit.not_reading {ch : Channel} (h : ch.RowsFit) (ht : ch.timer.state ≠ .period ∨ ch.timer.latchTaken = true) :
    ∀ f ∈ ch.frames, f.stage ≠ .reading := by
  intro f hf hs
  obtain ⟨hstate, hline⟩ := h.inPeriod hf hs
  obtain ht | ht := ht
  · exact ht hstate
  · have passed : ch.timer.periodLength ≤ ch.timer.line + 16 := of_decide_eq_true ht
    omega

/-! ## The frames go on (R123 to R125, R128, R129) -/

theorem Channel.rowsRemain_eq_false {ch : Channel} {k : ContextId} : ch.rowsRemain k = false ↔ ∀ r ∈ ch.rows, r.ctx ≠ k := by
  simp [Channel.rowsRemain]

theorem Channel.validRows_of_no_rows {ch : Channel} {k : ContextId} (h : ∀ r ∈ ch.rows, r.ctx ≠ k) : ch.validRows k = 0 := by
  have none : (ch.rows.filter fun r => r.ctx == k && r.words.isSome) = [] := List.filter_eq_nil_iff.mpr fun r hr => by simp [h r hr]
  rw [Channel.validRows, none]; rfl

/-- The earliest frame, its rows done, leaves its context, and with it the write of its header. -/
theorem Channel.RowsFit.released {ch : Channel} (h : ch.RowsFit) {f : Frame} {rest : List Frame} (hf : ch.frames = f :: rest)
    (hrows : ch.rowsRemain f.ctx = false) (whole : Bool) : (Channel.released { ch with headerWrite := none } f whole).RowsFit := by
  have later : ∀ g ∈ rest, g.stage ≠ .closing := by have := h.later; rwa [hf] at this
  have tail : (Channel.released { ch with headerWrite := none } f whole).frames = rest := by
    show ch.frames.tail = rest
    rw [hf]; rfl
  refine ⟨h.groups, ?_, ?_, ?_, fun e => (by cases e), ?_, h.held, ?_, ?_⟩
  · rw [tail]
    have contexts := h.contexts
    rw [hf] at contexts
    exact (List.pairwise_cons.mp contexts).2
  · rw [tail]
    intro g hg
    refine h.early g ?_
    rw [hf]
    cases rest with
    | nil => cases hg
    | cons x xs => exact List.mem_cons_of_mem _ hg
  · rw [tail]
    intro r hr
    obtain ⟨g, hg, hctx⟩ := h.owned r hr
    rw [hf] at hg
    obtain rfl | hg := List.mem_cons.mp hg
    · exact absurd hctx.symm (Channel.rowsRemain_eq_false.mp hrows r hr)
    · exact ⟨g, hg, hctx⟩
  · rw [tail]
    exact fun g hg => later g (List.mem_of_mem_tail hg)
  · rw [tail]
    intro g hg
    have mem : g ∈ ch.frames := by rw [hf]; exact List.mem_cons_of_mem _ hg
    exact (h.frames g mem).congr rfl (fun _ => rfl) rfl (fun hs => absurd hs (later g hg)) (h.inPeriod mem)
  · unfold Channel.closingFits
    rw [tail]
    exact fun g hg hs => absurd hs (later g (List.mem_of_mem_head? hg))

/-- A frame without a header to write is not in CLOSING with its header handed. -/
theorem Channel.RowsFit.of_drops {ch : Channel} (h : ch.RowsFit) {f : Frame} {rest : List Frame} (hf : ch.frames = f :: rest)
    (hd : ch.drops f = true) : ch.rowsRemain f.ctx = false ∧ ch.headerWrite = none := by
  have head : f ∈ ch.frames.head? := by rw [hf]; rfl
  have unhanded (hn : ¬(f.stage = .closing ∧ f.noHeader = false)) : ch.headerWrite = none := by
    refine Option.not_isSome_iff_eq_none.mp fun hs => hn ?_
    obtain ⟨g, hg, hclosing⟩ := h.handed hs
    obtain rfl := Option.some.inj (hg.symm.trans head)
    exact ⟨hclosing, (h.closing g head hclosing).2.2 hs⟩
  unfold Channel.drops at hd
  split at hd
  · cases hd
  · next hs =>
    simp only [Bool.and_eq_true, Bool.not_eq_true'] at hd
    exact ⟨hd.1, unhanded fun e => by rw [hs] at e; cases e.1⟩
  · next hs => exact ⟨(h.closing f head hs).1, unhanded fun e => by rw [hd] at e; cases e.2⟩

theorem Channel.RowsFit.drop {ch : Channel} (h : ch.RowsFit) {f : Frame} {rest : List Frame} (hf : ch.frames = f :: rest)
    (hd : ch.drops f = true) : (ch.released f false).RowsFit := by
  obtain ⟨hrows, hheader⟩ := h.of_drops hf hd
  have same : { ch with headerWrite := none } = ch := by rw [← hheader]
  have released := h.released hf hrows false
  rwa [same] at released

theorem Channel.entersClosing_iff {ch : Channel} {f : Frame} :
    ch.entersClosing f = true ↔ f.stage = .draining ∧ ch.rowsRemain f.ctx = false ∧ f.hold.isBuffer = true ∧ f.noHeader = false := by
  simp [Channel.entersClosing, and_assoc]

/-- R124, R125: the earliest frame enters CLOSING. -/
theorem Channel.RowsFit.enterClosing {ch : Channel} (h : ch.RowsFit) {f : Frame} {rest : List Frame} (hf : ch.frames = f :: rest)
    (hc : ch.entersClosing f = true) (n : Nat) : (ch.withHead (f.closingAt n)).RowsFit := by
  obtain ⟨hs, hrows, hhold, hheader⟩ := Channel.entersClosing_iff.mp hc
  have tail : (ch.withHead (f.closingAt n)).frames = f.closingAt n :: rest := by
    show f.closingAt n :: ch.frames.tail = _
    rw [hf]; rfl
  have fits := h.frames f (by rw [hf]; exact List.mem_cons_self)
  have unhanded : ch.headerWrite = none := by
    refine Option.not_isSome_iff_eq_none.mp fun e => ?_
    obtain ⟨g, hg, hclosing⟩ := h.handed e
    rw [hf] at hg
    obtain rfl := Option.some.inj hg
    rw [hs] at hclosing; cases hclosing
  refine ⟨h.groups, ?_, ?_, ?_, ?_, ?_, h.held, ?_, ?_⟩
  · rw [tail]
    have contexts := h.contexts
    rw [hf] at contexts
    exact List.pairwise_cons.mpr (List.pairwise_cons.mp contexts)
  · rw [tail]
    intro g hg
    cases rest with
    | nil => cases hg
    | cons x xs =>
      obtain rfl | hg := List.mem_cons.mp hg
      · exact nofun
      · exact h.early g (by rw [hf]; exact List.mem_cons_of_mem _ hg)
  · rw [tail]
    intro r hr
    obtain ⟨g, hg, hctx⟩ := h.owned r hr
    rw [hf] at hg
    obtain rfl | hg := List.mem_cons.mp hg
    · exact ⟨_, List.mem_cons_self, hctx⟩
    · exact ⟨g, List.mem_cons_of_mem _ hg, hctx⟩
  · intro e
    change ch.headerWrite.isSome = true at e
    rw [unhanded] at e; cases e
  · rw [tail]
    have later := h.later
    rw [hf] at later
    exact later
  · rw [tail]
    intro g hg
    obtain rfl | hg := List.mem_cons.mp hg
    · refine ⟨fits.window, fits.next, fun hab => ?_, fits.given, fits.ends, fun hab => ?_, fun e => by cases e⟩
      · have balanced := fits.balanced hab
        rw [Channel.settledRows, hs] at balanced
        exact balanced
      · refine (fits.spared hab).imp id fun e => ?_
        rw [hs] at e; cases e.1
    · have mem : g ∈ ch.frames := by rw [hf]; exact List.mem_cons_of_mem _ hg
      exact (h.frames g mem).congr rfl (fun _ => rfl) rfl (fun _ => id) (h.inPeriod mem)
  · unfold Channel.closingFits
    rw [tail]
    intro g hg _
    obtain rfl := Option.some.inj hg
    exact ⟨hrows, hhold, fun _ => hheader⟩

theorem Frame.giveUpHeader_cases (f : Frame) (handed : Bool) :
    f.giveUpHeader handed = f ∨ f.flags.aborted = true ∧ ¬(f.stage = .closing ∧ handed = true) ∧ f.giveUpHeader handed = { f with noHeader := true } := by
  unfold Frame.giveUpHeader
  split
  · next h =>
    right
    simp only [Bool.and_eq_true, Bool.not_eq_true', Bool.and_eq_false_iff, beq_eq_false_iff_ne] at h
    refine ⟨h.1, fun e => ?_, rfl⟩
    rw [e.1, e.2] at h
    simp at h
  · exact .inl rfl

/-- What giving a header up leaves of a frame. -/
theorem Frame.giveUpHeader_ctx (f : Frame) (handed : Bool) : (f.giveUpHeader handed).ctx = f.ctx := by
  unfold Frame.giveUpHeader; split <;> rfl

theorem Frame.giveUpHeader_stage (f : Frame) (handed : Bool) : (f.giveUpHeader handed).stage = f.stage := by
  unfold Frame.giveUpHeader; split <;> rfl

theorem Channel.FrameFits.giveUp {b : Channel} {f : Frame} (hb : b.FrameFits f) (handed : Bool) :
    b.FrameFits (f.giveUpHeader handed) := by
  obtain e | ⟨haborted, _, e⟩ := f.giveUpHeader_cases handed
  · rw [e]; exact hb
  · rw [e]
    exact ⟨hb.window, hb.next, hb.balanced, fun _ => haborted, hb.ends, hb.spared, hb.reading⟩

theorem pairwise_ctx_map {l : List Frame} {g : Frame → Frame} (hg : ∀ f, (g f).ctx = f.ctx) (h : l.Pairwise fun f g => f.ctx ≠ g.ctx) :
    (l.map g).Pairwise fun f g => f.ctx ≠ g.ctx :=
  List.pairwise_map.mpr (h.imp fun hne => by rw [hg, hg]; exact hne)

theorem owned_map {l : List Frame} {rows : List OutputRow} {g : Frame → Frame} (hg : ∀ f, (g f).ctx = f.ctx)
    (h : ∀ r ∈ rows, ∃ f ∈ l, f.ctx = r.ctx) : ∀ r ∈ rows, ∃ f ∈ l.map g, f.ctx = r.ctx := by
  intro r hr
  obtain ⟨f, hf, hctx⟩ := h r hr
  exact ⟨g f, List.mem_map_of_mem hf, by rw [hg, hctx]⟩

/-- R129: headers are given up. -/
theorem Channel.RowsFit.givenUp {ch : Channel} (h : ch.RowsFit) : ch.givenUp.RowsFit := by
  refine ⟨h.groups, pairwise_ctx_map (fun f => f.giveUpHeader_ctx _) h.contexts, ?_, owned_map (fun f => f.giveUpHeader_ctx _) h.owned, ?_, ?_, h.held, ?_, ?_⟩
  · show ∀ f ∈ (ch.frames.map _).dropLast, _
    rw [← List.map_dropLast]
    rintro _ hf
    obtain ⟨f, hmem, rfl⟩ := List.mem_map.mp hf
    rw [Frame.giveUpHeader_stage]
    exact h.early f hmem
  · intro e
    obtain ⟨f, hf, hs⟩ := h.handed e
    refine ⟨f.giveUpHeader ch.headerWrite.isSome, ?_, (f.giveUpHeader_stage _).trans hs⟩
    show _ ∈ (ch.frames.map _).head?
    rw [List.head?_map, Option.mem_def.mp hf]
    rfl
  · show ∀ f ∈ (ch.frames.map _).tail, _
    rw [← List.map_tail]
    rintro _ hf
    obtain ⟨f, hmem, rfl⟩ := List.mem_map.mp hf
    rw [Frame.giveUpHeader_stage]
    exact h.later f hmem
  · rintro _ hf
    obtain ⟨f, hmem, rfl⟩ := List.mem_map.mp hf
    have same : ch.givenUp.FrameFits f := (h.frames f hmem).congr rfl (fun _ => rfl) rfl (fun _ => id) (h.inPeriod hmem)
    exact same.giveUp _
  · intro g hg hs
    change g ∈ (ch.frames.map _).head? at hg
    rw [List.head?_map] at hg
    obtain ⟨f, hf, rfl⟩ := Option.map_eq_some_iff.mp hg
    rw [Frame.giveUpHeader_stage] at hs
    obtain ⟨hrows, hhold, hheader⟩ := h.closing f hf hs
    rw [Frame.giveUpHeader_ctx, Frame.giveUpHeader_hold]
    refine ⟨hrows, hhold, fun handed => ?_⟩
    change ch.headerWrite.isSome = true at handed
    obtain e | ⟨_, hne, _⟩ := f.giveUpHeader_cases ch.headerWrite.isSome
    · rw [e]; exact hheader handed
    · exact absurd ⟨hs, handed⟩ hne

theorem Channel.RowsFit.advanced {ch : Channel} (h : ch.RowsFit) (writes : Bool) : (ch.advanced writes).RowsFit :=
  Channel.advanced_induct (fun _ h => h.givenUp) (fun _ _ _ hf hd h => h.drop hf hd) (fun _ _ _ hf hc h => h.enterClosing hf hc _) writes h

/-- The earliest frame goes on until it waits. -/
theorem Channel.RowsFit.advance_headWaits {ch : Channel} (h : ch.RowsFit) {fuel : Nat} (hfuel : ch.frames.length ≤ fuel) :
    (ch.advance fuel).headWaits = true := by
  induction fuel generalizing ch with
  | zero =>
    have none : ch.frames = [] := List.length_eq_zero_iff.mp (Nat.le_zero.mp hfuel)
    rw [Channel.advance, Channel.headWaits, none]
  | succ fuel ih =>
    unfold Channel.advance
    split
    · next hf => rw [Channel.headWaits, hf]
    · next f rest hf =>
      split
      · next hd =>
        refine ih (h.drop hf hd) ?_
        show ch.frames.tail.length ≤ fuel
        rw [List.length_tail]; omega
      · next hd =>
        split
        · next hc =>
          obtain ⟨_, hrows, hhold, hheader⟩ := Channel.entersClosing_iff.mp hc
          show (!ch.rowsRemain f.ctx && f.hold.isBuffer && !f.noHeader) = true
          rw [hrows, hhold, hheader]; rfl
        · next hc =>
          rw [Channel.headWaits, hf]
          rw [Channel.entersClosing_iff] at hc
          unfold Channel.drops at hd
          cases hs : f.stage with
          | reading => simp only [hs]
          | draining =>
            simp only [hs] at hd ⊢
            refine Classical.byContradiction fun hr => ?_
            have hr := Bool.of_not_eq_true hr
            simp only [hr, Bool.not_false, Bool.true_and, Bool.not_eq_true', Bool.not_eq_false, Bool.and_eq_true] at hd
            exact hc ⟨hs, hr, hd⟩
          | closing =>
            obtain ⟨hrows, hhold, _⟩ := h.closing f (by rw [hf]; rfl) hs
            simp only [hs] at hd ⊢
            rw [hrows, hhold, Bool.of_not_eq_true hd]; rfl

theorem Channel.decided_frames_length (ch : Channel) (writes : Bool) : (ch.decided writes).frames.length = ch.frames.length := by
  cases writes with
  | true => rfl
  | false => exact List.length_map ..

theorem Channel.RowsFit.decided {ch : Channel} (h : ch.RowsFit) (writes : Bool) : (ch.decided writes).RowsFit := by
  cases writes with
  | true => exact h
  | false => exact h.givenUp

/-- A channel without frames whose sets are absent. -/
theorem Channel.RowAccounts.of_no_frames {ch : Channel} (hframes : ch.frames = []) (hrows : ch.rows = []) (hheader : ch.headerWrite = none)
    (hgroups : ch.table.wholeGroups) : ch.RowAccounts where
  groups := hgroups
  contexts := by rw [hframes]; exact List.Pairwise.nil
  early f hf := by rw [hframes] at hf; cases hf
  owned r hr := by rw [hrows] at hr; cases hr
  handed hs := by rw [hheader] at hs; cases hs
  later f hf := by rw [hframes] at hf; cases hf
  held _ := by rw [hrows]; exact Nat.zero_le _
  frames f hf := by rw [hframes] at hf; cases hf
  closing f hf := by rw [hframes] at hf; cases hf
  waits := by rw [Channel.headWaits, hframes]

/-- Without frames nothing is queued or handed. -/
theorem Channel.RowsFit.of_frames_nil {ch : Channel} (h : ch.RowsFit) (hf : ch.frames = []) : ch.rows = [] ∧ ch.headerWrite = none := by
  constructor
  · refine List.eq_nil_iff_forall_not_mem.mpr fun r hr => ?_
    obtain ⟨f, hmem, _⟩ := h.owned r hr
    rw [hf] at hmem; cases hmem
  · refine Option.not_isSome_iff_eq_none.mp fun hs => ?_
    obtain ⟨f, hmem, _⟩ := h.handed hs
    rw [hf] at hmem; cases hmem

theorem SettingsTable.wholeGroups.cleared {t : SettingsTable} (h : t.wholeGroups) : t.cleared.wholeGroups := ⟨h.1, nofun⟩

theorem Channel.RowsFit.settled {ch : Channel} (h : ch.RowsFit) (writes : Bool) : (ch.settled writes).RowAccounts := by
  have gone : (ch.advanced writes).RowAccounts :=
    ⟨h.advanced writes, (h.decided writes).advance_headWaits (Nat.le_of_eq (ch.decided_frames_length writes))⟩
  unfold Channel.settled
  generalize ch.advanced writes = a at gone
  unfold Channel.ended
  split
  · next e hf he =>
    obtain ⟨hrows, hheader⟩ := gone.of_frames_nil hf
    exact Channel.RowAccounts.of_no_frames hf hrows hheader gone.groups.cleared
  · next hf he =>
    obtain ⟨hrows, hheader⟩ := gone.of_frames_nil hf
    split
    · exact Channel.RowAccounts.of_no_frames hf hrows hheader gone.groups.cleared
    · exact gone
  · exact gone

end Sys2Proof.Machine
end

section
/-! What each move does to the row accounts of its channel: the ends of readings and runs, the rows written, and the row combiner (R53 to R58, R61, R62, R128). -/

namespace Sys2Proof.Machine

/-! ## The reading frame (R53, R54) -/

theorem Channel.reading_some {ch : Channel} {f : Frame} (h : ch.reading = some f) : f ∈ ch.frames ∧ f.stage = .reading :=
  ⟨List.mem_of_find?_eq_some h, by simpa using List.find?_some h⟩

theorem Channel.reading_none {ch : Channel} (h : ch.reading = none) : ∀ f ∈ ch.frames, f.stage ≠ .reading := fun f hf => by
  simpa using List.find?_eq_none.mp h f hf

/-- A READING frame is the latest, and the only one that is READING. -/
theorem Channel.RowsFit.reading_last {ch : Channel} (h : ch.RowsFit) {f : Frame} (hf : f ∈ ch.frames) (hs : f.stage = .reading) :
    ch.frames = ch.frames.dropLast ++ [f] := by
  have ne : ch.frames ≠ [] := List.ne_nil_of_mem hf
  have split := (List.dropLast_concat_getLast ne).symm
  rw [split] at hf
  obtain hf | hf := List.mem_append.mp hf
  · exact absurd hs (h.early f hf)
  · rw [List.mem_singleton.mp hf]; exact split

theorem Channel.RowsFit.reading_alone {ch : Channel} (h : ch.RowsFit) {f x : Frame} (hf : f ∈ ch.frames) (hs : f.stage = .reading)
    (hx : x ∈ ch.frames) (hc : ¬x.ctx = f.ctx) : x.stage ≠ .reading := by
  intro e
  have last := h.reading_last hf hs
  have lastx := h.reading_last hx e
  rw [last] at lastx
  simp only [List.dropLast_concat] at lastx
  exact hc (congrArg Frame.ctx (List.singleton_inj.mp (List.append_cancel_left lastx)).symm)

/-- Frames in the same context are the same frame. -/
theorem Channel.RowsFit.eq_of_ctx {ch : Channel} (h : ch.RowsFit) {f g : Frame} (hf : f ∈ ch.frames) (hg : g ∈ ch.frames) (hctx : f.ctx = g.ctx) : f = g := by
  have nodup : (ch.frames.map Frame.ctx).Nodup := List.pairwise_map.mpr h.contexts
  exact eq_of_nodup_map nodup hf hg hctx

theorem Channel.RowsFit.not_aborted {ch : Channel} (h : ch.RowsFit) (hfits : ch.RunFits) {f : Frame} (hf : f ∈ ch.frames) (hs : f.stage = .reading) :
    f.flags.aborted = false ∧ ch.ending = none := by
  have hend : ch.ending = none := (hfits.of_timer (by rw [(h.inPeriod hf hs).1]; decide)).2
  refine ⟨Bool.of_not_eq_true fun hab => ?_, hend⟩
  have ends := (h.frames f hf).ends hab
  rw [hend] at ends; cases ends

/-! ## Frames changed in their places -/

/-- Every frame changed in its context, none of them READING afterwards unless it was, and none in CLOSING unless it was. -/
theorem Channel.RowsFit.mapFrames {a b : Channel} (h : a.RowsFit) {g : Frame → Frame} (hframes : b.frames = a.frames.map g)
    (hgroups : b.table.wholeGroups) (hheader : b.headerWrite = a.headerWrite) (hctx : ∀ f, (g f).ctx = f.ctx)
    (hreading : ∀ f ∈ a.frames, (g f).stage = .reading → f.stage = .reading)
    (hclosing : ∀ f ∈ a.frames, (g f).stage = .closing ↔ f.stage = .closing)
    (hhold : ∀ f ∈ a.frames, (g f).hold = f.hold) (hnoHeader : ∀ f ∈ a.frames, (g f).noHeader = f.noHeader)
    (hrows : ∀ r ∈ b.rows, r ∈ a.rows ∨ ∃ f ∈ a.frames, f.stage ≠ .closing ∧ f.ctx = r.ctx)
    (hheld : b.ending.isSome = true → b.rows.length ≤ bitNat b.rowWrite.isSome) (hfits : ∀ f ∈ a.frames, b.FrameFits (g f)) : b.RowsFit := by
  have tail : b.frames.tail = a.frames.tail.map g := by rw [hframes, List.map_tail]
  have owned : ∀ r ∈ b.rows, ∃ f ∈ a.frames, f.ctx = r.ctx := fun r hr =>
    (hrows r hr).elim (h.owned r) fun ⟨f, hf, _, hc⟩ => ⟨f, hf, hc⟩
  refine ⟨hgroups, ?_, ?_, ?_, ?_, ?_, hheld, ?_, ?_⟩
  · rw [hframes]; exact pairwise_ctx_map hctx h.contexts
  · rw [hframes, ← List.map_dropLast]
    intro _ hf hs
    obtain ⟨f, hmem, rfl⟩ := List.mem_map.mp hf
    exact h.early f hmem (hreading f (List.dropLast_subset _ hmem) hs)
  · rw [hframes]; exact owned_map hctx owned
  · rw [hheader]
    intro e
    obtain ⟨f, hf, hs⟩ := h.handed e
    refine ⟨g f, ?_, (hclosing f (List.mem_of_mem_head? hf)).mpr hs⟩
    rw [hframes, List.head?_map, Option.mem_def.mp hf]
    rfl
  · rw [tail]
    intro _ hf hs
    obtain ⟨f, hmem, rfl⟩ := List.mem_map.mp hf
    exact h.later f hmem ((hclosing f (List.mem_of_mem_tail hmem)).mp hs)
  · rw [hframes]
    intro _ hf
    obtain ⟨f, hmem, rfl⟩ := List.mem_map.mp hf
    exact hfits f hmem
  · intro _ hf hs
    rw [hframes, List.head?_map] at hf
    obtain ⟨f, hhead, rfl⟩ := Option.map_eq_some_iff.mp hf
    have hmem : f ∈ a.frames := List.mem_of_mem_head? hhead
    rw [hclosing f hmem] at hs
    obtain ⟨none, hbuffer, hgiven⟩ := h.closing f hhead hs
    rw [hctx, hhold f hmem, hnoHeader f hmem, hheader]
    refine ⟨Channel.rowsRemain_eq_false.mpr fun r hr hc => ?_, hbuffer, hgiven⟩
    obtain hr | ⟨x, hx, hxs, hxc⟩ := hrows r hr
    · exact Channel.rowsRemain_eq_false.mp none r hr hc
    · exact hxs (h.eq_of_ctx hx hmem (hxc.trans hc) ▸ hs)

/-! ## The end of a run (R88, R91, R128) -/

@[simp] theorem Frame.abort_ctx (f : Frame) (handed : Bool) (now : Nat) : (f.abort handed now).ctx = f.ctx := by
  unfold Frame.abort
  split
  · split <;> rfl
  · rfl
  · rfl

@[simp] theorem Frame.abort_noHeader (f : Frame) (handed : Bool) (now : Nat) : (f.abort handed now).noHeader = f.noHeader := by
  unfold Frame.abort
  split
  · split <;> rfl
  · rfl
  · rfl

theorem Frame.abort_closing_iff (f : Frame) (handed : Bool) (now : Nat) : (f.abort handed now).stage = .closing ↔ f.stage = .closing := by
  unfold Frame.abort
  split
  · next h => split <;> exact Iff.rfl
  · next h => simp [h]
  · exact Iff.rfl

theorem Frame.abort_not_reading (f : Frame) (handed : Bool) (now : Nat) : (f.abort handed now).stage ≠ .reading := by
  unfold Frame.abort
  split
  · next h => split <;> (intro e; exact absurd (h.symm.trans e) nofun)
  · exact nofun
  · next h => exact fun e => absurd (h.symm.trans e) nofun

/-- R128: an abort marks a frame, unless its header is handed. -/
theorem Frame.abort_cases (f : Frame) (handed : Bool) (now : Nat) :
    (f.abort handed now).flags.aborted = true ∧ (f.abort handed now).snapshot = f.snapshot ∧ (f.abort handed now).nextRow = f.nextRow
      ∨ f.stage = .closing ∧ handed = true ∧ f.abort handed now = f := by
  unfold Frame.abort
  split
  · next hs =>
    split
    · next hh => exact .inr ⟨hs, hh, rfl⟩
    · exact .inl ⟨rfl, rfl, rfl⟩
  · exact .inl ⟨rfl, rfl, rfl⟩
  · exact .inl ⟨rfl, rfl, rfl⟩

theorem Channel.RowsFit.aborted {ch : Channel} (h : ch.RowsFit) (event : ChannelEvent) (link : Link) :
    Channel.RowsFit { ch.aborted event with link := link } := by
  have kept : ∀ r ∈ (ch.aborted event).rows, r ∈ ch.rows := by
    intro r hr
    change r ∈ if ch.rowWrite.isSome then ch.rows.take 1 else [] at hr
    split at hr
    · exact List.mem_of_mem_take hr
    · cases hr
  refine h.mapFrames (g := fun f => f.abort ch.headerWrite.isSome ch.lostEvents) rfl h.groups rfl (fun f => f.abort_ctx _ _)
    (fun f _ e => absurd e (f.abort_not_reading _ _)) (fun f _ => f.abort_closing_iff _ _) (fun f _ => f.abort_hold _ _)
    (fun f _ => f.abort_noHeader _ _) (fun r hr => .inl (kept r hr)) (fun _ => ?_) fun f hf => ?_
  · show List.length (if ch.rowWrite.isSome then ch.rows.take 1 else []) ≤ bitNat ch.rowWrite.isSome
    cases ch.rowWrite.isSome with
    | true => exact List.length_take_le 1 _
    | false => exact Nat.le_refl 0
  · have fits := h.frames f hf
    obtain ⟨hab, hsnap, hnext⟩ | ⟨hs, hhanded, e⟩ := f.abort_cases ch.headerWrite.isSome ch.lostEvents
    · refine ⟨?_, ?_, fun e => ?_, fun _ => hab, fun _ => rfl, fun e => ?_, fun e => absurd e (f.abort_not_reading _ _)⟩
      · rw [hsnap]; exact fits.window
      · rw [hsnap, hnext]; exact fits.next
      · rw [hab] at e; cases e
      · rw [hab] at e; cases e
    · rw [e]
      obtain ⟨x, hx, hxs⟩ := h.handed hhanded
      have head : f ∈ ch.frames.head? := by
        obtain ⟨rest, hl⟩ := List.head?_eq_some_iff.mp hx
        rw [hl] at hf ⊢
        obtain rfl | hf := List.mem_cons.mp hf
        · rfl
        · exact absurd hs (h.later f (by rw [hl]; exact hf))
      have none := Channel.rowsRemain_eq_false.mp (h.closing f head hs).1
      refine ⟨fits.window, fits.next, fun hab => ?_, fits.given, fun _ => rfl, fun _ => .inr ⟨hs, hhanded⟩, fun e => by rw [hs] at e; cases e⟩
      have balanced := fits.balanced hab
      rw [Channel.tally, Channel.validRows_of_no_rows none] at balanced
      refine (congrArg (f.produced + f.lost + ·) (Channel.validRows_of_no_rows fun r hr => none r (kept r hr))).trans ?_
      exact balanced.trans (Channel.settledRows_of_ne_reading _ (by rw [hs]; exact nofun)).symm

/-! ## The flush (R58) -/

/-- The output rows that a frame has passed are among its output rows. -/
theorem passed_add_unfinished {v e n : Nat} {invalid : Bool} (hwhole : n % v = 0) (he : e ≤ n) (hopen : invalid = true → e % v ≠ 0) :
    e / v + bitNat invalid + (n / v - e / v - if invalid then 1 else 0) = n / v := by
  have le : e / v ≤ n / v := Nat.div_le_div_right he
  cases invalid with
  | false => show e / v + 0 + (n / v - e / v - 0) = n / v; omega
  | true =>
    have lt : e / v < n / v := by
      refine Nat.lt_of_le_of_ne le fun heq => hopen rfl ?_
      have e1 := Nat.div_add_mod e v
      have n1 := Nat.div_add_mod n v
      rw [heq] at e1
      omega
    show e / v + 1 + (n / v - e / v - 1) = n / v
    omega

/-- What the flush makes of frame `f`. -/
def Frame.flushed (f : Frame) (openInvalid missed : Bool) : Frame :=
  { f with
    stage := .draining, lost := f.lost + f.unfinished openInvalid
    flags := { f.flags with short := f.flags.short || missed || decide (f.nextRow < f.snapshot.vRows) } }

theorem Channel.RowsFit.flushed {ch : Channel} (h : ch.RowsFit) (hfits : ch.RunFits) {f : Frame} (hf : ch.reading = some f) (missed : Bool) (link : Link)
    (timer : FrameTimer) : Channel.RowsFit { ch.flush f missed with link := link, timer := timer } := by
  obtain ⟨hmem, hs⟩ := Channel.reading_some hf
  obtain ⟨hab, hend⟩ := h.not_aborted hfits hmem hs
  have map : ({ ch.flush f missed with link := link, timer := timer } : Channel).frames
      = ch.frames.map fun x => if x.ctx = f.ctx then x.flushed ch.combiner.invalid missed else x := by
    refine List.map_congr_left fun x hx => ?_
    split
    · next hc => rw [h.eq_of_ctx hx hmem hc]; rfl
    · rfl
  have only {x : Frame} (hx : x ∈ ch.frames) (hc : ¬x.ctx = f.ctx) : x.stage ≠ .reading := h.reading_alone hmem hs hx hc
  refine h.mapFrames map h.groups rfl (fun x => ?_) (fun x hx e => ?_) (fun x hx => ?_) (fun x _ => ?_) (fun x _ => ?_) (fun r hr => .inl hr) (fun e => ?_)
    fun x hx => ?_
  · split <;> rfl
  · split at e
    · cases e
    · exact e
  · split
    · next hc =>
      rw [h.eq_of_ctx hx hmem hc, hs]
      exact ⟨nofun, nofun⟩
    · exact Iff.rfl
  · split <;> rfl
  · split <;> rfl
  · change ch.ending.isSome = true at e
    rw [hend] at e; cases e
  · split
    · next hc =>
      obtain rfl := h.eq_of_ctx hx hmem hc
      have fits := h.frames x hx
      refine ⟨fits.window, fits.next, fun _ => ?_, fits.given, fits.ends, fun _ => .inl hend, fun e => by cases e⟩
      have balanced := fits.balanced hab
      have missing := (fits.reading hs).2.2.missing
      simp only [Channel.settledRows, hs] at balanced
      have sum := passed_add_unfinished fits.window fits.next missing
      show x.produced + (x.lost + x.unfinished ch.combiner.invalid) + ch.validRows x.ctx = x.snapshot.outRows
      rw [Channel.tally] at balanced
      rw [Frame.unfinished, Snapshot.outRows]
      omega
    · next hc =>
      exact (h.frames x hx).congr rfl (fun e => absurd e (only hx hc)) rfl (fun _ => id) fun e => absurd e (only hx hc)

/-! ## Rows written (R61) -/

theorem Channel.validRows_cons (ch : Channel) (r : OutputRow) (rest : List OutputRow) (hrows : ch.rows = r :: rest) (k : ContextId) :
    ch.validRows k = bitNat (r.ctx == k && r.words.isSome) + (rest.filter fun r => r.ctx == k && r.words.isSome).length := by
  rw [Channel.validRows, hrows, List.filter_cons]
  cases r.ctx == k && r.words.isSome with
  | true => exact Nat.add_comm _ _
  | false => exact (Nat.zero_add _).symm

theorem Channel.RowsFit.rowWritten {ch : Channel} (h : ch.RowsFit) (hsome : ch.rowWrite.isSome = true) : ch.rowWritten.RowsFit := by
  have held (e : ch.ending.isSome = true) : ch.rows.tail.length ≤ 0 := by
    have held := h.held e
    rw [hsome] at held
    rw [List.length_tail]
    exact Nat.sub_le_of_le_add held
  obtain ⟨g, hframes, hrest, hcount⟩ : ∃ g : Frame → Frame, ch.rowWritten = { ch with rows := ch.rows.tail, rowWrite := none, frames := ch.frames.map g }
      ∧ (∀ f, (g f).ctx = f.ctx ∧ (g f).stage = f.stage ∧ (g f).hold = f.hold ∧ (g f).noHeader = f.noHeader ∧ (g f).flags = f.flags
          ∧ (g f).snapshot = f.snapshot ∧ (g f).nextRow = f.nextRow)
      ∧ ∀ f, (g f).produced + (g f).lost + (ch.rows.tail.filter fun r => r.ctx == f.ctx && r.words.isSome).length = ch.tally f := by
    unfold Channel.rowWritten
    split
    · next hnil =>
      refine ⟨id, by rw [hnil, List.map_id]; rfl, fun _ => ⟨rfl, rfl, rfl, rfl, rfl, rfl, rfl⟩, fun f => ?_⟩
      rw [Channel.tally, Channel.validRows, hnil]; rfl
    · next r rest hcons =>
      dsimp only
      split
      · next hw =>
        refine ⟨fun x => if x.ctx = r.ctx then x.oneProduced else x, by rw [hcons]; rfl, fun f => ?_, fun f => ?_⟩
        · dsimp only; split <;> exact ⟨rfl, rfl, rfl, rfl, rfl, rfl, rfl⟩
        · rw [Channel.tally, ch.validRows_cons r rest hcons, hcons, hw, List.tail_cons]
          by_cases hc : f.ctx = r.ctx
          · have same : (r.ctx == f.ctx && true) = true := by simp [hc]
            simp only [if_pos hc, same]
            show f.produced + 1 + f.lost + _ = f.produced + f.lost + (1 + _)
            omega
          · have other : (r.ctx == f.ctx && true) = false := by simp [Ne.symm hc]
            simp only [if_neg hc, other]
            show f.produced + f.lost + _ = f.produced + f.lost + (0 + _)
            omega
      · next hw =>
        refine ⟨id, by rw [hcons, List.map_id]; rfl, fun _ => ⟨rfl, rfl, rfl, rfl, rfl, rfl, rfl⟩, fun f => ?_⟩
        rw [Channel.tally, ch.validRows_cons r rest hcons, hcons, Bool.of_not_eq_true hw, Bool.and_false, List.tail_cons]
        show f.produced + f.lost + _ = f.produced + f.lost + (0 + _)
        omega
  rw [hframes]
  refine h.mapFrames (g := g) rfl h.groups rfl (fun f => (hrest f).1) (fun f _ e => (hrest f).2.1 ▸ e) (fun f _ => by rw [(hrest f).2.1])
    (fun f _ => (hrest f).2.2.1) (fun f _ => (hrest f).2.2.2.1) (fun r hr => .inl (List.mem_of_mem_tail hr)) held fun f hf => ?_
  have fits := h.frames f hf
  obtain ⟨hctx, hstage, _, hnoHeader, hflags, hsnap, hnext⟩ := hrest f
  refine ⟨?_, ?_, ?_, ?_, ?_, ?_, ?_⟩
  · rw [hsnap]; exact fits.window
  · rw [hsnap, hnext]; exact fits.next
  · rw [hflags]
    intro hab
    have settled : ch.settledRows (g f) = ch.settledRows f := by
      unfold Channel.settledRows
      rw [hstage, hsnap, hnext]
    refine Eq.trans ?_ ((fits.balanced hab).trans settled.symm)
    rw [← hcount f, Channel.tally, hctx]
    rfl
  · rw [hnoHeader, hflags]; exact fits.given
  · rw [hflags]; exact fits.ends
  · rw [hflags, hstage]; exact fits.spared
  · rw [hstage, hsnap, hnext]; exact fits.reading

end Sys2Proof.Machine
end

section
/-! The row accounts of one channel under a frame start, the row combiner, and every move (R14, R53 to R58, R62). -/

namespace Sys2Proof.Machine

/-! ## A frame start (R14, R53) -/

/-- What the capture table decides leaves the frame's place, its window and its counts. -/
theorem TakesFrame.kept {runs : Bool} {caps caps' : List Capture} {f f' : Frame} (h : TakesFrame runs caps f f' caps') :
    f'.ctx = f.ctx ∧ f'.stage = f.stage ∧ f'.snapshot = f.snapshot ∧ f'.nextRow = f.nextRow ∧ f'.produced = f.produced ∧ f'.lost = f.lost
      ∧ f'.flags = f.flags ∧ f'.noHeader = f.noHeader := by
  cases h <;> exact ⟨rfl, rfl, rfl, rfl, rfl, rfl, rfl, rfl⟩

/-- The free context is no frame's. -/
theorem Channel.freeContext_ne {ch : Channel} (hlen : ch.frames.length < 2) {f : Frame} (hf : f ∈ ch.frames) : f.ctx ≠ ch.freeContext := by
  obtain ⟨x, hx⟩ : ∃ x, ch.frames = [x] := List.length_eq_one_iff.mp (by have := List.length_pos_of_mem hf; omega)
  rw [hx] at hf
  obtain rfl := List.mem_singleton.mp hf
  unfold Channel.freeContext
  rw [hx]
  dsimp only
  cases f.ctx <;> decide

theorem FullSettings.wholeGroups.periodLength {f : FullSettings} (h : f.wholeGroups) : 16 < f.periodLength := by
  have frame : 24 ≤ f.lf := by have := h.2; omega
  have stretched : f.lf * 1 ≤ f.lf * (f.stretch + 1) := Nat.mul_le_mul_left _ (Nat.succ_le_succ (Nat.zero_le _))
  rw [FullSettings.periodLength]
  omega

theorem Channel.RowAccounts.frameStarts {ch : Channel} (h : ch.RowAccounts) (hfits : ch.RunFits) {k : GoverningSet} {f : Frame} {caps : List Capture}
    {n : Nat} (hk : ch.table.latched = some k) (hlen : ch.frames.length < 2)
    (hwhen : ch.timer.state = .waiting ∨ ch.timer.state = .period ∧ ch.timer.latchTaken = true)
    (htake : TakesFrame ch.state.runs ch.captures (ch.startingFrame k) f caps) :
    Channel.RowAccounts { (ch.frameBegun k).withFrame f caps with lostEvents := n } := by
  obtain ⟨hctx, hstage, hsnap, hnext, hproduced, hlost, hflags, hnoHeader⟩ := htake.kept
  have whole := h.groups.2 k hk
  have idle : ch.timer.state ≠ .idle := by obtain e | ⟨e, _⟩ := hwhen <;> rw [e] <;> decide
  have hend : ch.ending = none := (hfits.of_timer idle).2
  have done : ∀ g ∈ ch.frames, g.stage ≠ .reading :=
    h.not_reading (hwhen.imp (fun e => by rw [e]; decide) And.right)
  have apart {g : Frame} (hg : g ∈ ch.frames) : g.ctx ≠ f.ctx := by rw [hctx]; exact Channel.freeContext_ne hlen hg
  have reading : f.stage = .reading := hstage
  have noRows : ∀ r ∈ ch.rows, r.ctx ≠ f.ctx := fun r hr => by
    obtain ⟨g, hg, hc⟩ := h.owned r hr
    rw [← hc]; exact apart hg
  refine ⟨⟨h.groups, ?_, ?_, ?_, ?_, ?_, ?_, ?_, ?_⟩, ?_⟩
  · exact List.pairwise_append.mpr ⟨h.contexts, List.pairwise_singleton _ _, fun g hg x hx => by rw [List.mem_singleton.mp hx]; exact apart hg⟩
  · show ∀ g ∈ (ch.frames ++ [f]).dropLast, _
    rw [List.dropLast_concat]
    exact done
  · exact fun r hr => (h.owned r hr).imp fun g e => ⟨List.mem_append_left _ e.1, e.2⟩
  · intro e
    obtain ⟨g, hg, hs⟩ := h.handed e
    obtain ⟨rest, hl⟩ := List.head?_eq_some_iff.mp hg
    refine ⟨g, ?_, hs⟩
    show g ∈ (ch.frames ++ [f]).head?
    rw [hl]; rfl
  · intro g hg
    change g ∈ (ch.frames ++ [f]).tail at hg
    cases hl : ch.frames with
    | nil => rw [hl] at hg; cases hg
    | cons x xs =>
      rw [hl] at hg
      obtain hg | hg := List.mem_append.mp hg
      · exact h.later g (by rw [hl]; exact hg)
      · rw [List.mem_singleton.mp hg, reading]; exact nofun
  · intro e
    change ch.ending.isSome = true at e
    rw [hend] at e; cases e
  · intro g hg
    obtain hg | hg := List.mem_append.mp hg
    · exact (h.frames g hg).congr rfl (fun e => absurd e (done g hg)) rfl (fun _ => id) fun e => absurd e (done g hg)
    · obtain rfl := List.mem_singleton.mp hg
      refine ⟨?_, ?_, fun _ => ?_, fun e => ?_, fun e => ?_, fun _ => .inl hend, fun _ => ⟨rfl, whole.periodLength, nofun, fun _ => ?_⟩⟩
      · rw [hsnap]; exact whole.1
      · rw [hnext]; exact Nat.zero_le _
      · rw [Channel.tally, hproduced, hlost, Channel.settledRows, hstage]
        show 0 + 0 + ch.validRows g.ctx = g.nextRow / g.snapshot.mode.v + 0
        rw [Channel.validRows_of_no_rows noRows, hnext]
        exact (Nat.zero_div _).symm
      · rw [hnoHeader] at e; cases e
      · rw [hflags] at e; cases e
      · rw [hnext]; exact (Nat.zero_mod _).symm
  · intro g hg hs
    change g ∈ (ch.frames ++ [f]).head? at hg
    cases hl : ch.frames with
    | nil =>
      rw [hl] at hg
      obtain rfl := Option.some.inj hg
      rw [reading] at hs; cases hs
    | cons x xs =>
      rw [hl] at hg
      exact h.closing g (by rw [hl]; exact hg) hs
  · unfold Channel.headWaits
    show (match ch.frames ++ [f] with
      | [] => true
      | f :: _ => match f.stage with
        | .reading => true
        | .draining => ch.rowsRemain f.ctx
        | .closing => !ch.rowsRemain f.ctx && f.hold.isBuffer && !f.noHeader) = true
    cases hl : ch.frames with
    | nil => simp only [List.nil_append, reading]
    | cons x xs =>
      have waits := h.waits
      rw [Channel.headWaits, hl] at waits
      exact waits

/-! ## The row combiner (R55, R56, R57, R62) -/

/-- What the combiner does to the frame of context `k`, which counts `n` output rows more, and to its rows; `next` is what it makes of the frame's next row. -/
structure Channel.Counts (k : ContextId) (next : Nat → Nat) (n : Nat) (a b : Channel) : Prop where
  frames : ∃ g : Frame → Frame, b.frames = a.frames.map (fun x => if x.ctx = k then g x else x)
    ∧ ∀ x, x.ctx = k → (g x).core = x.core ∧ (g x).nextRow = next x.nextRow ∧ b.tally (g x) = a.tally x + n
  others : ∀ j, j ≠ k → b.validRows j = a.validRows j
  owned : ∀ r ∈ b.rows, r ∈ a.rows ∨ r.ctx = k
  kept : ∀ r ∈ a.rows, r ∈ b.rows

section
variable {k : ContextId}

theorem map_same (l : List Frame) (k : ContextId) : l.map (fun x => if x.ctx = k then x else x) = l := by
  simp

theorem Channel.Counts.combiner (ch : Channel) (r : Combiner) : Channel.Counts k id 0 ch { ch with combiner := r } :=
  ⟨⟨id, (map_same _ k).symm, fun _ _ => ⟨rfl, rfl, rfl⟩⟩, fun _ _ => rfl, fun _ => .inl, fun _ => id⟩

theorem Channel.Counts.refl (ch : Channel) : Channel.Counts k id 0 ch ch := Channel.Counts.combiner ch ch.combiner

theorem Frame.core_ctx {f g : Frame} (h : g.core = f.core) : g.ctx = f.ctx := (congrArg Frame.ctx h :)

theorem Channel.Counts.trans {a b d : Channel} {next next' : Nat → Nat} {m n : Nat} (h : Channel.Counts k next m a b) (j : Channel.Counts k next' n b d) :
    Channel.Counts k (next' ∘ next) (m + n) a d := by
  obtain ⟨g, hg, hcount⟩ := h.frames
  obtain ⟨g', hg', hcount'⟩ := j.frames
  refine ⟨⟨g' ∘ g, ?_, fun x hx => ?_⟩, fun i hi => (j.others i hi).trans (h.others i hi), fun r hr => (j.owned r hr).elim (h.owned r) .inr,
    fun r hr => j.kept r (h.kept r hr)⟩
  · rw [hg', hg, List.map_map]
    refine List.map_congr_left fun x _ => ?_
    by_cases hx : x.ctx = k
    · have hgx : (g x).ctx = k := (Frame.core_ctx (hcount x hx).1).trans hx
      simp only [Function.comp_apply, if_pos hx, if_pos hgx]
    · simp only [Function.comp_apply, if_neg hx]
  · obtain ⟨hcore, hnext, hsum⟩ := hcount x hx
    obtain ⟨hcore', hnext', hsum'⟩ := hcount' (g x) ((Frame.core_ctx hcore).trans hx)
    refine ⟨hcore'.trans hcore, ?_, ?_⟩
    · exact hnext'.trans (congrArg next' hnext)
    · exact hsum'.trans (by rw [hsum, Nat.add_assoc])

/-- A change of the frame of context `k` alone. -/
theorem Channel.Counts.onFrame (ch : Channel) {g : Frame → Frame} {next : Nat → Nat} {n : Nat}
    (hg : ∀ x, (g x).core = x.core ∧ (g x).nextRow = next x.nextRow ∧ (g x).produced + (g x).lost = x.produced + x.lost + n) :
    Channel.Counts k next n ch (ch.onFrame k g) := by
  refine ⟨⟨g, rfl, fun x _ => ?_⟩, fun _ _ => rfl, fun _ => .inl, fun _ => id⟩
  obtain ⟨hcore, hnext, hsum⟩ := hg x
  refine ⟨hcore, hnext, ?_⟩
  show (g x).produced + (g x).lost + ch.validRows (g x).ctx = _
  rw [hsum, Frame.core_ctx hcore, Channel.tally]
  omega

theorem Channel.validRows_append (ch : Channel) (r : OutputRow) (j : ContextId) :
    Channel.validRows { ch with rows := ch.rows ++ [r] } j = ch.validRows j + bitNat (r.ctx == j && r.words.isSome) := by
  show ((ch.rows ++ [r]).filter _).length = _
  rw [List.filter_append, List.length_append, List.filter_cons, Channel.validRows]
  cases r.ctx == j && r.words.isSome <;> rfl

/-- R57, R60, R62: a finished row is counted exactly if it is valid. -/
theorem Channel.Counts.handOn (ch : Channel) (hasBuffer : Bool) (r : OutputRow) (hr : r.ctx = k) :
    Channel.Counts k id (bitNat r.words.isSome) ch (ch.handOn hasBuffer r) := by
  subst hr
  unfold Channel.handOn
  split
  · split
    · refine ⟨⟨id, (map_same _ _).symm, fun x hx => ⟨rfl, rfl, ?_⟩⟩, fun j hj => ?_, fun q hq => ?_, fun q hq => List.mem_append_left _ hq⟩
      · rw [Channel.tally, Channel.tally]
        show x.produced + x.lost + Channel.validRows { ch with rows := ch.rows ++ [r] } x.ctx = _
        rw [Channel.validRows_append, hx]
        simp only [beq_self_eq_true, Bool.true_and]
        omega
      · rw [Channel.validRows_append]
        have other : (r.ctx == j && r.words.isSome) = false := by simp [Ne.symm hj]
        rw [other]; rfl
      · exact (List.mem_append.mp hq).imp id fun e => congrArg OutputRow.ctx (List.mem_singleton.mp e)
    · cases r.words.isSome with
      | true => exact Channel.Counts.onFrame ch fun x => ⟨rfl, rfl, (Nat.add_assoc _ _ _).symm⟩
      | false => exact Channel.Counts.onFrame ch fun x => ⟨rfl, rfl, rfl⟩
  · split
    · next hw =>
      rw [hw]
      exact Channel.Counts.onFrame ch fun x => ⟨rfl, rfl, Nat.add_right_comm _ _ _⟩
    · next hw =>
      rw [Bool.of_not_eq_true hw]
      exact Channel.Counts.refl ch

theorem Channel.Counts.handOnInvalid (ch : Channel) (hasBuffer : Bool) (i n : Nat) : Channel.Counts k id 0 ch (ch.handOnInvalid hasBuffer k i n) := by
  induction n generalizing ch i with
  | zero => exact Channel.Counts.refl ch
  | succ n ih => exact (Channel.Counts.handOn ch hasBuffer ⟨k, i, none⟩ rfl).trans (ih _ _)

/-- The frame's output rows settled while its combiner stands at row `e` (R57). -/
def Combiner.settledAt (r : Combiner) (v e : Nat) : Nat := e / v + bitNat r.invalid

theorem Mode.v_le (m : Mode) : 0 < m.v ∧ m.v ≤ 4 := by cases m <;> decide

/-- The arithmetic of a gap: the rows from `e` to `k - 1` are missing. -/
theorem gap_settles {v e k : Nat} (hv : 0 < v ∧ v ≤ 4) (hek : e < k) (invalid : Bool) :
    e / v + bitNat invalid + ((k - 1) / v + 1 - e / v - if invalid then 1 else 0) = k / v + bitNat (k % v != 0)
      ∧ (k / v = e / v → k % v ≠ 0) := by
  obtain ⟨lo, hi⟩ := hv
  have bit (b : Bool) : bitNat b = if b then 1 else 0 := by cases b <;> rfl
  rw [bit, bit]
  have size : v = 1 ∨ v = 2 ∨ v = 3 ∨ v = 4 := by omega
  obtain rfl | rfl | rfl | rfl := size <;> cases invalid <;> simp <;> split <;> omega

end

/-- R55: a gap counts the output rows it marks, and leaves the combiner inside the group of row `k`. -/
theorem Channel.gap_counts (ch : Channel) (f : Frame) {k : Nat} (hk : f.nextRow < k) :
    (∃ m, Channel.Counts f.ctx id m ch (ch.gap f k)
        ∧ ch.combiner.settledAt f.snapshot.mode.v f.nextRow + m = (ch.gap f k).combiner.settledAt f.snapshot.mode.v k)
      ∧ (ch.gap f k).combiner.Stands f.snapshot.mode.v k := by
  obtain ⟨sum, opens⟩ := gap_settles f.snapshot.mode.v_le hk ch.combiner.invalid
  have counted : ∀ n i j, Channel.Counts f.ctx id n ch
      ((ch.onFrame f.ctx fun x => { x with flags := { x.flags with gap := true }, lost := x.lost + n }).handOnInvalid f.hold.isBuffer f.ctx i j) := by
    intro n i j
    refine Channel.Counts.trans (m := n) (n := 0) (next := id) (next' := id) ?_ (Channel.Counts.handOnInvalid _ _ i j)
    exact Channel.Counts.onFrame ch fun x => ⟨rfl, rfl, (Nat.add_assoc _ _ _).symm⟩
  have le : f.nextRow / f.snapshot.mode.v ≤ k / f.snapshot.mode.v := Nat.div_le_div_right (Nat.le_of_lt hk)
  unfold Channel.gap
  dsimp only
  split
  · next hp =>
    have hne := opens (by omega)
    have bit : bitNat (k % f.snapshot.mode.v != 0) = 1 := by simp [hne, bitNat]
    refine ⟨⟨_, (counted _ _ _).trans (Channel.Counts.combiner _ _), ?_⟩, fun _ => hne, nofun⟩
    rw [bit] at sum
    exact sum
  · refine ⟨⟨_, (counted _ _ _).trans (Channel.Counts.combiner _ _), sum⟩, fun e => bne_iff_ne.mp e, fun e => ?_⟩
    have zero : k % f.snapshot.mode.v = 0 := by simpa using e
    exact zero.symm

/-- The arithmetic of a row taken: row `k` is the last of its group, or stands inside it. -/
theorem row_settles {v k : Nat} (hv : 0 < v ∧ v ≤ 4) :
    ((k + 1) % v = 0 → (k + 1) / v = k / v + 1 ∧ k % v + 1 = v) ∧ ((k + 1) % v ≠ 0 → (k + 1) / v = k / v ∧ (k + 1) % v = k % v + 1) := by
  obtain ⟨lo, hi⟩ := hv
  have size : v = 1 ∨ v = 2 ∨ v = 3 ∨ v = 4 := by omega
  obtain rfl | rfl | rfl | rfl := size <;> omega

/-- R56: a row taken counts the output row it finishes, and leaves the combiner at the row behind it. -/
theorem Channel.takeRow_counts (ch : Channel) (f : Frame) (k : Nat) (samples : List Sample) (hs : ch.combiner.Stands f.snapshot.mode.v k) :
    (∃ m, Channel.Counts f.ctx (fun _ => k + 1) m ch (ch.takeRow f k samples)
        ∧ ch.combiner.settledAt f.snapshot.mode.v k + m = (ch.takeRow f k samples).combiner.settledAt f.snapshot.mode.v (k + 1))
      ∧ (ch.takeRow f k samples).combiner.Stands f.snapshot.mode.v (k + 1) := by
  obtain ⟨last, inside⟩ := row_settles (k := k) f.snapshot.mode.v_le
  have counted : Channel.Counts f.ctx (fun _ => k + 1) 0 ch (ch.onFrame f.ctx fun x => { x with nextRow := k + 1 }) :=
    Channel.Counts.onFrame ch fun x => ⟨rfl, rfl, rfl⟩
  unfold Channel.takeRow
  dsimp only
  split
  · next hend =>
    obtain ⟨hdiv, hfull⟩ := last hend
    refine ⟨⟨_, (counted.trans (Channel.Counts.handOn _ _ _ rfl)).trans (Channel.Counts.combiner _ _), ?_⟩, nofun, fun _ => hend.symm⟩
    rw [Combiner.settledAt, Combiner.settledAt, hdiv]
    show _ = k / f.snapshot.mode.v + 1 + 0
    cases hi : ch.combiner.invalid with
    | true => simp [bitNat, hi]
    | false =>
      have rows : ch.combiner.rowsInGroup + 1 = f.snapshot.mode.v := by rw [hs.complete hi]; exact hfull
      simp [bitNat, hi, rows]
  · next hend =>
    obtain ⟨hdiv, hmod⟩ := inside hend
    refine ⟨⟨_, counted.trans (Channel.Counts.combiner _ _), ?_⟩, fun _ => hend, fun e => ?_⟩
    · rw [Combiner.settledAt, Combiner.settledAt, hdiv]; rfl
    · rw [hmod]
      exact congrArg (· + 1) (hs.complete e)

/-- An accepted row moves the combiner and the frame's account together. -/
theorem Channel.combine_counts (ch : Channel) (f : Frame) {k : Nat} (samples : List Sample) (hk : f.nextRow ≤ k)
    (hs : ch.combiner.Stands f.snapshot.mode.v f.nextRow) :
    (∃ m, Channel.Counts f.ctx (fun _ => k + 1) m ch (ch.combine f k samples)
        ∧ ch.combiner.settledAt f.snapshot.mode.v f.nextRow + m = (ch.combine f k samples).combiner.settledAt f.snapshot.mode.v (k + 1))
      ∧ (ch.combine f k samples).combiner.Stands f.snapshot.mode.v (k + 1) := by
  unfold Channel.combine
  split
  · next hlt =>
    obtain ⟨⟨m, hcount, hsum⟩, hstands⟩ := ch.gap_counts f hlt
    obtain ⟨⟨n, hcount', hsum'⟩, hstands'⟩ := (ch.gap f k).takeRow_counts f k samples hstands
    exact ⟨⟨m + n, hcount.trans hcount', by omega⟩, hstands'⟩
  · next hle =>
    obtain rfl : f.nextRow = k := by omega
    exact ch.takeRow_counts f f.nextRow samples hs

theorem Channel.headWaits_iff {ch : Channel} : ch.headWaits = true ↔ ∀ f ∈ ch.frames.head?,
    (f.stage = .draining → ch.rowsRemain f.ctx = true)
      ∧ (f.stage = .closing → ch.rowsRemain f.ctx = false ∧ f.hold.isBuffer = true ∧ f.noHeader = false) := by
  unfold Channel.headWaits
  cases ch.frames with
  | nil => simp
  | cons f rest => cases hs : f.stage <;> simp [hs, and_assoc]

/-- R55 to R57, R62: an accepted row. -/
theorem Channel.RowAccounts.combined {ch : Channel} (h : ch.RowAccounts) (hfits : ch.RunFits) {f : Frame} {k : Nat} (samples : List Sample)
    (hf : ch.reading = some f) (hlo : f.nextRow ≤ k) (hhi : k < f.snapshot.vRows) : (ch.combine f k samples).RowAccounts := by
  obtain ⟨hmem, hs⟩ := Channel.reading_some hf
  obtain ⟨hab, hend⟩ := h.not_aborted hfits hmem hs
  have fits := h.frames f hmem
  obtain ⟨hperiod, hline, hstands⟩ := fits.reading hs
  obtain ⟨⟨m, hcount, hsum⟩, hstands'⟩ := ch.combine_counts f samples hlo hstands
  have rest := (Channel.Combines.combine ch f k samples).rest
  generalize ch.combine f k samples = b at hcount hsum hstands' rest
  obtain ⟨g, hframes, hg⟩ := hcount.frames
  have core (x : Frame) : Frame.core (if x.ctx = f.ctx then g x else x) = x.core := by
    split
    · next hc => exact (hg x hc).1
    · rfl
  have stage (x : Frame) : Frame.stage (if x.ctx = f.ctx then g x else x) = x.stage := (congrArg Frame.stage (core x) :)
  have only {x : Frame} (hx : x ∈ ch.frames) (hc : ¬x.ctx = f.ctx) : x.stage ≠ .reading := h.reading_alone hmem hs hx hc
  have ending : b.ending = ch.ending := by rw [rest]
  have timer : b.timer = ch.timer := by rw [rest]
  have header : b.headerWrite = ch.headerWrite := by rw [rest]
  have rowsFit : b.RowsFit := by
    refine h.mapFrames hframes (by rw [rest]; exact h.groups) header (fun x => (congrArg Frame.ctx (core x) :)) (fun x _ e => (stage x).symm.trans e)
      (fun x _ => by rw [stage x]) (fun x _ => (congrArg Frame.hold (core x) :)) (fun x _ => (congrArg Frame.noHeader (core x) :)) (fun r hr => ?_)
      (fun e => ?_) fun x hx => ?_
    · exact (hcount.owned r hr).imp id fun e => ⟨f, hmem, by rw [hs]; exact nofun, e.symm⟩
    · rw [ending, hend] at e; cases e
    · split
      · next hc =>
        obtain rfl := h.eq_of_ctx hx hmem hc
        obtain ⟨hcore, hnext, htally⟩ := hg x rfl
        have hsnap : (g x).snapshot = x.snapshot := (congrArg Frame.snapshot hcore :)
        have hstage : (g x).stage = x.stage := (congrArg Frame.stage hcore :)
        have haborted : (g x).flags.aborted = x.flags.aborted := (congrArg (fun y => y.flags.aborted) hcore :)
        have hnoHeader : (g x).noHeader = x.noHeader := (congrArg Frame.noHeader hcore :)
        refine ⟨?_, ?_, fun _ => ?_, ?_, fun e => ?_, fun _ => .inl (ending.trans hend), fun _ => ?_⟩
        · rw [hsnap]; exact fits.window
        · rw [hsnap, hnext]; exact hhi
        · have balanced := fits.balanced hab
          simp only [Channel.settledRows, hs] at balanced
          simp only [Channel.settledRows, hstage, hs, hsnap, hnext]
          rw [htally, balanced]
          exact hsum
        · rw [hnoHeader, haborted]; exact fits.given
        · rw [haborted, hab] at e; cases e
        · rw [hsnap, hnext, timer]; exact ⟨hperiod, hline, hstands'⟩
      · next hc =>
        exact (h.frames x hx).congr (hcount.others _ hc) (fun e => absurd e (only hx hc)) (by rw [ending]) (fun _ => by rw [header]; exact id)
          fun e => absurd e (only hx hc)
  refine ⟨rowsFit, Channel.headWaits_iff.mpr fun y hy => ?_⟩
  have hclosing := rowsFit.closing y hy
  rw [hframes, List.head?_map] at hy
  obtain ⟨x, hx, rfl⟩ := Option.map_eq_some_iff.mp hy
  obtain ⟨draining, closing⟩ := Channel.headWaits_iff.mp h.waits x hx
  rw [stage x] at hclosing ⊢
  refine ⟨fun e => ?_, fun e => ?_⟩
  · have remain := draining e
    have hctx : Frame.ctx (if x.ctx = f.ctx then g x else x) = x.ctx := (congrArg Frame.ctx (core x) :)
    rw [Channel.rowsRemain, List.any_eq_true] at remain ⊢
    obtain ⟨r, hr, hrc⟩ := remain
    exact ⟨r, hcount.kept r hr, by rw [hctx]; exact hrc⟩
  · obtain ⟨hrows, hbuffer, _⟩ := hclosing e
    exact ⟨hrows, hbuffer, (congrArg Frame.noHeader (core x) :).trans (closing e).2.2⟩

end Sys2Proof.Machine
end

section
/-! The row accounts of one channel are kept by every move. -/

namespace Sys2Proof.Machine

theorem Settings.complete_eq_some {p : Settings} {f : FullSettings} (h : p.complete = some f) :
    p.mode = some f.mode ∧ p.vRows = some f.vRows ∧ p.lf = some f.lf := by
  simp only [Settings.complete, Option.bind_eq_bind, Option.bind_eq_some_iff] at h
  obtain ⟨mode, hmode, depth, _, flip, _, vStart, _, vRows, hvRows, hStart, _, hWidth, _, lp, _, lf, hlf, stretch, _, source, _, exposure, _, he⟩ := h
  obtain rfl := Option.some.inj he
  exact ⟨hmode, hvRows, hlf⟩

/-- A committed set that governs has whole groups (R26, R28). -/
theorem SettingsTable.wholeGroups.governing {t : SettingsTable} (h : t.wholeGroups) {k : CommittedSet} (hk : t.committed = some k) {g : GoverningSet}
    (hg : k.governing = some g) : g.fields.wholeGroups := by
  obtain ⟨c2, c9⟩ := h.1 k hk
  unfold CommittedSet.governing at hg
  split at hg
  · cases hg
  · next f hf =>
    obtain rfl := Option.some.inj hg
    obtain ⟨hmode, hrows, hlf⟩ := Settings.complete_eq_some hf
    simp only [checkC2, hmode, hrows, beq_iff_eq] at c2
    simp only [checkC9, hrows, hlf, decide_eq_true_eq] at c9
    exact ⟨c2, c9⟩

/-- The timer of a channel moves, with its state, captures and link. -/
theorem Channel.RowsFit.withTimer {ch : Channel} (h : ch.RowsFit) {timer : FrameTimer} {state : ChannelState} {caps : List Capture} {link : Link}
    (ht : ∀ f ∈ ch.frames, f.stage = .reading → timer.state = .period ∧ timer.line + 16 < timer.periodLength) :
    Channel.RowsFit { ch with timer := timer, state := state, captures := caps, link := link } :=
  h.congr h.groups rfl rfl rfl rfl rfl rfl ht

theorem FrameTimer.stopped_of_period {t : FrameTimer} (h : t.state = .period) : t.stopped = t := by
  unfold FrameTimer.stopped
  rw [h]

theorem Channel.oldestRowWrite_held {ch : Channel} (h : ch.RowsFit) (hnone : ch.rowWrite = none) :
    ch.ending.isSome = true → ch.rows.length ≤ bitNat ch.oldestRowWrite.isSome := by
  intro e
  have held := h.held e
  rw [hnone] at held
  exact Nat.le_trans held (Nat.zero_le _)

/-- R61: a row is handed to the port. -/
theorem Channel.RowAccounts.rowHanded {ch : Channel} (h : ch.RowAccounts) (hnone : ch.rowWrite = none) :
    Channel.RowAccounts { ch with rowWrite := ch.oldestRowWrite } :=
  ⟨⟨h.groups, h.contexts, h.early, h.owned, h.handed, h.later, Channel.oldestRowWrite_held (ch := ch) h.toRowsFit hnone,
    fun f hf => (h.frames f hf).congr rfl (fun _ => rfl) rfl (fun _ => id) (h.inPeriod hf), h.closing⟩, h.waits⟩

theorem Channel.closingHeaderWrite_some {ch : Channel} {c : ChannelId} (h : (ch.closingHeaderWrite c).isSome = true) :
    ∃ f ∈ ch.frames.head?, f.stage = .closing := by
  unfold Channel.closingHeaderWrite at h
  split at h
  · cases h
  · next f rest hf =>
    split at h
    · next hs _ => exact ⟨f, by rw [hf]; rfl, hs⟩
    · cases h

/-- R125: a header is handed to the port. -/
theorem Channel.RowAccounts.headerHanded {ch : Channel} (h : ch.RowAccounts) (c : ChannelId) (hnone : ch.headerWrite = none) :
    Channel.RowAccounts { ch with headerWrite := ch.closingHeaderWrite c } := by
  refine ⟨⟨h.groups, h.contexts, h.early, h.owned, Channel.closingHeaderWrite_some, h.later, h.held, fun f hf => ?_, fun f hf hs => ?_⟩, h.waits⟩
  · refine (h.frames f hf).congr rfl (fun _ => rfl) rfl (fun _ e => ?_) (h.inPeriod hf)
    rw [hnone] at e; cases e
  · obtain ⟨hrows, hbuffer, hheader⟩ := (Channel.headWaits_iff.mp h.waits f hf).2 hs
    exact ⟨hrows, hbuffer, fun _ => hheader⟩

/-- R125: the header of the earliest frame is written, and the frame is gone. -/
theorem Channel.RowAccounts.headerReleased {ch : Channel} (h : ch.RowAccounts) {f : Frame} {rest : List Frame} (hf : ch.frames = f :: rest)
    (hsome : ch.headerWrite.isSome = true) (whole : Bool) : (Channel.released { ch with headerWrite := none } f whole).RowsFit := by
  obtain ⟨x, hx, hs⟩ := h.handed hsome
  rw [hf] at hx
  obtain rfl := Option.some.inj hx
  exact h.toRowsFit.released hf (h.closing f (by rw [hf]; rfl) hs).1 whole

theorem Channel.Move.rowAccounts {halts : Bool} {a b : Channel} (m : Channel.Move halts a b) (hacc : a.Accounts) (h : a.RowAccounts) : b.RowAccounts := by
  have same {b : Channel} (hgroups : b.table.wholeGroups) (hframes : b.frames = a.frames) (hrows : b.rows = a.rows) (hcombiner : b.combiner = a.combiner)
      (hheader : b.headerWrite = a.headerWrite) (hrow : b.rowWrite = a.rowWrite) (hending : b.ending.isSome = a.ending.isSome)
      (htimer : b.timer = a.timer) : b.RowAccounts :=
    h.congr hgroups hframes hrows hcombiner hheader hrow hending fun f hf hs => by rw [htimer]; exact h.inPeriod hf hs
  cases m with
  | lost => exact same h.groups rfl rfl rfl rfl rfl rfl rfl
  | cause => exact same h.groups rfl rfl rfl rfl rfl rfl rfl
  | link => exact same h.groups rfl rfl rfl rfl rfl rfl rfl
  | timer t ht =>
    obtain ⟨hstate, hlength, hline, _⟩ := ht
    refine h.congr h.groups rfl rfl rfl rfl rfl rfl fun f hf hs => ?_
    obtain ⟨hperiod, before⟩ := h.inPeriod hf hs
    exact ⟨hstate.trans hperiod, by rw [hlength]; exact hline before⟩
  | atLatch hread => exact h.congr h.groups rfl rfl rfl rfl rfl rfl fun f hf hs => absurd hs (Channel.reading_none hread f hf)
  | sets t ht hc =>
    refine same ⟨?_, ?_⟩ rfl rfl rfl rfl rfl rfl rfl
    · obtain hc | hc := hc
      · rw [hc]; exact h.groups.1
      · exact hc
    · rw [ht]; exact h.groups.2
  | latched k g pending _ hk hg =>
    refine h.congr ⟨h.groups.1, fun x hx => ?_⟩ rfl rfl rfl rfl rfl rfl fun f hf hs => h.inPeriod hf hs
    obtain rfl := Option.some.inj hx
    exact h.groups.governing hk hg
  | waits _ _ hlatch => exact h.congr h.groups rfl rfl rfl rfl rfl rfl fun f hf hs => absurd hs (h.not_reading (.inr hlatch) f hf)
  | periodEnds writes _ _ hlatch =>
    refine Channel.RowsFit.settled ?_ writes
    exact h.toRowsFit.withTimer (state := a.state) (caps := a.captures) (link := a.link) fun f hf hs => absurd hs (h.not_reading (.inr hlatch) f hf)
  | frameStarts k f caps n _ hk hlen hwhen htake => exact h.frameStarts hacc.toRunFits hk hlen hwhen htake
  | backlogged k n _ _ hwhen =>
    refine h.congr h.groups rfl rfl rfl rfl rfl rfl fun f hf hs => absurd hs (h.not_reading ?_ f hf)
    exact hwhen.imp (fun e => by rw [e]; decide) And.right
  | starts k g hoff _ hk hg =>
    have hframes := (hacc.rest (by rw [hoff]; rfl)).2.2.2.1
    rw [Channel.started, Channel.opening_eq]
    obtain ⟨hrows, hheader⟩ := h.of_frames_nil hframes
    refine Channel.RowAccounts.of_no_frames hframes hrows hheader ⟨h.groups.1, fun x hx => ?_⟩
    obtain rfl := Option.some.inj hx
    exact h.groups.governing hk hg
  | stops writes link =>
    refine Channel.RowsFit.settled ?_ writes
    refine h.toRowsFit.withTimer fun f hf hs => ?_
    obtain ⟨hperiod, before⟩ := h.inPeriod hf hs
    show a.timer.stopped.state = _ ∧ a.timer.stopped.line + 16 < a.timer.stopped.periodLength
    rw [FrameTimer.stopped_of_period hperiod]
    exact ⟨hperiod, before⟩
  | aborts writes event link => exact (h.toRowsFit.aborted event link).settled writes
  | goesOn writes ending hend =>
    refine Channel.RowsFit.settled ?_ writes
    exact h.toRowsFit.congr h.groups rfl rfl rfl rfl rfl (hend.elim (fun e => by rw [e]) And.right) fun f hf hs => h.inPeriod hf hs
  | off => exact same h.groups rfl rfl rfl rfl rfl rfl rfl
  | captures =>
    rw [Channel.opening_eq]
    exact same h.groups rfl rfl rfl rfl rfl rfl rfl
  | cancels =>
    rw [Channel.opening_eq]
    split <;> exact same h.groups rfl rfl rfl rfl rfl rfl rfl
  | combines f k samples hf hlo hhi => exact h.combined hacc.toRunFits samples hf hlo hhi
  | flushes writes f missed link timer hf => exact (h.toRowsFit.flushed hacc.toRunFits hf missed link timer).settled writes
  | rowHanded hnone => exact h.rowHanded hnone
  | headerHanded c hnone => exact h.headerHanded c hnone
  | rowMade writes hsome => exact (h.toRowsFit.rowWritten hsome).settled writes
  | headerMade writes whole f rest _ hf _ hsome => exact (h.headerReleased hf hsome whole).settled writes

end Sys2Proof.Machine
end

section
/-! The row accounts are kept by every step: beside what each channel keeps, every aborted frame's header stays decided (R129), and a STOP that waits for closes waits for a run that is ending (R128). -/

namespace Sys2Proof.Machine

/-! ## Headers given up (R129) -/

/-- Every aborted frame of the channel has given its header up or has it handed. -/
def Channel.headersGiven (ch : Channel) : Prop :=
  ∀ f ∈ ch.frames, f.flags.aborted = true → f.noHeader = true ∨ f.stage = .closing ∧ ch.headerWrite.isSome = true

theorem State.headersDecided_iff (s : State) (c : ChannelId) :
    s.headersDecided c = true ↔ (s.regs.iface.busWrites = false → (s.ch c).headersGiven) := by
  unfold State.headersDecided Channel.headersGiven
  cases s.regs.iface.busWrites with
  | true => simp
  | false =>
    simp only [Bool.false_or, List.all_eq_true, Bool.or_eq_true, Bool.not_eq_true', Bool.and_eq_true, beq_iff_eq, true_implies]
    refine forall₂_congr fun f _ => ?_
    cases f.flags.aborted <;> simp

theorem Channel.headersGiven_congr {a b : Channel} (hframes : b.frames = a.frames) (hheader : b.headerWrite = a.headerWrite) (h : a.headersGiven) :
    b.headersGiven := by
  unfold Channel.headersGiven
  rw [hframes, hheader]
  exact h

theorem Channel.headersGiven_givenUp (ch : Channel) : ch.givenUp.headersGiven := by
  intro g hg hab
  obtain ⟨f, _, rfl⟩ := List.mem_map.mp hg
  unfold Frame.giveUpHeader at hab ⊢
  split
  · exact .inl rfl
  · next h =>
    rw [if_neg h] at hab
    simp only [hab, Bool.true_and, Bool.not_eq_true', Bool.not_eq_false, Bool.and_eq_true, beq_iff_eq] at h
    exact .inr h

/-- R129: with the bus writer not writing, a channel whose frames have gone on has its headers decided. -/
theorem Channel.headersGiven_settled (ch : Channel) : (ch.settled false).headersGiven := by
  have advanced : (ch.advanced false).headersGiven := by
    refine Channel.advance_induct (P := Channel.headersGiven) ?_ ?_ _ ch.headersGiven_givenUp
    · exact fun ch f rest hf _ h g hg => h g (List.mem_of_mem_tail hg)
    · intro ch f rest hf hc h g hg hab
      obtain rfl | hg := List.mem_cons.mp hg
      · have given := h f (by rw [hf]; exact List.mem_cons_self) hab
        refine given.imp id fun e => ?_
        rw [(Channel.entersClosing_iff.mp hc).1] at e; cases e.1
      · exact h g (List.mem_of_mem_tail hg) hab
  unfold Channel.settled
  generalize ch.advanced false = a at advanced
  unfold Channel.ended
  split
  · exact Channel.headersGiven_congr rfl rfl advanced
  · split
    · exact Channel.headersGiven_congr rfl rfl advanced
    · exact advanced
  · exact advanced

theorem Channel.settledThen_frames (ch : Channel) (w : Bool) (n : Nat) :
    (ch.settledThen w n).frames = (ch.settled w).frames ∧ (ch.settledThen w n).headerWrite = (ch.settled w).headerWrite := by
  unfold Channel.settledThen
  split <;> exact ⟨rfl, rfl⟩

theorem Channel.headersGiven_settledThen (ch : Channel) (n : Nat) : (ch.settledThen false n).headersGiven :=
  have ⟨hframes, hheader⟩ := ch.settledThen_frames false n
  Channel.headersGiven_congr hframes hheader ch.headersGiven_settled

/-! ## What is decided about the headers of every channel, and what a STOP waits for -/

/-- Every channel's headers are decided, and a STOP that waits for closes waits for a run that is ending. -/
structure State.Waits (s : State) : Prop where
  headers : ∀ c, s.headersDecided c = true
  stop : ∀ c ∈ s.waitingStop, (s.ch c).ending.isSome = true

theorem State.rowsSound_iff (s : State) : s.rowsSound ↔ (∀ c, (s.ch c).RowAccounts) ∧ s.Waits := by
  constructor
  · rintro ⟨sound, waits, stop⟩
    have both (c : ChannelId) := Bool.and_eq_true_iff.mp (waits c)
    exact ⟨fun c => (Channel.rowAccounts_iff _).mpr ⟨sound c, (both c).1⟩, ⟨fun c => (both c).2, stop⟩⟩
  · rintro ⟨accounts, headers, stop⟩
    exact ⟨fun c => ((Channel.rowAccounts_iff _).mp (accounts c)).1,
      fun c => Bool.and_eq_true_iff.mpr ⟨((Channel.rowAccounts_iff _).mp (accounts c)).2, headers c⟩, stop⟩

section
variable {s t u : State} {c : ChannelId}

theorem State.waitingStop_of_none (h : s.proc.hand = none) : s.waitingStop = none := by
  rw [State.waitingStop, h]

theorem State.waitingStop_of_not_taken {k : Hand} (h : s.proc.hand = some k) (ht : k.taken = false) : s.waitingStop = none := by
  simp [State.waitingStop, h, ht]

theorem State.waitingStop_congr (h : t.proc.hand = s.proc.hand) : t.waitingStop = s.waitingStop := by
  rw [State.waitingStop, h]; rfl

theorem State.Waits.of_next (h : Host.Outcome.next u = (.next t : Host.Outcome State Fault Refusal)) (w : u.Waits) : t.Waits := by
  cases h
  exact w

/-- The headers of a channel whose frames and header write are as they were, with the bus writer writing or not as it was. -/
theorem State.headersDecided_congr {c : ChannelId} (hi : t.regs.iface.busWrites = s.regs.iface.busWrites) (hframes : (t.ch c).frames = (s.ch c).frames)
    (hheader : (t.ch c).headerWrite = (s.ch c).headerWrite) (h : s.headersDecided c = true) : t.headersDecided c = true := by
  rw [State.headersDecided_iff] at h ⊢
  rw [hi]
  exact fun e => Channel.headersGiven_congr hframes hheader (h e)

theorem State.headersDecided_of_writes (h : s.regs.iface.busWrites = true) (c : ChannelId) : s.headersDecided c = true := by
  rw [State.headersDecided, h]; rfl

theorem State.headersDecided_of_chans (hi : t.regs.iface.busWrites = s.regs.iface.busWrites) (hc : t.chans = s.chans)
    (h : s.headersDecided c = true) : t.headersDecided c = true :=
  State.headersDecided_congr hi (by rw [State.ch, State.ch, hc]) (by rw [State.ch, State.ch, hc]) h

theorem State.Waits.of_eq (w : s.Waits) (hhand : t.proc.hand = s.proc.hand) (hi : t.regs.iface.busWrites = s.regs.iface.busWrites)
    (hc : t.chans = s.chans) : t.Waits where
  headers c := State.headersDecided_of_chans hi hc (w.headers c)
  stop c h := by
    rw [State.waitingStop_congr hhand] at h
    rw [State.ch, hc]
    exact w.stop c h

/-- An event of one channel that decides its headers and does not end a run that is ending. -/
theorem State.Waits.actsOn (w : s.Waits) (acts : ActsOn c s t) (hheaders : t.headersDecided c = true)
    (hend : (s.ch c).ending.isSome = true → (t.ch c).ending.isSome = true) : t.Waits where
  headers d := by
    by_cases hd : d = c
    · rw [hd]; exact hheaders
    · exact State.headersDecided_congr (by rw [acts.regs]) (by rw [acts.others d hd]) (by rw [acts.others d hd]) (w.headers d)
  stop d h := by
    rw [State.waitingStop_congr (s := s) (by rw [acts.proc])] at h
    by_cases hd : d = c
    · rw [hd] at h ⊢; exact hend (w.stop c h)
    · rw [acts.others d hd]; exact w.stop d h

/-- An event of a channel that no run is ending in. -/
theorem State.Waits.actsOnFree (w : s.Waits) (acts : ActsOn c s t) (hend : (s.ch c).ending = none) (hheaders : t.headersDecided c = true) : t.Waits :=
  w.actsOn acts hheaders fun e => by rw [hend] at e; cases e

/-! ## The operations on one channel -/

theorem State.headersDecided_settle (s : State) (c : ChannelId) : (s.settle c).headersDecided c = true := by
  obtain ⟨n, _, hch⟩ := State.settle_ch_same s c
  rw [State.headersDecided_iff, hch, (Settles.settle c s).regs]
  intro e
  rw [e]
  exact Channel.headersGiven_settledThen _ n

theorem State.headersDecided_upd {g : Channel → Channel} (hframes : (g (s.ch c)).frames = (s.ch c).frames)
    (hheader : (g (s.ch c)).headerWrite = (s.ch c).headerWrite) (h : s.headersDecided c = true) : (s.upd c g).headersDecided c = true :=
  State.headersDecided_congr (s := s) rfl (by rw [State.ch_upd_same]; exact hframes) (by rw [State.ch_upd_same]; exact hheader) h

theorem State.headersDecided_faultChannel (cause : FaultCause) (h : s.headersDecided c = true) : (s.faultChannel c cause).headersDecided c = true := by
  unfold State.faultChannel
  split
  · exact State.headersDecided_settle _ c
  · exact h

theorem State.headersDecided_offer (r : Completion) (h : s.headersDecided c = true) : (s.offer c r).headersDecided c = true :=
  State.headersDecided_congr (by rw [(Settles.offer c s r).regs]) (by rw [State.offer_ch_same]) (by rw [State.offer_ch_same]) h

theorem State.headersDecided_latch (h : s.headersDecided c = true) : (s.latch c).headersDecided c = true := by
  unfold State.latch
  split
  · split
    · exact h
    · split
      · exact h
      · exact State.headersDecided_upd rfl rfl (State.headersDecided_upd rfl rfl h)
  · exact h

/-- R11, R14: the frame that starts is not aborted. -/
theorem State.headersDecided_frameStart (h : s.headersDecided c = true) : (s.frameStart c).headersDecided c = true := by
  cases hk : (s.ch c).table.latched with
  | none => simp only [State.frameStart, hk]; exact h
  | some k =>
    rw [State.headersDecided_iff] at h ⊢
    rw [(ActsOn.frameStart c s).regs]
    intro e
    obtain ⟨_, n, f, caps, _, htake, hch⟩ | ⟨_, n, _, hch⟩ := State.frameStart_ch hk
    · rw [hch]
      intro g hg hab
      obtain hg | hg := List.mem_append.mp hg
      · exact h e g hg hab
      · rw [List.mem_singleton.mp hg, htake.kept.2.2.2.2.2.2.1] at hab
        cases hab
    · rw [hch]
      exact Channel.headersGiven_congr rfl rfl (h e)

/-- A change of one channel that leaves its frames, its header write and its ending as they are. -/
theorem State.Waits.upd (w : s.Waits) {g : Channel → Channel} (hframes : (g (s.ch c)).frames = (s.ch c).frames)
    (hheader : (g (s.ch c)).headerWrite = (s.ch c).headerWrite) (hending : (g (s.ch c)).ending = (s.ch c).ending) : (s.upd c g).Waits where
  headers d := by
    by_cases hd : d = c
    · rw [hd]; exact State.headersDecided_upd hframes hheader (w.headers c)
    · exact State.headersDecided_congr (s := s) rfl (by rw [State.ch_upd_ne s g hd]) (by rw [State.ch_upd_ne s g hd]) (w.headers d)
  stop d h := by
    by_cases hd : d = c
    · rw [hd, State.ch_upd_same, hending]; rw [hd] at h; exact w.stop c h
    · rw [State.ch_upd_ne s g hd]; exact w.stop d h

/-! ## The ends of commands (R128, R137, R169, R171) -/

theorem State.headersDecided_enterDisabled (s : State) (c : ChannelId) : s.enterDisabled.headersDecided c = true := by
  obtain ⟨n, _, hch⟩ := State.enterDisabled_ch s c
  rw [State.headersDecided_iff, hch]
  exact fun _ => Channel.headersGiven_settledThen _ n

theorem State.Waits.tryFetch (w : s.Waits) : s.tryFetch.Waits := by
  unfold State.tryFetch
  split
  · exact ⟨fun c => State.headersDecided_of_chans rfl rfl (w.headers c), fun c h => by rw [State.waitingStop_of_none rfl] at h; cases h⟩
  · exact w

theorem State.headersDecided_tryFetch (h : s.headersDecided c = true) : s.tryFetch.headersDecided c = true :=
  State.headersDecided_of_chans (by rw [State.tryFetch_regs]) (State.tryFetch_chans s) h

theorem State.finishCommand_headers (hh : ∀ c, s.headersDecided c = true) (code : ResultCode) (gen : Option Gen) (c : ChannelId) :
    (s.finishCommand code gen).headersDecided c = true := by
  cases hk : s.proc.hand with
  | none => rw [State.finishCommand_of_none hk]; exact hh c
  | some k =>
    rw [State.finishCommand_of_some hk]
    split
    · exact State.headersDecided_enterDisabled _ c
    · exact State.headersDecided_tryFetch (State.headersDecided_of_chans (s := s) rfl rfl (hh c))

theorem State.finishCommand_hand {k : Hand} (hk : s.proc.hand = some k) (code : ResultCode) (gen : Option Gen) :
    (s.finishCommand code gen).proc.hand = none := by
  rw [State.finishCommand_of_some hk]
  split
  · rw [State.enterDisabled_proc]; rfl
  · unfold State.tryFetch
    split <;> rfl

theorem State.Waits.finishCommand (hh : ∀ c, s.headersDecided c = true) {k : Hand} (hk : s.proc.hand = some k) (code : ResultCode) (gen : Option Gen) :
    (s.finishCommand code gen).Waits where
  headers := State.finishCommand_headers hh code gen
  stop c h := by rw [State.waitingStop_of_none (State.finishCommand_hand hk code gen)] at h; cases h

/-- R128: a STOP that waited is answered as soon as its run has ended. -/
theorem State.Waits.finishWaitingStop (hh : ∀ c, s.headersDecided c = true) : s.finishWaitingStop.Waits := by
  unfold State.finishWaitingStop
  split
  · next hk => exact ⟨hh, fun c h => by rw [State.waitingStop_of_none hk] at h; cases h⟩
  · next k hk =>
    split
    · next ht =>
      split
      · next d abort hcmd =>
        split
        · exact State.Waits.finishCommand hh hk _ _
        · next hend =>
          refine ⟨hh, fun c h => ?_⟩
          have waiting : s.waitingStop = some d := by simp [State.waitingStop, hk, ht, hcmd]
          obtain rfl := Option.some.inj (h.symm.trans waiting)
          exact Option.isSome_iff_ne_none.mpr (by simpa using hend)
      · next hcmd =>
        refine ⟨hh, fun c h => ?_⟩
        unfold State.waitingStop at h
        rw [hk] at h
        dsimp only at h
        rw [if_pos ht] at h
        split at h
        · next d abort hstop => exact absurd hstop (hcmd d abort)
        · cases h
    · next ht =>
      exact ⟨hh, fun c h => by rw [State.waitingStop_of_not_taken hk (Bool.of_not_eq_true ht)] at h; cases h⟩

/-- R129, R171: behind the entry to HALTED every header is decided. -/
theorem State.headersDecided_haltChannel (h : (s.ch c).Accounts) : (State.haltChannel c s).headersDecided c = true := by
  have resting {st : ChannelState} (hrun : st.inRun = false) (hst : (s.ch c).state = st) {t : State} (hframes : (t.ch c).frames = (s.ch c).frames) :
      t.headersDecided c = true := by
    rw [State.headersDecided_iff]
    intro _ f hf
    rw [hframes, (h.rest (by rw [hst]; exact hrun)).2.2.2.1] at hf
    cases hf
  unfold State.haltChannel
  split
  · exact State.headersDecided_settle _ c
  · next _ hs => exact resting rfl hs rfl
  · exact State.headersDecided_settle _ c
  · exact State.headersDecided_settle _ c
  · exact State.headersDecided_settle _ c
  · next _ hs =>
    refine resting rfl hs ?_
    rw [State.offerHaltStop, State.offer_ch_same, State.ch_upd_same]

theorem State.deliver_waits (w : s.Waits) (m : Interrupt) : (s.deliver m).Waits :=
  w.of_eq (by rw [State.deliver_proc]) (by rw [State.deliver_regs]) (State.deliver_chans s m)

theorem State.Waits.announceHalt (w : s.Waits) : s.announceHalt.Waits := by
  unfold State.announceHalt
  split
  · exact State.deliver_waits w _
  · exact w

theorem State.Waits.enterHalted (w : s.Waits) (h : ∀ c, (s.ch c).Accounts) (cause : HaltCause) : (s.enterHalted cause).Waits := by
  unfold State.enterHalted
  split
  · exact w
  · refine State.Waits.announceHalt (State.Waits.finishWaitingStop fun c => ?_)
    obtain ⟨u, hch, hregs, heach⟩ := State.eachChannel_ch (f := State.haltChannel) (fun c s => (Settles.haltChannel c s).toActsOn)
      ({ s with regs := { s.regs with iface := .halted, haltCause := cause } } : State).discardHand c
    rw [State.headersDecided_iff, heach]
    rintro -
    have accounts : (u.ch c).Accounts := by
      rw [hch, State.ch, State.discardHand_chans]
      exact h c
    refine (State.headersDecided_iff _ _).mp (State.headersDecided_haltChannel accounts) ?_
    rw [(Settles.haltChannel c u).regs, hregs, State.discardHand_regs]
    rfl

theorem State.announce_regs (s : State) : s.announce.regs = s.regs := by
  unfold State.announce
  split
  · exact State.deliver_regs _ _
  · rfl

theorem State.announce_proc (s : State) : s.announce.proc = s.proc := by
  unfold State.announce
  split
  · exact State.deliver_proc _ _
  · rfl

theorem State.Waits.announce (w : s.Waits) : s.announce.Waits :=
  w.of_eq (by rw [State.announce_proc]) (by rw [State.announce_regs]) (State.announce_chans s)

theorem State.Waits.arm (w : s.Waits) : s.arm.Waits := by
  have armed : State.Waits { s with cpl := { s.cpl with armed := true } } := w.of_eq rfl rfl rfl
  unfold State.arm
  dsimp only
  split
  · exact armed.announce
  · exact armed

/-- R136: credits reserved for the record in hand do not take it. -/
theorem State.Waits.askCredits (w : s.Waits) : s.askCredits.Waits := by
  obtain h | ⟨k, n, _, hk, _, _, h⟩ := State.askCredits_cases s
  · rw [h]; exact w
  · rw [h]
    have same : s.waitingStop = State.waitingStop { s with proc := { s.proc with state := .executing, hand := some { k with credits := k.credits + n } } } := by
      rw [State.waitingStop, hk]; rfl
    refine ⟨fun c => State.headersDecided_of_chans (s := s) rfl rfl (w.headers c), fun c hc => w.stop c ?_⟩
    rw [same]; exact hc

end

end Sys2Proof.Machine
end

section
/-! What a STOP waits for and what becomes of headers, command by command; the row accounts are kept by every step. -/

namespace Sys2Proof.Machine

section
variable {s t u : State} {c : ChannelId}

/-- A record in hand that is not taken is no STOP that waits. -/
theorem State.not_waiting {k : Hand} (h : s.proc.hand = some k) (ht : k.taken = false) (hc : c ∈ s.waitingStop) : False := by
  rw [State.waitingStop_of_not_taken h ht] at hc
  cases hc

/-! ## The register commands and the host port -/

theorem State.Waits.enterActive (w : s.Waits) : s.enterActive.Waits := by
  have active : State.Waits { s with regs := { s.regs with iface := .active } } :=
    ⟨fun _ => State.headersDecided_of_writes rfl _, w.stop⟩
  exact active.tryFetch

theorem execEnable_waits {reserved : BitVec 30} (w : s.Waits) (h : execEnable reserved s = .next t) : t.Waits := by
  unfold execEnable at h
  split at h
  · split at h
    · exact State.Waits.of_next h w.enterActive
    · exact State.Waits.of_next h (w.of_eq rfl rfl rfl)
  · exact State.Waits.of_next h w.enterActive
  · exact State.Waits.of_next h w
  · exact State.Waits.of_next h w

/-- R169: a DISABLED interface has no record in hand. -/
theorem execDisable_waits {reserved : BitVec 30} (b : s.Books) (w : s.Waits) (h : execDisable reserved s = .next t) : t.Waits := by
  unfold execDisable at h
  split at h
  · next hi =>
    split at h
    · next hidle =>
      refine State.Waits.of_next h ⟨State.headersDecided_enterDisabled s, fun c hc => ?_⟩
      have none := b.proc.idle (by rw [hi]; decide) hidle
      rw [State.waitingStop_of_none (by rw [State.enterDisabled_proc]; exact none)] at hc
      cases hc
    · exact State.Waits.of_next h ⟨fun _ => State.headersDecided_of_writes rfl _, w.stop⟩
  · exact State.Waits.of_next h w
  · exact State.Waits.of_next h w
  · exact State.Waits.of_next h w

theorem execConfigWrite_waits {reg : ConfigReg} {value : Word} (w : s.Waits) (h : execConfigWrite reg value s = .next t) : t.Waits := by
  have configured : (s.configure reg value).Waits := by cases reg <;> exact w.of_eq rfl rfl rfl
  unfold execConfigWrite at h
  split at h
  · exact State.Waits.of_next h configured
  · exact State.Waits.of_next h (w.of_eq rfl rfl rfl)

theorem execCmdTailWrite_waits {value : Word} (b : s.Books) (w : s.Waits) (h : execCmdTailWrite value s = .next t) : t.Waits := by
  have moved : State.Waits { s with regs := { s.regs with cmdTail := value.toNat } } := w.of_eq rfl rfl rfl
  unfold execCmdTailWrite at h
  split at h
  · exact State.Waits.of_next h w
  · split at h
    · split at h
      · exact State.Waits.of_next h moved.tryFetch
      · exact State.Waits.of_next h (w.enterHalted b.chans _)
    · exact State.Waits.of_next h (w.of_eq rfl rfl rfl)

theorem execCplHeadWrite_waits {value : Word} (w : s.Waits) (h : execCplHeadWrite value s = .next t) : t.Waits :=
  State.Waits.of_next h (State.Waits.arm (w.of_eq rfl rfl rfl))

theorem execIntControlWrite_waits {value : Word} (w : s.Waits) (h : execIntControlWrite value s = .next t) : t.Waits := by
  unfold execIntControlWrite at h
  split at h
  · exact State.Waits.of_next h (State.Waits.arm (w.of_eq rfl rfl rfl))
  · exact State.Waits.of_next h (w.of_eq rfl rfl rfl)

theorem execRegisterWriteIgnored_waits {offset bytes : Nat} {value : Word} (w : s.Waits) (h : execRegisterWriteIgnored offset bytes value s = .next t) :
    t.Waits := by
  unfold execRegisterWriteIgnored at h
  split at h
  · exact State.Waits.of_next h w
  · cases h

theorem execPortDown_waits (b : s.Books) (w : s.Waits) (h : execPortDown s = .next t) : t.Waits := by
  have down : State.Waits { s with port := { s.port with linkUp := false } } := w.of_eq rfl rfl rfl
  unfold execPortDown at h
  split at h
  · exact State.Waits.of_next h (down.enterHalted b.chans _)
  · exact State.Waits.of_next h w

theorem execBusMasteringChange_waits {enabled : Bool} (w : s.Waits) (h : execBusMasteringChange enabled s = .next t) : t.Waits := by
  refine State.Waits.of_next h (w.of_eq ?_ rfl rfl)
  dsimp only
  split <;> rfl

theorem execFetchComplete_waits {issue : Issue} {result : FetchResult} (b : s.Books) (w : s.Waits) (h : execFetchComplete issue result s = .next t) :
    t.Waits := by
  have headers {p : Processor} (d : ChannelId) : State.headersDecided { s with proc := p } d = true := State.headersDecided_of_chans (s := s) rfl rfl (w.headers d)
  unfold execFetchComplete at h
  split at h
  · exact State.Waits.of_next h (w.of_eq rfl rfl rfl)
  · split at h
    · exact State.Waits.of_next h w
    · refine State.Waits.of_next h (State.Waits.askCredits ⟨headers, fun d hd => ?_⟩)
      rw [State.waitingStop_of_not_taken rfl rfl] at hd
      cases hd
    · have reset : State.Waits { s with proc := Processor.reset } := ⟨headers, fun d hd => by rw [State.waitingStop_of_none rfl] at hd; cases hd⟩
      exact State.Waits.of_next h (reset.enterHalted b.chans _)

/-! ## The commands of the processor -/

/-- A record answered with nothing else changed. -/
theorem State.Waits.answerPresented (w : s.Waits) {cmd : Command} (h : s.presented = some cmd) (code : ResultCode) (gen : Option Gen) :
    (s.finishCommand code gen).Waits := by
  obtain ⟨_, k, hk, _⟩ := State.presented_some s cmd h
  exact State.Waits.finishCommand w.headers hk code gen

/-- A record answered behind a change of one channel that leaves its frames and header write. -/
theorem State.Waits.answerUpd (w : s.Waits) {cmd : Command} (h : s.presented = some cmd) {g : Channel → Channel}
    (hframes : (g (s.ch c)).frames = (s.ch c).frames) (hheader : (g (s.ch c)).headerWrite = (s.ch c).headerWrite)
    (hending : (g (s.ch c)).ending = (s.ch c).ending) (code : ResultCode) (gen : Option Gen) : ((s.upd c g).finishCommand code gen).Waits := by
  obtain ⟨_, k, hk, _⟩ := State.presented_some s cmd h
  exact State.Waits.finishCommand (w.upd hframes hheader hending).headers (show (s.upd c g).proc.hand = some k from hk) code gen

theorem execRecordRejected_waits (w : s.Waits) (h : execRecordRejected s = .next t) : t.Waits := by
  unfold execRecordRejected at h
  split at h
  · next hp => exact State.Waits.of_next h (w.answerPresented hp _ _)
  · exact State.Waits.of_next h w

theorem execSet_waits (w : s.Waits) (h : execSet s = .next t) : t.Waits := by
  unfold execSet at h
  split at h
  · next hp =>
    refine State.Waits.of_next h ?_
    unfold State.setCommand
    dsimp only
    split
    · split
      · exact w.answerUpd hp rfl rfl rfl _ _
      · split
        · exact w.answerUpd hp rfl rfl rfl _ _
        · exact w.answerPresented hp _ _
    · exact w.answerPresented hp _ _
  · exact State.Waits.of_next h w

/-- A frame start behind which no STOP waits. -/
theorem State.Waits.frameStart (w : s.Waits) (hstop : s.waitingStop = none) : (s.frameStart c).Waits where
  headers d := by
    by_cases hd : d = c
    · rw [hd]; exact State.headersDecided_frameStart (w.headers c)
    · have acts := ActsOn.frameStart c s
      exact State.headersDecided_congr (by rw [acts.regs]) (by rw [acts.others d hd]) (by rw [acts.others d hd]) (w.headers d)
  stop d h := by
    rw [State.waitingStop_congr (s := s) (by rw [(ActsOn.frameStart c s).proc]), hstop] at h
    cases h

theorem State.handSpends_hand {k : Hand} (hk : s.proc.hand = some k) : ∃ j, s.handSpends.proc.hand = some j ∧ j.taken = k.taken := by
  rw [State.handSpends_of_some hk]
  exact ⟨_, rfl, rfl⟩

theorem State.handSpends_regs (s : State) : s.handSpends.regs = s.regs := by
  unfold State.handSpends
  split <;> rfl

theorem State.headersDecided_handSpends (h : s.headersDecided c = true) : s.handSpends.headersDecided c = true :=
  State.headersDecided_of_chans (by rw [State.handSpends_regs]) (State.handSpends_chans s) h

theorem State.headersDecided_place (r : Completion) (h : s.headersDecided c = true) : (s.place r).headersDecided c = true :=
  State.headersDecided_of_chans (s := s) rfl rfl h

theorem State.headersDecided_drawn (h : s.headersDecided c = true) : s.drawn.headersDecided c = true :=
  State.headersDecided_of_chans (s := s) rfl rfl h

theorem execStart_waits (w : s.Waits) (h : execStart s = .next t) : t.Waits := by
  unfold execStart at h
  split at h
  · next c hp =>
    refine State.Waits.of_next h ?_
    unfold State.startCommand
    split
    · exact w.answerPresented hp _ _
    · next g _ =>
      obtain ⟨_, k, hk, ht, _⟩ := State.presented_some s _ hp
      have started (d : ChannelId) : (s.upd c fun ch => ch.started g).handSpends.headersDecided d = true :=
        State.headersDecided_handSpends ((w.upd (by rw [Channel.started, Channel.opening_eq]) (by rw [Channel.started, Channel.opening_eq])
          (by rw [Channel.started, Channel.opening_eq])).headers d)
      obtain ⟨j, hj, hjt⟩ := State.handSpends_hand (s := s.upd c fun ch => ch.started g) hk
      unfold State.startAccepted
      dsimp only
      generalize (s.upd c fun ch => ch.started g).handSpends = u at started hj
      have stops (code : ResultCode) (gen : Option Gen) : (u.finishCommand code gen).waitingStop = none :=
        State.waitingStop_of_none (State.finishCommand_hand hj code gen)
      have stopsDrawn (code : ResultCode) (gen : Option Gen) : (u.drawn.finishCommand code gen).waitingStop = none :=
        State.waitingStop_of_none (State.finishCommand_hand (s := u.drawn) hj code gen)
      split
      · exact State.Waits.finishCommand started hj _ _
      · split
        · split
          · exact (State.Waits.finishCommand (fun d => State.headersDecided_drawn (started d)) hj _ _).frameStart (stopsDrawn _ _)
          · have drawn : u.drawn.Waits := ⟨fun d => State.headersDecided_drawn (started d),
              fun d hd => (State.not_waiting (s := u.drawn) hj (hjt.trans ht) hd).elim⟩
            have begun : (u.drawn.frameStart c).Waits := drawn.frameStart (State.waitingStop_of_not_taken hj (hjt.trans ht))
            exact State.Waits.finishCommand begun.headers (by rw [(ActsOn.frameStart c u.drawn).proc]; exact hj) _ _
        · exact (State.Waits.finishCommand started hj _ _).frameStart (stops _ _)
  · exact State.Waits.of_next h w

/-- Headers of the channels when one of them settles. -/
theorem Settles.headersDecided (acts : Settles c s t) (h : ∀ d, s.headersDecided d = true) (hc : t.headersDecided c = true) (d : ChannelId) :
    t.headersDecided d = true := by
  by_cases hd : d = c
  · rw [hd]; exact hc
  · exact State.headersDecided_congr (by rw [acts.regs]) (by rw [acts.others d hd]) (by rw [acts.others d hd]) (h d)

theorem State.handTaken_regs (s : State) : s.handTaken.regs = s.regs := by
  unfold State.handTaken
  split <;> rfl

theorem State.Waits.stopWithAbort (w : s.Waits) : (s.stopWithAbort c).Waits := by
  have taken (d : ChannelId) : s.handTaken.headersDecided d = true :=
    State.headersDecided_of_chans (by rw [State.handTaken_regs]) (State.handTaken_chans s) (w.headers d)
  exact State.Waits.finishWaitingStop ((Settles.abortRun c _ _).headersDecided taken (State.headersDecided_settle _ c))

theorem State.Waits.stopRun (w : s.Waits) {k : Hand} (hk : s.proc.hand = some k) : ((s.stopRun c).finishCommand .ok none).Waits := by
  have acts := Settles.stopRun c s
  exact State.Waits.finishCommand (acts.headersDecided w.headers (State.headersDecided_settle _ c)) (by rw [acts.proc]; exact hk) _ _

/-- R118, R140: a record in hand, not taken, waits for more credits. -/
theorem State.Waits.waitCredit (w : s.Waits) {k : Hand} (hk : s.proc.hand = some k) (ht : k.taken = false) : s.waitCredit.Waits := by
  refine State.Waits.askCredits ⟨fun d => State.headersDecided_of_chans (s := s) rfl rfl (w.headers d), fun d hd => ?_⟩
  exact (State.not_waiting (k := k) hk ht hd).elim

theorem execStop_waits (w : s.Waits) (h : execStop s = .next t) : t.Waits := by
  unfold execStop at h
  split at h
  · next c abort hp =>
    split at h
    · exact State.Waits.of_next h w
    · refine State.Waits.of_next h ?_
      obtain ⟨_, k, hk, ht, _⟩ := State.presented_some s _ hp
      unfold State.stopCommand
      split
      · exact w.answerPresented hp _ _
      · unfold State.stopFaulted
        split
        · exact w.waitCredit hk ht
        · obtain ⟨j, hj, _⟩ := State.handSpends_hand (s := s.place (channelEventRecord c (s.ch c) (.stopped .cleared))) hk
          refine State.Waits.finishCommand (k := j) (fun d => ?_) ?_ _ _
          rotate_left
          · exact hj
          by_cases hd : d = c
          · rw [hd]
            exact State.headersDecided_upd rfl rfl (State.headersDecided_handSpends (State.headersDecided_place _ (w.headers c)))
          · exact State.headersDecided_congr (s := s) (by rw [State.upd, State.handSpends_regs]; rfl)
              (by rw [State.ch_upd_ne _ _ hd, State.handSpends_ch]; rfl) (by rw [State.ch_upd_ne _ _ hd, State.handSpends_ch]; rfl) (w.headers d)
      · split
        · exact w.stopWithAbort
        · exact w.stopRun hk
      · split
        · exact w.stopWithAbort
        · exact w.stopRun hk
      · split
        · exact w.stopWithAbort
        · exact w.answerPresented hp _ _
  · exact State.Waits.of_next h w

theorem execCapture_waits (w : s.Waits) (h : execCapture s = .next t) : t.Waits := by
  unfold execCapture at h
  split at h
  · next c _ _ _ _ hp =>
    split at h
    · exact State.Waits.of_next h w
    · refine State.Waits.of_next h ?_
      unfold State.captureCommand
      split
      · split
        · exact w.answerPresented hp _ _
        · obtain ⟨_, k, hk, _⟩ := State.presented_some s _ hp
          obtain ⟨j, hj, _⟩ := State.handSpends_hand (s := s.upd c _) hk
          refine State.Waits.finishCommand (fun d => State.headersDecided_handSpends ?_) hj _ _
          exact (w.upd (by rw [Channel.opening_eq]) (by rw [Channel.opening_eq]) (by rw [Channel.opening_eq])).headers d
      · exact w.answerPresented hp _ _
  · exact State.Waits.of_next h w

theorem execCancel_waits (w : s.Waits) (h : execCancel s = .next t) : t.Waits := by
  unfold execCancel at h
  split at h
  · next c tag hp =>
    split at h
    · exact State.Waits.of_next h w
    · refine State.Waits.of_next h ?_
      cases hf : (s.ch c).captures.find? (fun k => k.tag == tag) with
      | none =>
        unfold State.cancelCommand
        rw [hf]
        exact w.answerPresented hp _ _
      | some q =>
        obtain ⟨_, k, hk, _⟩ := State.presented_some s _ hp
        rw [State.cancelCommand_eq_emit s c hf]
        refine State.Waits.finishCommand (k := k) (fun d => ?_) ?_ _ _
        rotate_left
        · exact hk
        have kept : ∀ x : Channel, (x.frames = (s.ch c).frames ∧ x.headerWrite = (s.ch c).headerWrite) →
            (x.opening.frames = (s.ch c).frames ∧ x.opening.headerWrite = (s.ch c).headerWrite) := fun x hx => by
          rw [Channel.opening_eq]; exact hx
        have same := kept (if q.state = .draining then (s.ch c).cancelled tag else ((s.ch c).cancelled tag).without (Capture.closesWith tag))
          (by split <;> exact ⟨rfl, rfl⟩)
        by_cases hd : d = c
        · rw [hd]
          exact State.headersDecided_congr (s := s) rfl (by rw [State.emit_ch_same]; exact same.1) (by rw [State.emit_ch_same]; exact same.2) (w.headers c)
        · exact State.headersDecided_congr (s := s) rfl (by rw [State.emit_ch_ne _ _ _ _ hd]) (by rw [State.emit_ch_ne _ _ _ _ hd]) (w.headers d)
  · exact State.Waits.of_next h w

theorem execQuery_waits (w : s.Waits) (h : execQuery s = .next t) : t.Waits := by
  unfold execQuery at h
  split at h
  · next c clear hp =>
    split at h
    · exact State.Waits.of_next h w
    · refine State.Waits.of_next h ?_
      obtain ⟨_, k, hk, _⟩ := State.presented_some s _ hp
      obtain ⟨j, hj, _⟩ := State.handSpends_hand (s := s.place (.status ((s.ch c).status c clear))) hk
      have spent (d : ChannelId) : (s.place (.status ((s.ch c).status c clear))).handSpends.headersDecided d = true :=
        State.headersDecided_handSpends (State.headersDecided_place _ (w.headers d))
      unfold State.queryCommand
      dsimp only
      generalize (s.place (.status ((s.ch c).status c clear))).handSpends = u at spent hj
      split
      · refine State.Waits.finishCommand (k := j) (fun d => ?_) ?_ _ _
        rotate_left
        · exact hj
        by_cases hd : d = c
        · rw [hd]; exact State.headersDecided_upd rfl rfl (spent c)
        · exact State.headersDecided_congr (s := u) rfl (by rw [State.ch_upd_ne _ _ hd]) (by rw [State.ch_upd_ne _ _ hd]) (spent d)
      · exact State.Waits.finishCommand spent hj _ _
  · exact State.Waits.of_next h w

theorem execPostBuffers_waits (w : s.Waits) (h : execPostBuffers s = .next t) : t.Waits := by
  unfold execPostBuffers at h
  split at h
  · next hp =>
    refine State.Waits.of_next h ?_
    unfold State.postCommand
    split
    · split
      · have posted (p : Four (List Descriptor)) : State.Waits { s with pools := p } := w.of_eq rfl rfl rfl
        exact (posted _).answerPresented (cmd := .postBuffers _ _) (by exact hp) _ _
      · exact w.answerPresented hp _ _
    · exact w.answerPresented hp _ _
  · exact State.Waits.of_next h w

theorem State.Waits.reclaimClaim (hh : ∀ d, s.headersDecided d = true) (pool : PoolId) {k : Hand} (hk : s.proc.hand = some k) (ht : k.taken = false) :
    (s.reclaimClaim pool).Waits := by
  unfold State.reclaimClaim
  split
  · exact State.Waits.finishCommand hh hk _ _
  · next d rest _ =>
    obtain ⟨j, hj, hjt⟩ := State.handSpends_hand (s := State.place { s with pools := s.pools.modify pool fun _ => rest } (.bufferReturned pool d)) hk
    refine ⟨fun d => State.headersDecided_handSpends (State.headersDecided_of_chans (s := s) rfl rfl (hh d)), fun d hd => ?_⟩
    rw [State.waitingStop_of_not_taken hj (hjt.trans ht)] at hd
    cases hd

theorem execReclaim_waits (w : s.Waits) (h : execReclaim s = .next t) : t.Waits := by
  unfold execReclaim at h
  split at h
  · next pool hp =>
    refine State.Waits.of_next h ?_
    obtain ⟨_, k, hk, ht, _⟩ := State.presented_some s _ hp
    unfold State.reclaimStep
    split
    · exact State.Waits.reclaimClaim w.headers pool hk ht
    · split
      · exact w.answerPresented hp _ _
      · split
        · rw [State.handReserve_of_some hk]
          refine State.Waits.reclaimClaim (k := { k with credits := k.credits + 1 }) (fun d => ?_) pool rfl ht
          exact State.headersDecided_of_chans (s := s) rfl rfl (w.headers d)
        · exact w.waitCredit hk ht
  · exact State.Waits.of_next h w

/-! ## Writes -/

theorem State.land_regs (s : State) (w : BusWrite) (error : Bool) : (s.land w error).regs = s.regs := by
  unfold State.land
  split <;> rfl

theorem State.land_proc (s : State) (w : BusWrite) (error : Bool) : (s.land w error).proc = s.proc := by
  unfold State.land
  split <;> rfl

theorem State.Waits.land (w : s.Waits) (x : BusWrite) (error : Bool) : (s.land x error).Waits :=
  w.of_eq (by rw [State.land_proc]) (by rw [State.land_regs]) (State.land_chans s x error)

theorem State.Waits.landAbandoned (w : s.Waits) (k : WriteClaim) (error : Bool) : (s.landAbandoned k error).Waits := by
  unfold State.landAbandoned
  split
  · exact w
  · refine State.Waits.land ?_ _ _
    exact w.of_eq rfl rfl rfl

theorem State.Waits.handRow (w : s.Waits) : (s.handRow c).Waits := by
  unfold State.handRow
  split
  · exact w.upd rfl rfl rfl
  · exact w

/-- R125: headers are handed only while the bus writer writes. -/
theorem State.Waits.handHeader (w : s.Waits) : (s.handHeader c).Waits := by
  refine w.actsOn (Settles.handHeader c s).toActsOn ?_ ?_
  · unfold State.handHeader
    split
    · next h =>
      refine State.headersDecided_of_writes ?_ c
      simp only [State.mayHand, Bool.and_eq_true] at h
      exact h.1.1
    · exact w.headers c
  · unfold State.handHeader
    split
    · rw [State.ch_upd_same]; exact id
    · exact id

theorem State.Waits.handRecord (w : s.Waits) : s.handRecord.Waits := by
  unfold State.handRecord
  split
  · exact w.of_eq rfl rfl rfl
  · exact w

theorem execWriteHanded_waits {claim : WriteClaim} (w : s.Waits) (h : execWriteHandedToHostPort claim s = .next t) : t.Waits := by
  unfold execWriteHandedToHostPort at h
  split at h
  · exact State.Waits.of_next h w.handRow
  · exact State.Waits.of_next h w.handHeader
  · exact State.Waits.of_next h w.handRecord

theorem execRowWrite_waits {issue : Issue} {error : Bool} (w : s.Waits) (h : execRowWrite c issue error s = .next t) : t.Waits := by
  unfold execRowWrite at h
  split at h
  · exact State.Waits.of_next h (w.landAbandoned _ _)
  · dsimp only at h
    split at h
    · exact State.Waits.of_next h w
    · next x _ =>
      have landed := w.handRow (c := c).land x error
      have acts : Settles c ((s.handRow c).land x error) ((((s.handRow c).land x error).upd c Channel.rowWritten).settle c) :=
        (Settles.upd c _ _ (by simp) (by simp) (by simp)).trans (Settles.settle c _)
      exact State.Waits.of_next h (State.Waits.finishWaitingStop (acts.headersDecided landed.headers (State.headersDecided_settle _ c)))

theorem execHeaderWrite_waits {issue : Issue} {error : Bool} (w : s.Waits) (h : execHeaderWrite c issue error s = .next t) : t.Waits := by
  unfold execHeaderWrite at h
  split at h
  · exact State.Waits.of_next h (w.landAbandoned _ _)
  · dsimp only at h
    split at h
    · next x f rest _ _ =>
      split at h
      · next d _ =>
        have landed := w.handHeader (c := c).land x error
        refine State.Waits.of_next h (State.Waits.finishWaitingStop fun e => ?_)
        by_cases he : e = c
        · rw [he]; exact State.headersDecided_settle _ c
        · have acts : Settles c ((s.handHeader c).land x error) ((((((s.handHeader c).land x error).upd c fun ch => { ch with headerWrite := none }).place
              (frameDoneRecord c f d)).release c f (!f.flags.aborted)).settle c) :=
            (((Settles.upd c _ _ rfl rfl rfl).trans (Settles.place c _ _)).trans (Settles.release c _ _ _)).trans (Settles.settle c _)
          exact acts.headersDecided landed.headers (State.headersDecided_settle _ c) e
      · exact State.Waits.of_next h w
      · exact State.Waits.of_next h w
    · exact State.Waits.of_next h w

theorem execCompletionWrite_waits {issue : Issue} {error : Bool} (w : s.Waits) (h : execCompletionWrite issue error s = .next t) : t.Waits := by
  unfold execCompletionWrite at h
  split at h
  · exact State.Waits.of_next h (w.landAbandoned _ _)
  · dsimp only at h
    split at h
    · exact State.Waits.of_next h w
    · next x _ =>
      have written : State.Waits { s.handRecord.land x error with cpl := (s.handRecord.land x error).cpl.recordWritten (s.handRecord.land x error).regs.cplSize.toNat } :=
        (w.handRecord.land x error).of_eq rfl rfl rfl
      exact State.Waits.of_next h written.announce.askCredits

/-! ## Events of one channel -/

theorem State.Books.free_of_timer (b : s.Books) (h : (s.ch c).timer.state ≠ .idle) : (s.ch c).ending = none :=
  ((b.chans c).of_timer h).2

theorem execTrigger_waits (b : s.Books) (w : s.Waits) (h : execTrigger c s = .next t) : t.Waits := by
  unfold execTrigger at h
  split at h
  · exact State.Waits.of_next h w
  · have raised : (s.upd c fun ch => { ch with timer := { ch.timer with inputHigh := true } }).Waits := w.upd rfl rfl rfl
    have raisedBooks := b.inputHigh (c := c) true
    refine State.Waits.of_next h ?_
    unfold State.triggerTaken
    dsimp only
    generalize (s.upd c fun ch => { ch with timer := { ch.timer with inputHigh := true } }) = u at raised raisedBooks
    split
    · split
      · next hw =>
        exact raised.actsOnFree (ActsOn.frameStart c u) (raisedBooks.free_of_timer (by rw [hw]; decide)) (State.headersDecided_frameStart (raised.headers c))
      · next hw =>
        split
        · exact raised.actsOnFree (Settles.offer c u _).toActsOn (raisedBooks.free_of_timer (by rw [hw]; decide))
            (State.headersDecided_offer _ (raised.headers c))
        · exact raised
      · exact raised
    · exact raised

theorem execPeriodEnd_waits (b : s.Books) (w : s.Waits) (h : execPeriodEnd c s = .next t) : t.Waits := by
  have acts := execPeriodEnd_actsOn h
  unfold execPeriodEnd at h
  split at h
  · next hend =>
    refine w.actsOnFree acts (b.free_of_timer (by rw [hend.1]; decide)) ?_
    cases h
    unfold State.periodEnd
    dsimp only
    split
    · split
      · exact State.headersDecided_frameStart (w.headers c)
      · exact State.headersDecided_upd rfl rfl (w.headers c)
      · exact w.headers c
    · exact State.headersDecided_settle _ c
  · cases h; exact w

theorem execLatchPoint_waits (b : s.Books) (w : s.Waits) (h : execLatchPoint c s = .next t) : t.Waits := by
  obtain ⟨acts, _⟩ := execLatchPoint_actsOn h
  unfold execLatchPoint at h
  split at h
  · next hlatch =>
    refine w.actsOnFree acts (b.free_of_timer (by rw [hlatch.1]; decide)) ?_
    cases h
    have placed : (s.upd c fun ch => { ch with timer := ch.timer.atLatch }).headersDecided c = true := State.headersDecided_upd rfl rfl (w.headers c)
    unfold State.latchPoint
    dsimp only
    generalize (s.upd c fun ch => { ch with timer := ch.timer.atLatch }) = u at placed
    split
    · exact State.headersDecided_latch placed
    · next f _ =>
      have missed : (u.frameEndMissed c f).headersDecided c = true := State.headersDecided_settle _ c
      split
      · unfold State.headSilent
        split
        · exact State.headersDecided_faultChannel _ (State.headersDecided_latch (State.headersDecided_drawn missed))
        · exact State.headersDecided_faultChannel _ (State.headersDecided_drawn missed)
      · exact State.headersDecided_latch missed
  · cases h; exact w

/-- R90: a fault ends a free run alone. -/
theorem State.Waits.faultChannel (w : s.Waits) (cause : FaultCause) : (s.faultChannel c cause).Waits := by
  have acts := Settles.faultChannel c s cause
  have headers := State.headersDecided_faultChannel cause (w.headers c)
  cases he : (s.ch c).ending with
  | none => exact w.actsOnFree acts.toActsOn he headers
  | some e =>
    have busy : ¬(s.ch c).inFreeRun = true := by simp [Channel.inFreeRun, he]
    rw [State.faultChannel, if_neg busy]
    exact w

theorem State.Waits.linkDown (w : s.Waits) : (s.linkDown c).Waits := by
  have down : (s.upd c fun ch => { ch with link := { ch.link with geometry := none, headFault := none } }).Waits := w.upd rfl rfl rfl
  exact down.faultChannel _

theorem execHello_waits {m : HelloMsg} (w : s.Waits) (h : execHello c m s = .next t) : t.Waits := by
  unfold execHello at h
  split at h
  · refine State.Waits.of_next h ?_
    split
    · exact w.linkDown.upd rfl rfl rfl
    · exact w.upd rfl rfl rfl
  · exact State.Waits.of_next h w

theorem execHeadStatus_waits {condition : HeadCondition} (w : s.Waits) (h : execHeadStatus c condition s = .next t) : t.Waits := by
  have set (v : Option Byte) : (s.setHeadFault c v).Waits := w.upd rfl rfl rfl
  unfold execHeadStatus at h
  split at h
  · split at h
    · exact State.Waits.of_next h (set _)
    · split at h
      · exact State.Waits.of_next h w
      · exact State.Waits.of_next h ((set _).faultChannel _)
    · exact State.Waits.of_next h w
  · exact State.Waits.of_next h w

theorem execCarrierLost_waits (w : s.Waits) (h : execCarrierLost c s = .next t) : t.Waits := by
  have lost : (s.upd c fun ch => { ch with link := { ch.link with carrier := false } }).Waits := w.upd rfl rfl rfl
  unfold execCarrierLost at h
  dsimp only at h
  split at h
  · exact State.Waits.of_next h lost.linkDown
  · exact State.Waits.of_next h lost

/-- What the combiner does to a channel decides no header. -/
theorem Channel.Combines.headersGiven {a b : Channel} (h : Channel.Combines a b) (ha : a.headersGiven) : b.headersGiven := by
  intro f hf hab
  obtain ⟨g, hg, hcore⟩ := List.mem_map.mp (h.frames ▸ List.mem_map_of_mem (f := Frame.core) hf)
  have header : b.headerWrite = a.headerWrite := by rw [h.rest]
  have haborted : g.flags.aborted = f.flags.aborted := (congrArg (fun x => x.flags.aborted) hcore :)
  have hnoHeader : g.noHeader = f.noHeader := (congrArg Frame.noHeader hcore :)
  have hstage : g.stage = f.stage := (congrArg Frame.stage hcore :)
  rw [header, ← hnoHeader, ← hstage]
  exact ha g hg (haborted.trans hab)

theorem execRow_waits {seq : Seq} {index : Nat} {samples : List Sample} (w : s.Waits) (h : execRow c seq index samples s = .next t) : t.Waits := by
  have acts := execRow_settles h
  unfold execRow at h
  split at h
  · split at h
    · next f _ =>
      have combines := Channel.Combines.combine (s.ch c) f index samples
      cases h
      refine w.actsOn acts.toActsOn ?_ (by rw [State.ch_upd_same, combines.rest]; exact id)
      rw [State.headersDecided_iff, State.ch_upd_same]
      exact fun e => combines.headersGiven ((State.headersDecided_iff s c).mp (w.headers c) e)
    · cases h; exact w.upd rfl rfl rfl
  · cases h; exact w

theorem execFrameEnd_waits {seq : Seq} {n : Nat} (b : s.Books) (rows : ∀ c, (s.ch c).RowAccounts) (w : s.Waits) (h : execFrameEnd c seq n s = .next t) :
    t.Waits := by
  have acts := execFrameEnd_settles h
  unfold execFrameEnd at h
  split at h
  · split at h
    · next f hf =>
      obtain ⟨hread, _⟩ := Channel.frameEnded_eq_some hf
      obtain ⟨hmem, hs⟩ := Channel.reading_some hread
      refine w.actsOnFree acts.toActsOn (b.free_of_timer (by rw [((rows c).inPeriod hmem hs).1]; decide)) ?_
      cases h
      exact State.headersDecided_settle _ c
    · cases h; exact w
  · cases h; exact w

end

/-! ## The step -/

theorem exec_waits {s t : State} {i : Instr} (b : s.Books) (rows : ∀ c, (s.ch c).RowAccounts) (w : s.Waits) (hpower : i ≠ .powerOn)
    (hreset : ∀ cause, i ≠ .functionReset cause) (h : exec i s = .next t) : t.Waits := by
  cases i with
  | powerOn => exact absurd rfl hpower
  | functionReset cause => exact absurd rfl (hreset cause)
  | enable reserved => exact execEnable_waits (reserved := reserved) w h
  | disable reserved => exact execDisable_waits (reserved := reserved) b w h
  | configWrite _ _ => exact execConfigWrite_waits w h
  | cmdTailWrite _ => exact execCmdTailWrite_waits b w h
  | cplHeadWrite _ => exact execCplHeadWrite_waits w h
  | ifStatusWrite _ => exact State.Waits.of_next h (w.of_eq rfl rfl rfl)
  | intControlWrite _ => exact execIntControlWrite_waits w h
  | registerWriteIgnored _ _ value => exact execRegisterWriteIgnored_waits (value := value) w h
  | portDown => exact execPortDown_waits b w h
  | busMasteringChange _ => exact execBusMasteringChange_waits w h
  | fetchComplete _ _ => exact execFetchComplete_waits b w h
  | recordRejected => exact execRecordRejected_waits w h
  | set => exact execSet_waits w h
  | start => exact execStart_waits w h
  | stop => exact execStop_waits w h
  | capture => exact execCapture_waits w h
  | cancel => exact execCancel_waits w h
  | postBuffers => exact execPostBuffers_waits w h
  | reclaim => exact execReclaim_waits w h
  | query => exact execQuery_waits w h
  | completionWrite _ _ => exact execCompletionWrite_waits w h
  | trigger c => exact execTrigger_waits b w h
  | latchPoint c => exact execLatchPoint_waits b w h
  | periodEnd c => exact execPeriodEnd_waits b w h
  | hello c _ => exact execHello_waits w h
  | headStatus c _ => exact execHeadStatus_waits w h
  | carrierLost c => exact execCarrierLost_waits w h
  | row c _ _ _ => exact execRow_waits w h
  | frameEnd c _ _ => exact execFrameEnd_waits b rows w h
  | rowWrite _ _ _ => exact execRowWrite_waits w h
  | headerWrite _ _ _ => exact execHeaderWrite_waits w h
  | carrierPresent c => exact State.Waits.of_next h (w.upd (c := c) rfl rfl rfl)
  | hostPortLinkUp => exact State.Waits.of_next h (w.of_eq rfl rfl rfl)
  | messageSignalledInterruptsChange _ => exact State.Waits.of_next h (w.of_eq rfl rfl rfl)
  | triggerInputLow c => exact State.Waits.of_next h (w.upd (c := c) rfl rfl rfl)
  | writeHandedToHostPort _ => exact execWriteHanded_waits w h

theorem State.Waits.resetBlocks (s : State) (f : Link → Link) (p : Port) : (s.resetBlocks f p).Waits where
  headers c := by
    have hch : (s.resetBlocks f p).ch c = (s.ch c).resetWith (f (s.ch c).link) := Four.get_map _ _ _
    rw [State.headersDecided_iff, hch]
    exact fun _ g hg => absurd hg List.not_mem_nil
  stop c h := by rw [State.waitingStop_of_none rfl] at h; cases h

theorem State.Waits.tick {s : State} (w : s.Waits) : s.tick.Waits where
  headers c := State.headersDecided_congr (s := s) rfl (by rw [State.tick_ch]) (by rw [State.tick_ch]) (w.headers c)
  stop c h := by rw [State.tick_ch]; exact w.stop c h

theorem step_waits {s t : State} (b : s.Books) (rows : ∀ c, (s.ch c).RowAccounts) (w : s.Waits) (h : step s = .next t) : t.Waits := by
  unfold step at h
  split at h
  · cases h; exact w.tick
  · next i rest _ =>
    by_cases hpower : i = .powerOn
    · subst hpower; cases h; exact State.Waits.resetBlocks _ _ _
    · by_cases hreset : ∃ cause, i = .functionReset cause
      · obtain ⟨cause, rfl⟩ := hreset; cases h; exact State.Waits.resetBlocks _ _ _
      · exact exec_waits (s := s.withPending rest) (b.of_eq rfl rfl rfl rfl Iff.rfl) rows (w.of_eq rfl rfl rfl) hpower (fun cause e => hreset ⟨cause, e⟩) h

theorem SettingsTable.wholeGroups_of_none {t : SettingsTable} (hcommitted : t.committed = none) (hlatched : t.latched = none) : t.wholeGroups := by
  constructor
  · intro k hk; rw [hcommitted] at hk; cases hk
  · intro k hk; rw [hlatched] at hk; cases hk

theorem Channel.rowAccounts_resetWith (ch : Channel) (l : Link) : (ch.resetWith l).RowAccounts :=
  Channel.RowAccounts.of_no_frames rfl rfl rfl (SettingsTable.wholeGroups_of_none rfl rfl)

/-- Settles O58: every move keeps a channel's row accounts, and every command what headers and STOPs wait for. -/
theorem everyStepKeepsTheRowAccounts : Obligations.EveryStepKeepsTheRowAccounts := by
  intro s t hledger hs h
  obtain ⟨books, _⟩ := s.ledger_iff.mp hledger
  obtain ⟨rows, waits⟩ := s.rowsSound_iff.mp hs
  refine t.rowsSound_iff.mpr ⟨fun c => ?_, step_waits books rows waits h⟩
  have both : (t.ch c).Accounts ∧ (t.ch c).RowAccounts :=
    step_channels (halts := true) (P := fun ch => ch.Accounts ∧ ch.RowAccounts) (fun m k => ⟨m.accounts k.1, m.rowAccounts k.1 k.2⟩)
      (fun ch f _ => ⟨Channel.accounts_resetWith ch _, Channel.rowAccounts_resetWith ch _⟩) (fun _ => rfl)
      (fun c => ⟨books.chans c, rows c⟩) h c
  exact both.2

end Sys2Proof.Machine
end

section
/-! Resets, the passing of time, and what the registers read and take (R1, R159, R162, R165 to R168, R172 to R175, 11.1). -/

namespace Sys2Proof.Machine

/-! ## Time (R1) -/

/-- Settles O2. -/
theorem idleStepLetsTenNanosecondsPass : Obligations.IdleStepLetsTenNanosecondsPass := by
  intro s hs
  refine ⟨s.tick, by rw [step, hs], rfl, fun c => ?_⟩
  rw [State.tick_ch]
  generalize (s.ch c).timer = t
  refine ⟨rfl, fun hne => ?_, fun hp => ⟨fun hl => ?_, fun hl => ⟨fun hline => ?_, fun hline => ?_⟩⟩⟩
  · show t.tick = t
    unfold FrameTimer.tick
    split
    · rfl
    · rfl
    · next hp => exact absurd hp hne
  all_goals
    show t.tick = _
    simp only [FrameTimer.tick, hp]
  · rw [if_pos hl]
  · have before : t.line < t.lastLine := by
      unfold FrameTimer.lastLine FrameTimer.latchTaken
      split
      · next h => have := of_decide_eq_true h; omega
      · next h => have := of_decide_eq_false (Bool.of_not_eq_true h); omega
    rw [if_neg (by omega), if_pos before]
  · have last : ¬t.line < t.lastLine := by
      unfold FrameTimer.lastLine FrameTimer.latchTaken
      split
      · next h => have := of_decide_eq_true h; omega
      · next h => have := of_decide_eq_false (Bool.of_not_eq_true h); omega
    rw [if_neg (by omega), if_neg last]

/-! ## Resets (R173, R80) -/

theorem State.readRegister_reset {s : State} (h : s.regs = Registers.reset) {offset : Nat} (ho : offset ≠ 0) : s.readRegister offset = 0 := by
  unfold State.readRegister
  rw [h]
  split
  · exact absurd rfl ho
  all_goals rfl

theorem Channel.atReset_resetWith (ch : Channel) (l : Link) : (ch.resetWith l).atReset :=
  ⟨rfl, rfl, rfl, rfl, rfl, rfl, rfl, rfl, rfl, rfl, rfl, rfl, rfl, rfl, rfl, rfl, rfl, rfl, rfl⟩

theorem State.resetBlocks_ch (s : State) (f : Link → Link) (p : Port) (c : ChannelId) : (s.resetBlocks f p).ch c = (s.ch c).resetWith (f (s.ch c).link) :=
  Four.get_map _ _ _

theorem State.atReset_resetBlocks (s : State) (f : Link → Link) (p : Port) : (s.resetBlocks f p).atReset := by
  refine ⟨fun _ => State.readRegister_reset rfl, rfl, rfl, rfl, fun _ => Four.get_same _ _, fun c => ?_⟩
  rw [State.resetBlocks_ch]
  exact Channel.atReset_resetWith _ _

/-- Settles O3. -/
theorem powerOnResetsEveryBlock : Obligations.PowerOnResetsEveryBlock := by
  intro s
  refine ⟨_, rfl, State.atReset_resetBlocks s _ _, fun c => ?_, rfl, rfl, rfl, rfl, rfl, rfl⟩
  rw [State.resetBlocks_ch]
  exact ⟨rfl, rfl⟩

theorem Link.functionReset_eq (l : Link) :
    l.functionReset = { l with endMiss := 0, stray := 0, sent := if l.geometry.isSome then l.sent ++ [.halt] else l.sent } := by
  unfold Link.functionReset Link.send Link.up
  dsimp only
  split <;> rfl

/-- The writes the port holds for a channel are among those it goes on with for no block. -/
theorem State.mem_resetPort (s : State) {x : WriteClaim × BusWrite} {c : ChannelId} (h : x ∈ s.heldWrites c) : x ∈ s.resetPort.abandonedWrites := by
  simp only [State.resetPort, List.mem_append]
  match c with
  | 0 => exact .inl (.inl (.inl (.inl (.inr h))))
  | 1 => exact .inl (.inl (.inl (.inr h)))
  | 2 => exact .inl (.inl (.inr h))
  | 3 => exact .inl (.inr h)

theorem mem_abandonedOf {k : WriteClaim} {o : Option BusWrite} {w : BusWrite} (h : w ∈ o) : (k, w) ∈ abandonedOf k o := by
  rw [Option.mem_def.mp h]
  exact List.mem_singleton_self _

/-- Settles O4. -/
theorem functionResetKeepsTheHeads : Obligations.FunctionResetKeepsTheHeads := by
  intro cause s
  refine ⟨_, rfl, State.atReset_resetBlocks s _ _, fun c => ?_, fun w hw => ?_, ?_, rfl, rfl, rfl, rfl, rfl, rfl⟩
  · rw [State.resetBlocks_ch]
    refine ⟨Link.functionReset_eq _, rfl, fun w hw => s.mem_resetPort (c := c) ?_, fun w hw => s.mem_resetPort (c := c) ?_⟩
    · exact List.mem_append_left _ (mem_abandonedOf hw)
    · exact List.mem_append_right _ (mem_abandonedOf hw)
  · exact List.mem_append_right _ (mem_abandonedOf hw)
  · show s.port.abandonedReads ++ s.proc.heldReads = _
    unfold Processor.heldReads
    cases s.proc.read <;> rfl

theorem State.reset_ch (c : ChannelId) : State.reset.ch c = Channel.reset := Four.get_same _ _

/-- Settles O5: the reset state is one after a reset, and sound as every state after one. -/
theorem resetStateIsSound : Obligations.ResetStateIsSound := by
  have channels (P : Channel → Prop) (h : P Channel.reset) (c : ChannelId) : P (State.reset.ch c) := by rw [State.reset_ch]; exact h
  refine ⟨⟨fun _ => State.readRegister_reset rfl, rfl, rfl, rfl, fun _ => Four.get_same _ _, channels _ ?_⟩, channels (fun ch => ch.link.geometry = none ∧ ch.link.sent = []) ⟨rfl, rfl⟩, rfl, rfl,
    ⟨channels _ (by decide), fun p => ?_⟩, ?_, ?_, List.Pairwise.nil, channels _ (by decide)⟩
  · exact Channel.atReset_resetWith Channel.reset Channel.reset.link
  · show (Four.get (Four.same []) p).length ≤ 64
    rw [Four.get_same]
    exact Nat.zero_le _
  · refine State.reset.ledger_iff.mpr ⟨⟨⟨by decide, by decide⟩, State.ProcFits.of_reset rfl, channels _ (Channel.accounts_resetWith Channel.reset _)⟩,
      fun _ => channels _ (Channel.quiet_of_none rfl)⟩
  · refine State.reset.rowsSound_iff.mpr ⟨channels _ (Channel.rowAccounts_resetWith Channel.reset _), fun c => (State.reset.headersDecided_iff c).mpr fun _ => ?_, fun c h => ?_⟩
    · rw [State.reset_ch]
      exact fun k hk => absurd hk List.not_mem_nil
    · rw [State.waitingStop_of_none rfl] at h
      cases h

/-! ## Ring sizes, flags and messages (R162, R167, R168) -/

/-- R168: the ring sizes accepted are the powers of two from 16 to 4096. -/
theorem ringSizeOk_iff (n : Nat) : ringSizeOk n = true ↔ ∃ k, 4 ≤ k ∧ k ≤ 12 ∧ n = 2 ^ k := by
  unfold ringSizeOk
  rw [List.contains_iff_mem]
  constructor
  · intro h
    simp only [List.mem_cons, List.not_mem_nil, or_false] at h
    obtain rfl | rfl | rfl | rfl | rfl | rfl | rfl | rfl | rfl := h
    · exact ⟨4, by decide⟩
    · exact ⟨5, by decide⟩
    · exact ⟨6, by decide⟩
    · exact ⟨7, by decide⟩
    · exact ⟨8, by decide⟩
    · exact ⟨9, by decide⟩
    · exact ⟨10, by decide⟩
    · exact ⟨11, by decide⟩
    · exact ⟨12, by decide⟩
  · rintro ⟨k, hlo, hhi, rfl⟩
    have sizes : ∀ k : Fin 13, 4 ≤ k.val → 2 ^ k.val ∈ [16, 32, 64, 128, 256, 512, 1024, 2048, 4096] := by decide
    exact sizes ⟨k, by omega⟩ hlo

/-- A bit of a word as its number gives it. -/
theorem getLsbD_eq_toNat (value : Word) (i : Nat) : value.getLsbD i = decide (value.toNat / 2 ^ i % 2 = 1) := by
  rw [← BitVec.testBit_toNat, Nat.testBit_eq_decide_div_mod_eq]

/-- Settles O13. -/
theorem statusWriteClearsItsFlags : Obligations.StatusWriteClearsItsFlags := by
  intro value s
  have cleared (flag : Bool) (i : Nat) : (flag && !value.getLsbD i) = if value.toNat / 2 ^ i % 2 = 1 then false else flag := by
    rw [getLsbD_eq_toNat]
    by_cases h : value.toNat / 2 ^ i % 2 = 1 <;> simp [h]
  show Host.Outcome.next _ = Host.Outcome.next _
  rw [Registers.clearFlags, cleared, cleared] <;> rfl

/-- The offsets of the registers that a write may change are the aligned ones up to 0x34 but two. -/
theorem writableOffsets_contains {offset : Nat} (ha : offset % 4 = 0) (hid : offset ≠ 0x00) (hhead : offset ≠ 0x30) (hle : offset ≤ 0x34) :
    writableOffsets.contains offset = true := by
  obtain ⟨k, rfl⟩ : ∃ k, offset = 4 * k := ⟨offset / 4, by omega⟩
  have hk : k ≤ 13 := by omega
  have aligned : ∀ k : Fin 14, 4 * k.val ≠ 0x00 → 4 * k.val ≠ 0x30 → writableOffsets.contains (4 * k.val) = true := by decide
  exact aligned ⟨k, by omega⟩ hid hhead

/-- Settles O14. -/
theorem ignoredRegisterWriteChangesNothing : Obligations.IgnoredRegisterWriteChangesNothing := by
  intro offset bytes value s
  have run : exec (.registerWriteIgnored offset bytes value) s = if writeIsIgnored offset bytes then .next s else .refused .writeIsTaken := rfl
  rw [run]
  constructor
  · intro h
    refine if_pos ?_
    simp only [writeIsIgnored, Bool.or_eq_true, bne_iff_ne, Bool.not_eq_true']
    obtain h | h | h | h | h := h
    · exact .inl (.inl h)
    · exact .inl (.inr h)
    · exact .inr (by rw [h]; rfl)
    · exact .inr (by rw [h]; rfl)
    · refine .inr (Bool.of_not_eq_true fun hc => ?_)
      have member := List.contains_iff_mem.mp hc
      simp only [writableOffsets, List.mem_cons, List.not_mem_nil, or_false] at member
      omega
  · rintro ⟨hbytes, ha, hid, hhead, hle⟩
    refine if_neg ?_
    simp [writeIsIgnored, hbytes, ha, List.contains_iff_mem.mp (writableOffsets_contains ha hid hhead hle)]

/-- A message reaches the host where the port's link is up and message-signalled interrupts are enabled (R174). -/
theorem State.deliver_eq (s : State) (m : Interrupt) :
    s.deliver m = { s with port := { s.port with messages := s.port.messages ++ if s.port.linkUp = true ∧ s.port.msiEnabled = true then [m] else [] } } := by
  unfold State.deliver
  by_cases h : s.port.linkUp = true ∧ s.port.msiEnabled = true
  · rw [if_pos (by simpa using h), if_pos h]
  · rw [if_neg (by simpa using h), if_neg h, List.append_nil]

/-- What `State.announce` does (R162). -/
theorem State.announce_eq (s : State) :
    s.announce = if s.cpl.armed = true ∧ s.regs.intEnable = true ∧ s.regs.iface ≠ .halted then
        { s with cpl := { s.cpl with armed := false }
                 port := { s.port with messages := s.port.messages ++ if s.port.linkUp = true ∧ s.port.msiEnabled = true then [.completion] else [] } }
      else s := by
  unfold State.announce
  by_cases h : s.cpl.armed = true ∧ s.regs.intEnable = true ∧ s.regs.iface ≠ .halted
  · rw [if_pos (by simpa [and_assoc] using h), if_pos h, State.deliver_eq]
  · rw [if_neg (by simpa [and_assoc] using h), if_neg h]

/-- What `State.arm` does (R162). -/
theorem State.arm_eq (s : State) :
    s.arm = if s.regs.cplHead ≠ s.cpl.tail ∧ s.regs.intEnable = true ∧ s.regs.iface ≠ .halted then
        { s with cpl := { s.cpl with armed := false }
                 port := { s.port with messages := s.port.messages ++ if s.port.linkUp = true ∧ s.port.msiEnabled = true then [.completion] else [] } }
      else { s with cpl := { s.cpl with armed := true } } := by
  show (if (s.regs.cplHead != s.cpl.tail) = true then State.announce { s with cpl := { s.cpl with armed := true } } else { s with cpl := { s.cpl with armed := true } }) = _
  rw [State.announce_eq]
  by_cases hhead : s.regs.cplHead = s.cpl.tail
  · rw [if_neg (by simp [hhead]), if_neg fun h => h.1 hhead]
  · rw [if_pos (by simpa using hhead)]
    by_cases hsends : s.regs.intEnable = true ∧ s.regs.iface ≠ .halted
    · exact (if_pos ⟨rfl, hsends⟩).trans (if_pos ⟨hhead, hsends⟩).symm
    · exact (if_neg fun h => hsends h.2).trans (if_neg fun h => hsends h.2).symm

/-- Settles O11. -/
theorem completionHeadWriteArmsTheMessage : Obligations.CompletionHeadWriteArmsTheMessage := by
  intro value s
  refine ⟨_, rfl, ?_⟩
  rw [State.arm_eq]
  dsimp only
  generalize hh : (if ringSizeOk s.regs.cplSize.toNat = true then value.toNat % s.regs.cplSize.toNat else 0) = head
  have valid : (∃ k, 4 ≤ k ∧ k ≤ 12 ∧ s.regs.cplSize.toNat = 2 ^ k) → head = value.toNat % s.regs.cplSize.toNat := fun h => by
    rw [← hh, if_pos ((ringSizeOk_iff _).mpr h)]
  have invalid : (¬∃ k, 4 ≤ k ∧ k ≤ 12 ∧ s.regs.cplSize.toNat = 2 ^ k) → head = 0 := fun h => by
    rw [← hh, if_neg fun e => h ((ringSizeOk_iff _).mp e)]
  by_cases hs : head ≠ s.cpl.tail ∧ s.regs.intEnable = true ∧ s.regs.iface ≠ .halted
  · rw [if_pos hs]
    exact ⟨rfl, valid, invalid, fun _ => ⟨rfl, rfl⟩, fun h => absurd hs h⟩
  · rw [if_neg hs]
    exact ⟨rfl, valid, invalid, fun h => absurd h hs, fun _ => ⟨rfl, rfl⟩⟩

/-- Settles O12. -/
theorem interruptControlArmsOrSilences : Obligations.InterruptControlArmsOrSilences := by
  intro value s
  have run : exec (.intControlWrite value) s = if value.getLsbD 0 then .next (State.arm { s with regs := { s.regs with intEnable := true } })
      else .next { s with regs := { s.regs with intEnable := false } } := rfl
  rw [run]
  refine ⟨fun h => by rw [h]; rfl, fun h hs => ?_, fun h hs => ?_⟩
  · rw [if_pos h, State.arm_eq, if_pos ⟨hs.1, rfl, hs.2⟩]
  · rw [if_pos h, State.arm_eq, if_neg fun e => hs ⟨e.1, e.2.2⟩]

/-! ## What the registers read (11.1) -/

theorem bitNat_le_one (b : Bool) : bitNat b ≤ 1 := by cases b <;> decide

theorem toNat_bit (b : Bool) : (BitVec.ofNat 32 (bitNat b)).toNat = if b then 1 else 0 := by cases b <;> rfl

/-- IF_STATUS as a number. -/
theorem Registers.ifStatus_toNat (r : Registers) :
    r.ifStatus.toNat = r.iface.code + 16 * r.haltCause.code + 256 * bitNat r.configIgnored + 512 * bitNat r.enableRefused := by
  have state : r.iface.code ≤ 3 := by cases r.iface <;> decide
  have cause : r.haltCause.code ≤ 3 := by cases r.haltCause <;> decide
  have ignored := bitNat_le_one r.configIgnored
  have refused := bitNat_le_one r.enableRefused
  rw [Registers.ifStatus, BitVec.toNat_ofNat]
  exact Nat.mod_eq_of_lt (by omega)

theorem leBytes_getD (k n j : Nat) (h : j < k) : (leBytes k n).getD j 0 = BitVec.ofNat 8 (n / 256 ^ j) := by
  induction k generalizing n j with
  | zero => exact absurd h (Nat.not_lt_zero j)
  | succ k ih =>
    cases j with
    | zero => simp [leBytes]
    | succ j =>
      rw [leBytes, List.getD_cons_succ, ih (n / 256) j (by omega), Nat.div_div_eq_div_mul, Nat.pow_succ']

theorem State.readRegisterBytes_length (s : State) {offset k : Nat} (h : offset % 4 + k ≤ 4) : (s.readRegisterBytes offset k).length = k := by
  rw [State.readRegisterBytes, List.length_take, List.length_drop, leBytes_length]
  omega

theorem State.readRegisterBytes_byteAt (s : State) {offset k j : Nat} (h : offset % 4 + k ≤ 4) (hj : j < k) :
    (byteAt (s.readRegisterBytes offset k) j).toNat = (s.readRegister (offset - offset % 4)).toNat / 256 ^ (offset % 4 + j) % 256 := by
  have aligned : offset / 4 * 4 = offset - offset % 4 := by omega
  rw [byteAt, State.readRegisterBytes, List.getD_eq_getElem?_getD, List.getElem?_take_of_lt hj, List.getElem?_drop, ← List.getD_eq_getElem?_getD,
    leBytes_getD _ _ _ (by omega), aligned, BitVec.toNat_ofNat]

/-- A read beyond the register's end is cut there. -/
theorem State.readRegisterBytes_cut (s : State) {offset k : Nat} (h : 4 < offset % 4 + k) :
    s.readRegisterBytes offset k = s.readRegisterBytes offset (4 - offset % 4) := by
  rw [State.readRegisterBytes, State.readRegisterBytes, List.take_of_length_le, List.take_of_length_le]
  · exact Nat.le_of_eq (by rw [List.length_drop, leBytes_length])
  · rw [List.length_drop, leBytes_length]; omega

theorem State.readRegister_outside (s : State) {offset : Nat} (h : 0x34 < offset) : s.readRegister offset = 0 := by
  unfold State.readRegister
  split <;> first | rfl | omega

/-- Settles O6. -/
theorem registersReadTheirLayout : Obligations.RegistersReadTheirLayout := by
  intro s
  have ident : identValue.toNat = 0xF4C4 + 65536 * Config.siliconRevision.toNat := by
    have revision := Config.siliconRevision.isLt
    rw [identValue, BitVec.toNat_ofNat]
    exact Nat.mod_eq_of_lt (by omega)
  have status := s.regs.ifStatus_toNat
  have ignored := bitNat_le_one s.regs.configIgnored
  have refused := bitNat_le_one s.regs.enableRefused
  have cause : s.regs.haltCause.code ≤ 3 := by cases s.regs.haltCause <;> decide
  have state : s.regs.iface.code ≤ 3 := by cases s.regs.iface <;> decide
  have sizes : (s.readRegister 0x28).toNat = s.regs.cmdSize.toNat + 65536 * s.regs.cplSize.toNat := by
    have cmd := s.regs.cmdSize.isLt
    have cpl := s.regs.cplSize.isLt
    show (BitVec.ofNat 32 _).toNat = _
    rw [BitVec.toNat_ofNat]
    exact Nat.mod_eq_of_lt (by omega)
  have index {n : Nat} (h : n < 4096) : (BitVec.ofNat 32 n).toNat = n := by
    rw [BitVec.toNat_ofNat]
    exact Nat.mod_eq_of_lt (by omega)
  have bit (b : Bool) : decide (bitNat b = 1) = b := by cases b <;> rfl
  refine ⟨?_, ?_, ?_, ?_, ?_, ?_, ?_, ?_, ?_, ?_, toNat_bit _, rfl, rfl, rfl, rfl, rfl, rfl, ?_, ?_, index, index, index,
    fun _ => s.readRegister_outside, fun _ _ h => ⟨s.readRegisterBytes_length h, fun _ => s.readRegisterBytes_byteAt h⟩,
    fun _ _ => s.readRegisterBytes_cut⟩
  · show identValue.toNat % 65536 = _
    rw [ident]; omega
  · show identValue.toNat < _
    have revision := Config.siliconRevision.isLt
    rw [ident]; omega
  · refine (toNat_bit _).trans ?_
    simp
  · show s.regs.ifStatus.toNat % 4 = _
    rw [status]
    refine Eq.trans (b := s.regs.iface.code) (by omega) ?_
    cases s.regs.iface <;> rfl
  · show s.regs.ifStatus.toNat / 16 % 4 = _
    rw [status]
    refine Eq.trans (b := s.regs.haltCause.code) (by omega) ?_
    cases s.regs.haltCause <;> rfl
  · show s.regs.ifStatus.getLsbD 8 = _
    rw [getLsbD_eq_toNat, status, ← bit s.regs.configIgnored]
    exact decide_eq_decide.mpr (by rw [bit]; omega)
  · show s.regs.ifStatus.getLsbD 9 = _
    rw [getLsbD_eq_toNat, status, ← bit s.regs.enableRefused]
    exact decide_eq_decide.mpr (by rw [bit]; omega)
  · show s.regs.ifStatus.toNat < _
    rw [status]; omega
  · show s.regs.ifStatus.toNat / 4 % 4 = _
    rw [status]; omega
  · show s.regs.ifStatus.toNat / 64 % 4 = _
    rw [status]; omega
  · rw [sizes]
    have cmd := s.regs.cmdSize.isLt
    omega
  · rw [sizes]
    have cmd := s.regs.cmdSize.isLt
    omega

end Sys2Proof.Machine
end

section
/-! What work on the channels and an answer leave as they were (R133, R137, R169, R171), and the statements about ENABLE, the configuration and index registers and the host port's switches (R165 to R171, R174). -/

namespace Sys2Proof.Machine

section
variable {s t u : State} {c : ChannelId}

/-! ## Work on the channels -/

/-- `t` comes from `s` by work on the channels: the registers, the processor, host memory, the waiting commands, the port, and all of the completion writer but its queue and credits are kept; records join the queue's tail. -/
structure State.Works (s t : State) : Prop where
  regs : t.regs = s.regs
  proc : t.proc = s.proc
  mem : t.mem = s.mem
  pending : t.pending = s.pending
  port : t.port = s.port
  cpl : t.cpl = { s.cpl with queue := t.cpl.queue, reserved := t.cpl.reserved }
  queue : ∃ new, t.cpl.queue = s.cpl.queue ++ new

theorem State.Works.refl (s : State) : s.Works s := ⟨rfl, rfl, rfl, rfl, rfl, rfl, [], (List.append_nil _).symm⟩

theorem State.Works.trans (h : s.Works t) (k : t.Works u) : s.Works u where
  regs := k.regs.trans h.regs
  proc := k.proc.trans h.proc
  mem := k.mem.trans h.mem
  pending := k.pending.trans h.pending
  port := k.port.trans h.port
  cpl := by rw [k.cpl, h.cpl]
  queue := by
    obtain ⟨a, ha⟩ := h.queue
    obtain ⟨b, hb⟩ := k.queue
    exact ⟨a ++ b, by rw [hb, ha, List.append_assoc]⟩

theorem ActsOn.works (h : ActsOn c s t) : s.Works t := ⟨h.regs, h.proc, h.mem, h.pending, h.port, h.cpl, h.queue⟩

theorem State.Works.eachChannel {f : ChannelId → State → State} (acts : ∀ c s, ActsOn c s (f c s)) (s : State) : s.Works (s.eachChannel f) :=
  (((acts 0 s).works.trans (acts 1 _).works).trans (acts 2 _).works).trans (acts 3 _).works

/-- R129, R169: the entry to DISABLED is work on the channels. -/
theorem State.Works.enterDisabled (s : State) : State.Works { s with regs := { s.regs with iface := .disabled } } s.enterDisabled :=
  State.Works.eachChannel (fun c s => (Settles.settle c s).toActsOn) _

/-! ## What an answer leaves (R133, R137) -/

/-- R133: what the look for a record to fetch does. -/
theorem State.tryFetch_eq (s : State) :
    s.tryFetch = { s with proc := if s.regs.iface = .active ∧ s.proc.state = .idle ∧ s.regs.cmdHead ≠ s.regs.cmdTail then
                     { state := .fetching, hand := none, read := s.handedRead } else s.proc } := by
  unfold State.tryFetch
  split <;> rfl

theorem State.tryFetch_state (s : State) (h : s.proc.state = .idle) :
    s.tryFetch.proc.state = if s.regs.iface = .active ∧ s.regs.cmdHead ≠ s.regs.cmdTail then .fetching else .idle := by
  unfold State.tryFetch
  by_cases hf : s.regs.iface = .active ∧ s.regs.cmdHead ≠ s.regs.cmdTail
  · rw [if_pos ⟨hf.1, h, hf.2⟩, if_pos hf]
  · rw [if_neg fun e => hf ⟨e.1, e.2.2⟩, if_neg hf, h]

/-- Whatever it does, an answer leaves the registers but the interface state and the head, host memory, the waiting commands, the port, and the completion writer but its queue and credits. -/
theorem State.finishCommand_answerFrame (s : State) (code : ResultCode) (gen : Option Gen) : s.answerFrame (s.finishCommand code gen) := by
  cases hk : s.proc.hand with
  | none =>
    rw [State.finishCommand_of_none hk]
    exact ⟨rfl, rfl, rfl, rfl, rfl⟩
  | some k =>
    rw [State.finishCommand_of_some hk]
    split
    · have w := State.Works.enterDisabled (s.answer k code gen)
      exact ⟨by rw [w.regs]; rfl, w.mem, w.pending, w.cpl, w.port⟩
    · exact ⟨by rw [State.tryFetch_regs]; rfl, State.tryFetch_mem _, State.tryFetch_pending _, by rw [State.tryFetch_cpl]; rfl, State.tryFetch_port _⟩

/-- Outside QUIESCING an answer changes no channel. -/
theorem State.finishCommand_chans (h : s.regs.iface ≠ .quiescing) (code : ResultCode) (gen : Option Gen) : (s.finishCommand code gen).chans = s.chans := by
  cases hk : s.proc.hand with
  | none => rw [State.finishCommand_of_none hk]
  | some k => rw [State.finishCommand_of_some hk, if_neg h, State.tryFetch_chans]; rfl

/-- The answer to the record in hand (R133, R137, R169). -/
theorem State.finishCommand_answered {k : Hand} (hk : s.proc.hand = some k) (code : ResultCode) (gen : Option Gen) :
    s.answered (s.finishCommand code gen) code gen [] := by
  rw [State.finishCommand_of_some hk]
  split
  · next hq =>
    have w := State.Works.enterDisabled (s.answer k code gen)
    obtain ⟨new, hnew⟩ := w.queue
    refine ⟨k, hk, new, ?_, by rw [w.regs]; rfl, by rw [w.proc]; rfl, fun _ => ⟨by rw [w.regs], by rw [w.proc]; rfl⟩, fun h => absurd hq h⟩
    rw [hnew, List.append_nil]
    exact List.append_assoc _ _ _
  · next hq =>
    refine ⟨k, hk, [], by rw [State.tryFetch_cpl, List.append_nil]; rfl, by rw [State.tryFetch_regs]; rfl, ?_, fun h => absurd h hq,
      fun _ => ⟨rfl, by rw [State.tryFetch_regs]; rfl, ?_⟩⟩
    · unfold State.tryFetch
      split <;> rfl
    · rw [State.tryFetch_state _ rfl, State.tryFetch_regs]
      rfl

/-! ## What a command does before its answer -/

/-- `u` is `s` with the records `before` placed for the record in hand, its channels and pools as the command leaves them; the record is still in hand. -/
structure State.Prepares (s u : State) (before : List Completion) : Prop where
  regs : u.regs = s.regs
  mem : u.mem = s.mem
  pending : u.pending = s.pending
  port : u.port = s.port
  cpl : u.cpl = { s.cpl with queue := s.cpl.queue ++ before, reserved := u.cpl.reserved }
  hand : ∃ h k, s.proc.hand = some h ∧ u.proc.hand = some k ∧ k.slot = h.slot ∧ k.bytes = h.bytes

theorem State.Prepares.refl {h : Hand} (hh : s.proc.hand = some h) : s.Prepares s [] :=
  ⟨rfl, rfl, rfl, rfl, by rw [List.append_nil], h, h, hh, hh, rfl, rfl⟩

theorem State.Prepares.trans {a b : List Completion} (p : s.Prepares t a) (q : t.Prepares u b) : s.Prepares u (a ++ b) where
  regs := q.regs.trans p.regs
  mem := q.mem.trans p.mem
  pending := q.pending.trans p.pending
  port := q.port.trans p.port
  cpl := by rw [q.cpl, p.cpl, List.append_assoc]
  hand := by
    obtain ⟨h, k, hh, hk, hslot, hbytes⟩ := p.hand
    obtain ⟨k', j, hk', hj, jslot, jbytes⟩ := q.hand
    obtain rfl : k = k' := Option.some.inj (hk.symm.trans hk')
    exact ⟨h, j, hh, hj, jslot.trans hslot, jbytes.trans hbytes⟩

/-- A channel changed, with the records it posts. -/
theorem State.Prepares.emit {h : Hand} (hh : s.proc.hand = some h) (c : ChannelId) (ch : Channel) (r : List Completion) : s.Prepares (s.emit c ch r) r :=
  ⟨rfl, rfl, rfl, rfl, rfl, h, h, hh, hh, rfl, rfl⟩

theorem State.Prepares.upd {h : Hand} (hh : s.proc.hand = some h) (c : ChannelId) (f : Channel → Channel) : s.Prepares (s.upd c f) [] :=
  ⟨rfl, rfl, rfl, rfl, by rw [List.append_nil]; rfl, h, h, hh, hh, rfl, rfl⟩

theorem State.Prepares.place {h : Hand} (hh : s.proc.hand = some h) (r : Completion) : s.Prepares (s.place r) [r] :=
  ⟨rfl, rfl, rfl, rfl, rfl, h, h, hh, hh, rfl, rfl⟩

theorem State.Prepares.handSpends {h : Hand} (hh : s.proc.hand = some h) : s.Prepares s.handSpends [] := by
  rw [State.handSpends_of_some hh]
  exact ⟨rfl, rfl, rfl, rfl, by rw [List.append_nil], h, _, hh, rfl, rfl, rfl⟩

section
variable {before : List Completion} {code : ResultCode} {gen : Option Gen} (p : s.Prepares u before)
include p

theorem State.Prepares.hand_isSome : ∃ k, u.proc.hand = some k := by
  obtain ⟨_, k, _, hk, _, _⟩ := p.hand
  exact ⟨k, hk⟩

/-- The record in hand is answered behind the records placed for it. -/
theorem State.Prepares.answered : s.answered (u.finishCommand code gen) code gen before := by
  obtain ⟨h, k, hh, hk, hslot, hbytes⟩ := p.hand
  obtain ⟨j, hj, after, hqueue, hhead, hhand, hquiescing, hother⟩ := State.finishCommand_answered hk code gen
  obtain rfl : k = j := Option.some.inj (hk.symm.trans hj)
  rw [p.cpl, hslot, hbytes, List.append_nil] at hqueue
  rw [p.regs] at hhead hquiescing hother
  exact ⟨h, hh, after, hqueue, hhead, hhand, hquiescing, hother⟩

theorem State.Prepares.answerFrame : s.answerFrame (u.finishCommand code gen) := by
  obtain ⟨hregs, hmem, hpending, hcpl, hport⟩ := State.finishCommand_answerFrame u code gen
  exact ⟨by rw [hregs, p.regs], hmem.trans p.mem, hpending.trans p.pending, by rw [hcpl, p.cpl], hport.trans p.port⟩

theorem State.Prepares.othersKept (hpools : u.pools = s.pools) (hothers : ∀ d, d ≠ c → u.ch d = s.ch d) : s.othersKept (u.finishCommand code gen) c :=
  fun hq => ⟨(State.finishCommand_pools u code gen).trans hpools, fun d hd => by
    rw [State.ch, State.finishCommand_chans (by rw [p.regs]; exact hq)]
    exact hothers d hd⟩

theorem State.Prepares.chans (hq : s.regs.iface ≠ .quiescing) : (u.finishCommand code gen).chans = u.chans :=
  State.finishCommand_chans (by rw [p.regs]; exact hq) code gen

theorem State.Prepares.ch (hq : s.regs.iface ≠ .quiescing) (d : ChannelId) : (u.finishCommand code gen).ch d = u.ch d := by
  rw [State.ch, p.chans hq]
  rfl
end

/-- A record answered with nothing changed before. -/
theorem State.blocksKept_finishCommand (code : ResultCode) (gen : Option Gen) : s.blocksKept (s.finishCommand code gen) :=
  fun hq => ⟨State.finishCommand_pools s code gen, State.finishCommand_chans hq code gen⟩

theorem State.othersKept_of_blocksKept (h : s.blocksKept t) : s.othersKept t c := fun hq => by
  obtain ⟨hpools, hchans⟩ := h hq
  exact ⟨hpools, fun d _ => by rw [State.ch, hchans]; rfl⟩

/-! ## ENABLE, DISABLE and the configuration (R166, R168, R169) -/

theorem Registers.inAperture_iff (r : Registers) (addr length : Nat) :
    r.inAperture addr length = true
      ↔ r.apertureBase.toNat * 1048576 ≤ addr ∧ addr + length ≤ (r.apertureBase.toNat + r.apertureSize.toNat) * 1048576 := by
  unfold Registers.inAperture
  rw [Bool.and_eq_true, decide_eq_true_iff, decide_eq_true_iff]

/-- R168: the four enable checks. -/
theorem Registers.enableOk_iff (r : Registers) :
    r.enableOk = true ↔ (∃ k, 4 ≤ k ∧ k ≤ 12 ∧ r.cmdSize.toNat = 2 ^ k) ∧ (∃ k, 4 ≤ k ∧ k ≤ 12 ∧ r.cplSize.toNat = 2 ^ k)
      ∧ (r.cmdBase % 64 = 0 ∧ r.apertureBase.toNat * 1048576 ≤ r.cmdBase
        ∧ r.cmdBase + 64 * r.cmdSize.toNat ≤ (r.apertureBase.toNat + r.apertureSize.toNat) * 1048576)
      ∧ (r.cplBase % 64 = 0 ∧ r.apertureBase.toNat * 1048576 ≤ r.cplBase
        ∧ r.cplBase + 32 * r.cplSize.toNat ≤ (r.apertureBase.toNat + r.apertureSize.toNat) * 1048576) := by
  simp only [Registers.enableOk, Bool.and_eq_true, beq_iff_eq, ringSizeOk_iff, Registers.inAperture_iff, and_assoc]

/-- What entering ACTIVE does (R133, R168). -/
theorem State.enterActive_eq (s : State) :
    s.enterActive = { s with regs := { s.regs with iface := .active }
                             proc := if s.proc.state = .idle ∧ s.regs.cmdHead ≠ s.regs.cmdTail then
                                 { state := .fetching, hand := none, read := s.handedRead } else s.proc } := by
  unfold State.enterActive State.tryFetch
  by_cases h : s.proc.state = .idle ∧ s.regs.cmdHead ≠ s.regs.cmdTail
  · rw [if_pos ⟨rfl, h⟩, if_pos h]
    rfl
  · rw [if_neg fun e => h e.2, if_neg h]

theorem execDisable_of_active (reserved : BitVec 30) (h : s.regs.iface = .active) : exec (.disable reserved) s
    = if s.proc.state = .idle then .next s.enterDisabled else .next { s with regs := { s.regs with iface := .quiescing } } := by
  show execDisable reserved s = _
  rw [execDisable, h]

theorem execDisable_of_ne (reserved : BitVec 30) (h : s.regs.iface ≠ .active) : exec (.disable reserved) s = .next s := by
  show execDisable reserved s = _
  unfold execDisable
  split
  · next e => exact absurd e h
  · rfl
  · rfl
  · rfl

/-- Settles O7. -/
theorem enableMakesTheFourChecks : Obligations.EnableMakesTheFourChecks := by
  intro reserved s
  have disabled (h : s.regs.iface = .disabled) : exec (.enable reserved) s
      = if s.regs.enableOk then .next s.enterActive else .next { s with regs := { s.regs with enableRefused := true } } := by
    show execEnable reserved s = _
    rw [execEnable, h]
  refine ⟨fun h => ⟨fun checks => ?_, fun failed => ?_⟩, fun h => ⟨s.enterActive, ?_, ?_, ?_, ?_⟩, fun h => ?_, ?_⟩
  · rw [disabled h, if_pos (s.regs.enableOk_iff.mpr checks), State.enterActive_eq]
    rfl
  · rw [disabled h, if_neg fun e => failed (s.regs.enableOk_iff.mp e)]
  · show execEnable reserved s = _
    rw [execEnable, h]
  · rw [State.enterActive_eq]
  · rw [State.enterActive_eq]
  · intro hidle
    rw [State.enterActive_eq]
    exact if_neg fun e => hidle e.1
  · show execEnable reserved s = _
    obtain h | h := h <;> rw [execEnable, h]
  · by_cases h : s.regs.iface = .active
    · have run := execDisable_of_active reserved h
      by_cases hidle : s.proc.state = .idle
      · exact ⟨s.enterDisabled, by rw [run, if_pos hidle], by rw [State.enterDisabled_regs, if_neg (not_not_intro h), if_pos hidle]⟩
      · exact ⟨_, by rw [run, if_neg hidle], by rw [if_neg (not_not_intro h), if_neg hidle]⟩
    · exact ⟨s, execDisable_of_ne reserved h, by rw [if_pos h]⟩

/-- R157: a record write that the port holds as its ring is configured stays with the port. -/
theorem State.configureCpl_held (s : State) : ∀ w ∈ s.cpl.write, (WriteClaim.record, w) ∈ s.configureCpl.port.abandonedWrites := fun w hw => by
  show _ ∈ s.port.abandonedWrites ++ _
  rw [Option.mem_def.mp hw]
  exact List.mem_append_right _ (List.mem_singleton_self _)

/-- Settles O9. -/
theorem configWriteConfiguresItsRing : Obligations.ConfigWriteConfiguresItsRing := by
  intro reg value s
  have run : exec (.configWrite reg value) s
      = if s.regs.iface = .disabled then .next (s.configure reg value) else .next { s with regs := { s.regs with configIgnored := true } } := rfl
  have low : (value.extractLsb' 0 13).toNat = value.toNat % 8192 := by simp
  have high : (value.extractLsb' 16 13).toNat = value.toNat / 65536 % 8192 := by simp [Nat.shiftRight_eq_div_pow]
  have held := State.configureCpl_held s
  refine ⟨fun h => by rw [run, if_neg h], fun h => ⟨s.configure reg value, by rw [run, if_pos h], ?_⟩⟩
  cases reg with
  | apertureBase => simp [State.configure]
  | apertureSize => simp [State.configure]
  | cmdBaseLo => simp [State.configure, State.configureCmd]
  | cmdBaseHi => simp [State.configure, State.configureCmd]
  | cplBaseLo => simpa [State.configure, State.configureCpl] using held
  | cplBaseHi => simpa [State.configure, State.configureCpl] using held
  | ringSizes => simpa [State.configure, State.configureCmd, State.configureCpl, low, high] using held

/-! ## The entry to HALTED (R171) -/

theorem State.finishWaitingStop_of_none (h : s.waitingStop = none) : s.finishWaitingStop = s := by
  unfold State.waitingStop at h
  unfold State.finishWaitingStop
  split
  · rfl
  · next k hk =>
    rw [hk] at h
    dsimp only at h
    split
    · next ht =>
      rw [if_pos ht] at h
      split
      · next hcmd => rw [hcmd] at h; cases h
      · rfl
    · rfl

/-- R128: the STOP that waits is answered once its channel's run has ended. -/
theorem State.finishWaitingStop_of_some {d : ChannelId} (h : s.waitingStop = some d) :
    s.finishWaitingStop = if (s.ch d).ending.isNone then s.finishCommand .ok none else s := by
  unfold State.waitingStop at h
  unfold State.finishWaitingStop
  split
  · next hk => rw [hk] at h; cases h
  · next k hk =>
    rw [hk] at h
    dsimp only at h
    split
    · next ht =>
      rw [if_pos ht] at h
      split
      · next hcmd =>
        rw [hcmd] at h
        obtain rfl := Option.some.inj h
        rfl
      · next hcmd =>
        split at h
        · next hc => exact absurd hc (hcmd _ _)
        · cases h
    · next ht =>
      rw [if_neg ht] at h
      cases h

theorem State.finishWaitingStop_cases (s : State) : s.finishWaitingStop = s ∨ s.finishWaitingStop = s.finishCommand .ok none := by
  cases h : s.waitingStop with
  | none => exact .inl (State.finishWaitingStop_of_none h)
  | some d =>
    rw [State.finishWaitingStop_of_some h]
    split
    · exact .inr rfl
    · exact .inl rfl

theorem State.finishWaitingStop_answerFrame (s : State) : s.answerFrame s.finishWaitingStop := by
  obtain h | h := s.finishWaitingStop_cases <;> rw [h]
  · exact ⟨rfl, rfl, rfl, rfl, rfl⟩
  · exact State.finishCommand_answerFrame s .ok none

/-- The state in HALTED once every channel is stopped, before a STOP that waits is answered and the message sent. -/
def State.haltedBlocks (s : State) (cause : HaltCause) : State :=
  (State.discardHand { s with regs := { s.regs with iface := .halted, haltCause := cause } }).eachChannel State.haltChannel

theorem State.enterHalted_eq (h : s.regs.iface ≠ .halted) (cause : HaltCause) :
    s.enterHalted cause = (s.haltedBlocks cause).finishWaitingStop.announceHalt := by
  rw [State.enterHalted, if_neg h]
  rfl

theorem State.haltedBlocks_works (s : State) (cause : HaltCause) :
    State.Works (State.discardHand { s with regs := { s.regs with iface := .halted, haltCause := cause } }) (s.haltedBlocks cause) :=
  State.Works.eachChannel (fun c s => (Settles.haltChannel c s).toActsOn) _

theorem State.haltedBlocks_regs (s : State) (cause : HaltCause) : (s.haltedBlocks cause).regs = { s.regs with iface := .halted, haltCause := cause } := by
  rw [(s.haltedBlocks_works cause).regs, State.discardHand_regs]

theorem State.haltedBlocks_proc (s : State) (cause : HaltCause) :
    (s.haltedBlocks cause).proc = { state := .idle, hand := s.proc.hand.bind Hand.keptByHalt, read := none } :=
  (s.haltedBlocks_works cause).proc

/-- A STOP with ABORT that waits stays in hand at the entry to HALTED. -/
theorem State.haltedBlocks_waitingStop (s : State) (cause : HaltCause) : (s.haltedBlocks cause).waitingStop = s.waitingStop := by
  cases hk : s.proc.hand with
  | none =>
    rw [State.waitingStop_of_none hk, State.waitingStop_of_none]
    rw [State.haltedBlocks_proc, hk]
    rfl
  | some k =>
    by_cases ht : k.taken = true
    · refine State.waitingStop_congr ?_
      rw [State.haltedBlocks_proc, hk]
      exact if_pos ht
    · rw [State.waitingStop_of_not_taken hk (Bool.of_not_eq_true ht), State.waitingStop_of_none]
      rw [State.haltedBlocks_proc, hk]
      exact if_neg ht

theorem State.announceHalt_eq (s : State) :
    s.announceHalt = { s with port := { s.port with messages := s.port.messages
      ++ if s.regs.intEnable = true ∧ s.port.linkUp = true ∧ s.port.msiEnabled = true then [.error] else [] } } := by
  unfold State.announceHalt
  rw [State.deliver_eq]
  by_cases h : s.regs.intEnable = true
  · rw [if_pos h]
    simp only [h, true_and]
  · rw [if_neg h, if_neg fun e => h e.1, List.append_nil]

/-- R171: of the registers only the interface state and its cause change, and the head where a STOP that waits is answered. -/
theorem State.enterHalted_regs (h : s.regs.iface ≠ .halted) (cause : HaltCause) :
    (s.enterHalted cause).regs = { s.regs with iface := .halted, haltCause := cause, cmdHead := (s.enterHalted cause).regs.cmdHead }
      ∧ (s.waitingStop = none → (s.enterHalted cause).regs.cmdHead = s.regs.cmdHead) := by
  have hiface := State.enterHalted_iface s cause
  rw [State.enterHalted_eq h, State.announceHalt_eq] at hiface ⊢
  obtain ⟨hregs, _⟩ := State.finishWaitingStop_answerFrame (s.haltedBlocks cause)
  refine ⟨?_, fun hw => ?_⟩
  · show (s.haltedBlocks cause).finishWaitingStop.regs = _
    rw [hregs, State.haltedBlocks_regs]
    rw [show (s.haltedBlocks cause).finishWaitingStop.regs.iface = .halted from hiface]
  · rw [State.finishWaitingStop_of_none ((s.haltedBlocks_waitingStop cause).trans hw)]
    show (s.haltedBlocks cause).regs.cmdHead = _
    rw [State.haltedBlocks_regs]

/-- R171, R149: of the port only the reads abandoned and the messages change. -/
theorem State.enterHalted_port (h : s.regs.iface ≠ .halted) (cause : HaltCause) :
    (s.enterHalted cause).port = { s.port with
      abandonedReads := s.port.abandonedReads ++ s.proc.heldReads
      messages := s.port.messages ++ if s.regs.intEnable = true ∧ s.port.linkUp = true ∧ s.port.msiEnabled = true then [.error] else [] } := by
  obtain ⟨hregs, _, _, _, hport⟩ := State.finishWaitingStop_answerFrame (s.haltedBlocks cause)
  have blocks : (s.haltedBlocks cause).port = { s.port with abandonedReads := s.port.abandonedReads ++ s.proc.heldReads } := by
    rw [(s.haltedBlocks_works cause).port]
    unfold State.discardHand
    dsimp only
    split
    · rfl
    · split <;> rfl
  rw [State.enterHalted_eq h, State.announceHalt_eq]
  dsimp only
  rw [hregs, hport, blocks, State.haltedBlocks_regs]

/-! ## The index registers and the switches (R170, R174) -/

/-- Settles O10. -/
theorem commandTailWriteMovesTailOrHalts : Obligations.CommandTailWriteMovesTailOrHalts := by
  intro value s
  have run : exec (.cmdTailWrite value) s = if s.regs.iface = .halted then .next s
      else if ringSizeOk s.regs.cmdSize.toNat then
        if value.toNat < s.regs.cmdSize.toNat then .next (State.tryFetch { s with regs := { s.regs with cmdTail := value.toNat } })
        else .next (s.enterHalted .ringIndex)
      else .next { s with regs := { s.regs with cmdTail := 0 } } := rfl
  rw [run]
  refine ⟨fun h => if_pos h, fun h valid below => ?_, fun h valid above => ⟨s.enterHalted .ringIndex, ?_, State.enterHalted_regs h _⟩, fun h invalid => ?_⟩
  · rw [if_neg h, if_pos ((ringSizeOk_iff _).mpr valid), if_pos below]
    rw [State.tryFetch_eq]
    rfl
  · rw [if_neg h, if_pos ((ringSizeOk_iff _).mpr valid), if_neg (Nat.not_lt.mpr above)]
  · rw [if_neg h, if_neg fun e => invalid ((ringSizeOk_iff _).mp e)]

/-- Settles O15. -/
theorem switchEventsMoveOneSwitch : Obligations.SwitchEventsMoveOneSwitch := by
  intro enabled c s
  have run : exec .portDown s = if s.port.linkUp then .next (State.enterHalted { s with port := { s.port with linkUp := false } } .portDown) else .next s := rfl
  have down (h : s.port.linkUp = false) : exec .portDown s = .next s := by rw [run, h]; rfl
  have again (h : s.regs.iface = .halted) : exec .portDown s = .next { s with port := { s.port with linkUp := false } } := by
    rw [run]
    split
    · exact congrArg Host.Outcome.next (State.enterHalted_again { s with port := { s.port with linkUp := false } } .portDown h)
    · next hl => rw [show ({ s.port with linkUp := false } : Port) = s.port by rw [← Bool.of_not_eq_true hl]]
  refine ⟨?_, rfl, rfl, rfl, rfl, down, again, ?_⟩
  · show execBusMasteringChange enabled s = _
    unfold execBusMasteringChange
    split
    · rfl
    · rfl
  · by_cases hl : s.port.linkUp = true
    · by_cases hh : s.regs.iface = .halted
      · exact ⟨_, again hh, rfl, fun _ e => absurd hh e⟩
      · refine ⟨_, by rw [run, if_pos hl], ?_, fun _ _ => ⟨State.enterHalted_iface _ _, ?_⟩⟩
        · rw [State.enterHalted_port (s := { s with port := { s.port with linkUp := false } }) hh]
        · rw [(State.enterHalted_regs (s := { s with port := { s.port with linkUp := false } }) hh _).1]
    · have hl := Bool.of_not_eq_true hl
      exact ⟨s, down hl, hl, fun e => by rw [hl] at e; cases e⟩

end

end Sys2Proof.Machine
end

section
/-! The command processor and the commands answered at once: FETCH_COMPLETE, RECORD_REJECTED, SET, START rejected or waiting for its trigger, POST_BUFFERS, RECLAIM and QUERY (R24 to R26, R82, R83, R115 to R119, R134 to R147). -/

namespace Sys2Proof.Machine

section
variable {s t u : State} {c : ChannelId}

/-! ## A channel that does not go on by itself -/

/-- No end of run waits, no frame is aborted, the earliest frame waits for something, and no STOPPING run is at its end. -/
structure Channel.Rests (ch : Channel) : Prop where
  free : ch.ending = none
  unaborted : ∀ f ∈ ch.frames, f.flags.aborted = false
  waits : ch.headWaits = true
  goesOn : ch.state = .stopping → ch.timer.state = .idle → ch.frames ≠ []

/-- A sound channel whose run nothing is ending rests. -/
theorem Channel.Accounts.rests {ch : Channel} (a : ch.Accounts) (r : ch.RowAccounts) (h : ch.ending = none) : ch.Rests where
  free := h
  unaborted f hf := by
    refine Bool.of_not_eq_true fun hab => ?_
    have ends := (r.frames f hf).ends hab
    rw [h] at ends
    cases ends
  waits := r.waits
  goesOn hs := a.waits (by rw [hs]; rfl)

theorem Channel.rests_of_empty {ch : Channel} (hend : ch.ending = none) (hframes : ch.frames = []) (hstate : ch.state ≠ .stopping) : ch.Rests where
  free := hend
  unaborted f hf := by rw [hframes] at hf; cases hf
  waits := by rw [Channel.headWaits, hframes]
  goesOn hs := absurd hs hstate

/-- A change beside the run, the frames and the rows. -/
theorem Channel.Rests.congr {a b : Channel} (h : a.Rests) (hending : b.ending = a.ending) (hframes : b.frames = a.frames) (hrows : b.rows = a.rows)
    (hstate : b.state = a.state) (htimer : b.timer.state = a.timer.state) : b.Rests where
  free := hending.trans h.free
  unaborted := by rw [hframes]; exact h.unaborted
  waits := (Channel.headWaits_congr hframes hrows).trans h.waits
  goesOn := by rw [hstate, htimer, hframes]; exact h.goesOn

/-- While the earliest frame waits for something no frame goes on. -/
theorem Channel.advance_of_waits {ch : Channel} (h : ch.headWaits = true) (fuel : Nat) : ch.advance fuel = ch := by
  cases fuel with
  | zero => rfl
  | succ n =>
    unfold Channel.advance
    split
    · rfl
    · next f rest hf =>
      obtain ⟨draining, closing⟩ := Channel.headWaits_iff.mp h f (by rw [hf]; rfl)
      cases hs : f.stage with
      | reading => rw [if_neg (by simp [Channel.drops, hs]), if_neg (by simp [Channel.entersClosing, hs])]
      | draining => rw [if_neg (by simp [Channel.drops, hs, draining hs]), if_neg (by simp [Channel.entersClosing, hs, draining hs])]
      | closing => rw [if_neg (by simp [Channel.drops, hs, closing hs]), if_neg (by simp [Channel.entersClosing, hs])]

theorem Channel.advanceRecords_of_waits {ch : Channel} (h : ch.headWaits = true) (c : ChannelId) (fuel : Nat) : ch.advanceRecords c fuel = [] := by
  cases fuel with
  | zero => rfl
  | succ n =>
    unfold Channel.advanceRecords
    split
    · rfl
    · next f rest hf =>
      obtain ⟨draining, closing⟩ := Channel.headWaits_iff.mp h f (by rw [hf]; rfl)
      refine if_neg ?_
      cases hs : f.stage with
      | reading => simp [Channel.drops, hs]
      | draining => simp [Channel.drops, hs, draining hs]
      | closing => simp [Channel.drops, hs, closing hs]

section
variable {ch : Channel} (h : ch.Rests)
include h

theorem Channel.Rests.decided (writes : Bool) : ch.decided writes = ch := by
  cases writes with
  | true => rfl
  | false =>
    have kept : ch.frames.map (fun f => f.giveUpHeader ch.headerWrite.isSome) = ch.frames := by
      refine List.map_congr_left (g := id) (fun f hf => ?_) |>.trans (List.map_id _)
      exact if_neg (by simp [h.unaborted f hf])
    show { ch with frames := _ } = ch
    rw [kept]

theorem Channel.Rests.advanced (writes : Bool) : ch.advanced writes = ch := by
  rw [Channel.advanced, h.decided, Channel.advance_of_waits h.waits]

theorem Channel.Rests.not_halts : ch.haltsNow = false := by
  unfold Channel.haltsNow
  rw [h.free]
  split
  · next he => cases he
  · rfl

theorem Channel.Rests.ended : ch.ended = ch := by
  unfold Channel.ended
  split
  · next he => rw [h.free] at he; cases he
  · next hf _ => exact if_neg fun e => h.goesOn e.1 e.2 hf
  · rfl

theorem Channel.Rests.endedRecords (c : ChannelId) : ch.endedRecords c = [] := by
  unfold Channel.endedRecords
  split
  · next he => rw [h.free] at he; cases he
  · next hf _ => exact if_neg fun e => h.goesOn e.1 e.2 hf
  · rfl

theorem Channel.Rests.settled (writes : Bool) : ch.settled writes = ch := by rw [Channel.settled, h.advanced, h.ended]

theorem Channel.Rests.settledRecords (c : ChannelId) (writes : Bool) : ch.settledRecords c writes = [] := by
  rw [Channel.settledRecords, h.decided, Channel.advanceRecords_of_waits h.waits, h.advanced, h.endedRecords]
  rfl

theorem Channel.Rests.settledThen (writes : Bool) (n : Nat) : ch.settledThen writes n = ch := by
  rw [Channel.settledThen, h.advanced, h.not_halts, h.settled]
  rfl
end

theorem State.settle_of_rests (h : (s.ch c).Rests) : s.settle c = s := by
  have stays : ((s.ch c).advanced s.regs.iface.busWrites).haltsNow = false := by rw [h.advanced]; exact h.not_halts
  rw [State.settle_eq_emit_of_not_halts stays, h.settled, h.settledRecords, State.emit_self]

/-- An answer leaves a channel that rests as it is, the entry to DISABLED with it. -/
theorem State.finishCommand_ch_of_rests {d : ChannelId} (h : (s.ch d).Rests) (code : ResultCode) (gen : Option Gen) :
    (s.finishCommand code gen).ch d = s.ch d := by
  obtain e | ⟨_, n, _, e⟩ := State.finishCommand_ch s code gen d
  · exact e
  · rw [e, h.settledThen]

/-- A sound state's channel whose run nothing is ending rests. -/
theorem State.rests (hl : s.ledger) (hr : s.rowsSound) {d : ChannelId} (h : (s.ch d).ending = none) : (s.ch d).Rests :=
  ((s.ledger_iff.mp hl).1.chans d).rests ((s.rowsSound_iff.mp hr).1 d) h

/-! ## Credits (R136, R151) -/

theorem State.le_creditsFree {n : Nat} (h : 1 ≤ n) : n ≤ s.creditsFree ↔ s.cpl.queue.length + s.cpl.reserved + n ≤ 64 := by
  unfold State.creditsFree
  omega

/-- R136: what the wait for credits does. -/
theorem State.askCredits_of_waiting {h : Hand} {want : Nat} (hstate : s.proc.state = .waitCredit) (hh : s.proc.hand = some h)
    (hwant : want = if h.credits = 0 then s.creditNeed (commandOf h.bytes) else 1) :
    s.askCredits = if want ≤ s.creditsFree then
        { s.reserve want with proc := { s.proc with state := .executing, hand := some { h with credits := h.credits + want } } }
      else s := by
  unfold State.askCredits
  rw [if_pos hstate]
  simp only [hh, ← hwant]
  rfl

/-- R118, R140: a record in hand with one credit that needs a second. -/
theorem State.waitCredit_eq {h : Hand} (hh : s.proc.hand = some h) (hc : h.credits = 1) :
    s.waitCredit = if s.cpl.queue.length + s.cpl.reserved < 64 then
        { s with cpl := { s.cpl with reserved := s.cpl.reserved + 1 }, proc := { s.proc with state := .executing, hand := some { h with credits := 2 } } }
      else { s with proc := { s.proc with state := .waitCredit } } := by
  have asks := State.askCredits_of_waiting (s := { s with proc := { s.proc with state := .waitCredit } }) (want := 1) rfl hh
    (by rw [hc, if_neg Nat.one_ne_zero])
  rw [hc] at asks
  refine asks.trans ?_
  by_cases hfree : s.cpl.queue.length + s.cpl.reserved < 64
  · rw [if_pos hfree]
    exact if_pos ((State.le_creditsFree (s := s) (Nat.le_refl 1)).mpr hfree)
  · rw [if_neg hfree]
    exact if_neg fun e => hfree ((State.le_creditsFree (s := s) (Nat.le_refl 1)).mp e)

/-- The credits of a record answered with nothing changed before are no longer reserved. -/
theorem State.Books.answer_reserved (b : s.Books) {cmd : Command} (h : s.presented = some cmd) (code : ResultCode) (gen : Option Gen)
    (hq : s.regs.iface ≠ .quiescing) : (s.finishCommand code gen).cpl.reserved = s.channelCredits := by
  obtain ⟨k, hk, _⟩ := b.presented h
  rw [(b.answerPresented h code gen).funded.reserved, State.handCredits_of_none (State.finishCommand_hand hk code gen),
    State.channelCredits_of_chans (State.finishCommand_chans hq code gen), Nat.add_zero]

/-- Settles O18. -/
theorem fetchCompleteTakesTheRecord : Obligations.FetchCompleteTakesTheRecord := by
  intro s result bytes need
  refine ⟨rfl, fun hnone => ?_, fun hread hneed => ?_⟩
  · show execFetchComplete .current result s = _
    simp only [execFetchComplete, hnone]
  · obtain ⟨r, hr⟩ := Option.ne_none_iff_exists'.mp hread
    have run : exec (.fetchComplete .current (.data bytes)) s = .next (s.recordArrives bytes) := by
      show execFetchComplete .current (.data bytes) s = _
      simp only [execFetchComplete, hr]
    have need_eq : need = s.creditNeed (commandOf bytes) := by
      rw [hneed]
      unfold State.creditNeed
      cases commandOf bytes <;> rfl
    have positive : 1 ≤ need := by
      rw [need_eq]
      exact Nat.le_trans (Command.one_le_executingCredits _) (s.executingCredits_le_creditNeed _)
    have asks := State.askCredits_of_waiting (s := { s with proc := { state := .waitCredit, hand := some ⟨s.regs.cmdHead, bytes, 0, false⟩, read := none } })
      (want := need) rfl rfl (by rw [need_eq]; rfl)
    rw [run, State.recordArrives, asks]
    refine ⟨fun hfree => ?_, fun hfull => ?_⟩
    · refine congrArg Host.Outcome.next ((if_pos ((State.le_creditsFree (s := s) positive).mpr hfree)).trans ?_)
      rw [Nat.zero_add]
      rfl
    · exact congrArg Host.Outcome.next (if_neg fun e => absurd ((State.le_creditsFree (s := s) positive).mp e) (by omega))

/-! ## Records rejected (R135) -/

theorem fourOf_of_gt {b : Byte} (h : 3 < b.toNat) : fourOf b = none := dif_neg (by omega)

theorem fourOf_of_le {b : Byte} (h : b.toNat ≤ 3) : ∃ t : Fin 4, fourOf b = some t := ⟨_, dif_pos (by omega)⟩

/-- R135 check 1: a kind that is none of the eight. -/
theorem commandOf_of_bad_kind {bytes : List Byte} (h : (byteAt bytes 0).toNat = 0 ∨ 8 < (byteAt bytes 0).toNat) : commandOf bytes = .rejected .badKind := by
  unfold commandOf
  split <;> first | omega | rfl

/-- R135 check 2: a target above 3. -/
theorem commandOf_of_bad_target {bytes : List Byte} (hlo : 1 ≤ (byteAt bytes 0).toNat) (hhi : (byteAt bytes 0).toNat ≤ 8)
    (h : 3 < (byteAt bytes 1).toNat) : commandOf bytes = .rejected .badTarget := by
  have rejects (k : Fin 4 → Command) : onTarget bytes k = .rejected .badTarget := by rw [onTarget, fourOf_of_gt h]
  unfold commandOf
  generalize (byteAt bytes 0).toNat = kind at hlo hhi ⊢
  have kinds : kind = 1 ∨ kind = 2 ∨ kind = 3 ∨ kind = 4 ∨ kind = 5 ∨ kind = 6 ∨ kind = 7 ∨ kind = 8 := by omega
  obtain rfl | rfl | rfl | rfl | rfl | rfl | rfl | rfl := kinds <;> exact rejects _

/-- R135 check 3: a CAPTURE with a pool above 3. -/
theorem commandOf_of_bad_pool {bytes : List Byte} (hkind : byteAt bytes 0 = 4) (htarget : (byteAt bytes 1).toNat ≤ 3) (h : 3 < (byteAt bytes 8).toNat) :
    commandOf bytes = .rejected .badTarget := by
  obtain ⟨t, ht⟩ := fourOf_of_le htarget
  rw [commandOf, hkind]
  show onTarget bytes (captureOf bytes) = _
  rw [onTarget, ht]
  show captureOf bytes t = _
  rw [captureOf, fourOf_of_gt h]

/-- R135 check 4: a POST_BUFFERS with a count that is not 1 to 3. -/
theorem commandOf_of_bad_count {bytes : List Byte} (hkind : byteAt bytes 0 = 6) (htarget : (byteAt bytes 1).toNat ≤ 3)
    (h : (byteAt bytes 8).toNat = 0 ∨ 3 < (byteAt bytes 8).toNat) : commandOf bytes = .rejected .badField := by
  obtain ⟨t, ht⟩ := fourOf_of_le htarget
  rw [commandOf, hkind]
  show onTarget bytes (postBuffersOf bytes) = _
  rw [onTarget, ht]
  exact if_pos h

theorem State.presented_of_hand {h : Hand} (hstate : s.proc.state = .executing) (hh : s.proc.hand = some h) (ht : h.taken = false) :
    s.presented = some (commandOf h.bytes) := by
  simp [State.presented, hstate, hh, ht]

/-- A record presented to its block is in hand. -/
theorem State.hand_of_presented {cmd : Command} (h : s.presented = some cmd) : ∃ k, s.proc.hand = some k := by
  obtain ⟨_, k, hk, _⟩ := State.presented_some s cmd h
  exact ⟨k, hk⟩

/-- Settles O20. -/
theorem recordChecksRejectInOrder : Obligations.RecordChecksRejectInOrder := by
  intro s h code hstate hh ht checks
  have cmd : commandOf h.bytes = .rejected code := by
    obtain ⟨hk, rfl⟩ | ⟨hlo, hhi, htarget, rfl⟩ | ⟨hk, htarget, hpool, rfl⟩ | ⟨hk, htarget, hcount, rfl⟩ := checks
    · exact commandOf_of_bad_kind hk
    · exact commandOf_of_bad_target hlo hhi htarget
    · exact commandOf_of_bad_pool hk htarget hpool
    · exact commandOf_of_bad_count hk htarget hcount
  refine ⟨s.finishCommand code none, ?_, State.finishCommand_answered hh _ _, State.finishCommand_answerFrame _ _ _, State.blocksKept_finishCommand _ _⟩
  show execRecordRejected s = _
  rw [execRecordRejected, State.presented_of_hand hstate hh ht, cmd]

/-- Settles O21: each command looks at the record presented, and is taken only where it is its own. -/
theorem commandsNotOfferedChangeNothing : Obligations.CommandsNotOfferedChangeNothing := by
  refine fun s => ⟨fun h => ?_, fun h => ?_, fun h => ?_, fun h => ?_, fun h => ?_, fun h => ?_, fun h => ?_, fun h => ?_, fun h => ?_⟩
  · show execRecordRejected s = _
    unfold execRecordRejected
    split
    · next e => exact absurd e (h _)
    · rfl
  · show execSet s = _
    unfold execSet
    split
    · next e => exact absurd e (h _ _ _)
    · rfl
  · show execStart s = _
    unfold execStart
    split
    · next e => exact absurd e (h _)
    · rfl
  · show execStop s = _
    unfold execStop
    split
    · next e => exact absurd e (h _ _)
    · rfl
  · show execCapture s = _
    unfold execCapture
    split
    · next e => exact absurd e (h _ _ _ _ _)
    · rfl
  · show execCancel s = _
    unfold execCancel
    split
    · next e => exact absurd e (h _ _)
    · rfl
  · show execPostBuffers s = _
    unfold execPostBuffers
    split
    · next e => exact absurd e (h _ _)
    · rfl
  · show execReclaim s = _
    unfold execReclaim
    split
    · next e => exact absurd e (h _)
    · rfl
  · show execQuery s = _
    unfold execQuery
    split
    · next e => exact absurd e (h _ _)
    · rfl

/-! ## SET (R24 to R26) -/

theorem execSet_of_presented {flags : SetFlags} {edits : RawEdits} (h : s.presented = some (.set c flags edits)) :
    exec .set s = .next (s.setCommand c flags edits) := by
  show execSet s = _
  rw [execSet, h]

/-- What an answer leaves of the sets of a channel: all of what SET makes. -/
theorem State.finishCommand_sets (s : State) (code : ResultCode) (gen : Option Gen) (d : ChannelId) :
    (s.ch d).table.setsKept ((s.finishCommand code gen).ch d).table := by
  obtain h | h := State.finishCommand_table s code gen d <;> rw [h]
  · exact ⟨rfl, rfl, rfl⟩
  · exact ⟨rfl, rfl, rfl⟩

/-- Settles O22. -/
theorem setTakesOneOfFourOutcomes : Obligations.SetTakesOneOfFourOutcomes := by
  intro s c flags edits trial gen hp htrial hgen
  obtain ⟨k, hk⟩ := State.hand_of_presented hp
  have run : exec .set s = .next (if edits.inRange then
        if flags.hold then (s.upd c fun ch => { ch with table := { ch.table with working := trial } }).finishCommand .ok none
        else if trial.combinationOk (s.ch c).link.geometry then
          (s.upd c fun ch => { ch with table := ch.table.commit trial flags.report }).finishCommand .ok (some gen)
        else s.finishCommand .badCombination none
      else s.finishCommand .badField none) := by
    rw [execSet_of_presented hp, hgen, htrial]
    rfl
  have unchanged (code : ResultCode) := State.blocksKept_finishCommand (s := s) code none
  have others (f : Channel → Channel) : ∀ d, d ≠ c → (s.upd c f).ch d = s.ch d := fun d hd => State.ch_upd_ne s f hd
  cases hrange : edits.inRange with
  | false =>
    rw [hrange, if_neg Bool.false_ne_true] at run
    exact ⟨_, run, State.finishCommand_answerFrame _ _ _, State.othersKept_of_blocksKept (unchanged _),
      fun _ => ⟨State.finishCommand_answered hk _ _, unchanged _⟩, nofun, nofun, nofun⟩
  | true =>
    rw [hrange, if_pos rfl] at run
    cases hhold : flags.hold with
    | true =>
      rw [hhold, if_pos rfl] at run
      have p := State.Prepares.upd hk c fun ch => { ch with table := { ch.table with working := trial } }
      have kept := State.finishCommand_sets (s.upd c fun ch => { ch with table := { ch.table with working := trial } }) .ok none c
      rw [State.ch_upd_same] at kept
      obtain ⟨working, committed, counter⟩ := kept
      exact ⟨_, run, p.answerFrame, p.othersKept rfl (others _), nofun, fun _ _ => ⟨p.answered, working, committed, counter,
        fun hq => (p.ch hq c).trans (State.ch_upd_same _ _ _)⟩, fun _ => nofun, fun _ => nofun⟩
    | false =>
      rw [hhold, if_neg Bool.false_ne_true] at run
      cases hok : trial.combinationOk (s.ch c).link.geometry with
      | true =>
        rw [hok, if_pos rfl] at run
        have p := State.Prepares.upd hk c fun ch => { ch with table := ch.table.commit trial flags.report }
        have kept := State.finishCommand_sets (s.upd c fun ch => { ch with table := ch.table.commit trial flags.report }) .ok (some gen) c
        rw [State.ch_upd_same, SettingsTable.commit, ← hgen] at kept
        obtain ⟨working, committed, counter⟩ := kept
        refine ⟨_, run, p.answerFrame, p.othersKept rfl (others _), nofun, fun _ => nofun, fun _ _ _ => ⟨p.answered, working, committed, counter, fun hq => ?_⟩,
          fun _ _ => nofun⟩
        rw [p.ch hq c, State.ch_upd_same, SettingsTable.commit, ← hgen]
      | false =>
        rw [hok, if_neg Bool.false_ne_true] at run
        exact ⟨_, run, State.finishCommand_answerFrame _ _ _, State.othersKept_of_blocksKept (unchanged _), nofun, fun _ => nofun, fun _ _ => nofun,
          fun _ _ _ => ⟨State.finishCommand_answered hk _ _, unchanged _⟩⟩

/-! ## START (R82, R83) -/

theorem execStart_of_presented (h : s.presented = some (.start c)) : exec .start s = .next (s.startCommand c) := by
  show execStart s = _
  rw [execStart, h]

/-- R21: a set that lacks a field other than gain is not complete. -/
theorem Settings.complete_eq_none {p : Settings} (h : p.mode = none ∨ p.depth = none ∨ p.flip = none ∨ p.vStart = none ∨ p.vRows = none
    ∨ p.hStart = none ∨ p.hWidth = none ∨ p.lp = none ∨ p.lf = none ∨ p.stretch = none ∨ p.startSource = none ∨ p.exposure = none) : p.complete = none := by
  refine Option.eq_none_iff_forall_ne_some.mpr fun f hf => ?_
  simp only [Settings.complete, Option.bind_eq_bind, Option.bind_eq_some_iff] at hf
  obtain ⟨_, h1, _, h2, _, h3, _, h4, _, h5, _, h6, _, h7, _, h8, _, h9, _, h10, _, h11, _, h12, _⟩ := hf
  simp [h1, h2, h3, h4, h5, h6, h7, h8, h9, h10, h11, h12] at h

theorem Link.up_iff (l : Link) : l.up = true ↔ l.geometry ≠ none := by
  rw [Link.up, Option.isSome_iff_ne_none]

/-- R82: the checks of a START, in their order. -/
theorem Channel.startCheck_eq_inl {ch : Channel} {code : ResultCode}
    (h : ch.state ≠ .off ∧ code = .wrongState
      ∨ ch.state = .off ∧ (ch.link.geometry = none ∨ ch.link.headFault ≠ none) ∧ code = .headNotReady
      ∨ ch.state = .off ∧ ch.link.geometry ≠ none ∧ ch.link.headFault = none ∧ (∀ k ∈ ch.table.committed, k.fields.complete = none) ∧ code = .incomplete
      ∨ ch.state = .off ∧ ch.link.geometry ≠ none ∧ ch.link.headFault = none
          ∧ (∃ k ∈ ch.table.committed, ∃ g, k.governing = some g ∧ k.fields.combinationOk ch.link.geometry = false) ∧ code = .badCombination) :
    ch.startCheck = .inl code := by
  unfold Channel.startCheck
  obtain ⟨hs, rfl⟩ | ⟨hs, hlink, rfl⟩ | ⟨hs, hup, hfault, hset, rfl⟩ | ⟨hs, hup, hfault, ⟨k, hk, g, hg, hok⟩, rfl⟩ := h
  · exact if_neg hs
  · rw [if_pos hs, if_neg]
    rw [Link.up_iff]
    rintro ⟨hup, hfault⟩
    exact hlink.elim hup fun e => e hfault
  · rw [if_pos hs, if_pos ⟨(Link.up_iff _).mpr hup, hfault⟩]
    split
    · rfl
    · next k hk => rw [CommittedSet.governing, hset k hk]
  · rw [if_pos hs, if_pos ⟨(Link.up_iff _).mpr hup, hfault⟩]
    simp only [Option.mem_def.mp hk, hg, hok, Bool.false_eq_true, if_false]

theorem Channel.startCheck_of_ok {ch : Channel} {k : CommittedSet} {g : GoverningSet} (hs : ch.state = .off) (hup : ch.link.geometry ≠ none)
    (hfault : ch.link.headFault = none) (hk : ch.table.committed = some k) (hg : k.governing = some g)
    (hok : k.fields.combinationOk ch.link.geometry = true) : ch.startCheck = .inr g := by
  unfold Channel.startCheck
  rw [if_pos hs, if_pos ⟨(Link.up_iff _).mpr hup, hfault⟩]
  simp only [hk, hg, hok, if_true]

theorem CommittedSet.governing_gen {k : CommittedSet} {g : GoverningSet} (h : k.governing = some g) : g.gen = k.gen := by
  unfold CommittedSet.governing at h
  split at h
  · cases h
  · obtain rfl := Option.some.inj h
    rfl

/-- Settles O25. -/
theorem startRejectedByTheFirstFailedCheck : Obligations.StartRejectedByTheFirstFailedCheck := by
  intro s c code hp checks
  obtain ⟨k, hk⟩ := State.hand_of_presented hp
  have check : (s.ch c).startCheck = .inl code := by
    refine Channel.startCheck_eq_inl (checks.imp id (Or.imp id (Or.imp ?_ id)))
    rintro ⟨hs, hup, hfault, hset, hcode⟩
    exact ⟨hs, hup, hfault, fun k hk => Settings.complete_eq_none (hset k hk), hcode⟩
  refine ⟨s.finishCommand code none, ?_, State.finishCommand_answered hk _ _, State.finishCommand_answerFrame _ _ _, State.blocksKept_finishCommand _ _,
    fun hl hq => (s.ledger_iff.mp hl).1.answer_reserved hp code none hq⟩
  rw [execStart_of_presented hp, State.startCommand, check]

/-- R83: the channel of an accepted START. -/
theorem Channel.started_eq {ch : Channel} (hup : ch.link.geometry ≠ none) (g : GoverningSet) :
    ch.started g = { ch with
      state := .starting, standing := true, faultCause := none, lostEvents := 0
      table := ch.table.started g
      timer := ch.timer.started g
      link := { ch.link with endMiss := 0, stray := 0, sent := ch.link.sent ++ [.order (g.order 0)] }
      captures := openFirst ch.captures } := by
  have sent := Link.send_up { ch.link with endMiss := 0, stray := 0 } (.order (g.order 0)) ((Link.up_iff ch.link).mpr hup)
  exact congrArg (fun l => Channel.opening { ch with
    state := .starting, standing := true, faultCause := none, lostEvents := 0, table := ch.table.started g, timer := ch.timer.started g, link := l }) sent

/-- An OFF channel of a sound state has nothing in use. -/
theorem Channel.Accounts.off_empty {ch : Channel} (a : ch.Accounts) (h : ch.state.inRun = false) : ch.frames = [] ∧ ch.ending = none := by
  obtain ⟨_, _, _, hframes, hend⟩ := a.rest h
  exact ⟨hframes, hend⟩

/-- Settles O26. -/
theorem startAcceptedWaitsForItsTrigger : Obligations.StartAcceptedWaitsForItsTrigger := by
  intro s c k g hp hl hoff hup hfault hcommitted hgoverning hok hsource
  obtain ⟨h, hh⟩ := State.hand_of_presented hp
  obtain ⟨hframes, hend⟩ := ((s.ledger_iff.mp hl).1.chans c).off_empty (by rw [hoff]; rfl)
  have accepted : exec .start s = .next (((s.upd c fun ch => ch.started g).handSpends).finishCommand .ok (some k.gen)) := by
    rw [execStart_of_presented hp, State.startCommand, Channel.startCheck_of_ok hoff hup hfault hcommitted hgoverning hok]
    simp only [State.startAccepted, hsource, CommittedSet.governing_gen hgoverning]
  have p : s.Prepares (s.upd c fun ch => ch.started g).handSpends [] := by
    simpa using (State.Prepares.upd hh c fun ch => ch.started g).trans (State.Prepares.handSpends hh)
  have started : (s.upd c fun ch => ch.started g).handSpends.ch c = (s.ch c).started g := by
    rw [State.handSpends_ch, State.ch_upd_same]
  have rests : ((s.ch c).started g).Rests := by
    rw [Channel.started_eq hup]
    exact Channel.rests_of_empty hend hframes ChannelState.noConfusion
  refine ⟨_, accepted, p.answered, p.answerFrame, p.othersKept ?_ fun d hd => ?_, ?_⟩
  · rw [State.handSpends_of_some (s := s.upd c fun ch => ch.started g) hh]
    rfl
  · rw [State.handSpends_ch, State.ch_upd_ne _ _ hd]
  · rw [State.finishCommand_ch_of_rests (by rw [started]; exact rests), started, Channel.started_eq hup, SettingsTable.started, FrameTimer.started, hsource]

/-! ## POST_BUFFERS and RECLAIM (R115, R118) -/

theorem Registers.descriptorOk_iff (r : Registers) (d : Descriptor) :
    r.descriptorOk d = true ↔ 64 ∣ d.addr.toNat ∧ 64 ∣ d.length.toNat ∧ 64 ≤ d.length.toNat ∧ d.length.toNat ≤ 67108864
      ∧ r.apertureBase.toNat * 1048576 ≤ d.addr.toNat
      ∧ d.addr.toNat + d.length.toNat ≤ r.apertureBase.toNat * 1048576 + r.apertureSize.toNat * 1048576 := by
  rw [← Nat.add_mul]
  simp only [Registers.descriptorOk, Bool.and_eq_true, beq_iff_eq, decide_eq_true_iff, Registers.inAperture_iff, Nat.dvd_iff_mod_eq_zero, and_assoc]

/-- Settles O33. -/
theorem postBuffersAppendsAllOrNone : Obligations.PostBuffersAppendsAllOrNone := by
  intro s pool descs good hp hgood
  obtain ⟨h, hh⟩ := State.hand_of_presented hp
  have all_iff : descs.all s.regs.descriptorOk = true ↔ ∀ d ∈ descs, good d := by
    rw [List.all_eq_true]
    exact forall₂_congr fun d _ => (s.regs.descriptorOk_iff d).trans (hgood d).symm
  have run : exec .postBuffers s = .next (s.postCommand pool descs) := by
    show execPostBuffers s = _
    rw [execPostBuffers, hp]
  have kept (code : ResultCode) := State.finishCommand_pools s code none
  have chans (code : ResultCode) (hq : s.regs.iface ≠ .quiescing) := State.finishCommand_chans hq code none
  refine ⟨_, run, ?_⟩
  unfold State.postCommand
  by_cases hall : descs.all s.regs.descriptorOk = true
  · rw [if_pos hall]
    have hall := all_iff.mp hall
    have none_bad : ¬∃ d ∈ descs, ¬good d := fun ⟨d, hd, hbad⟩ => hbad (hall d hd)
    by_cases hroom : (s.pools.get pool).length + descs.length ≤ 64
    · rw [if_pos hroom]
      have p : s.Prepares { s with pools := s.pools.modify pool fun ds => ds ++ descs } [] :=
        ⟨rfl, rfl, rfl, rfl, by rw [List.append_nil], h, h, hh, hh, rfl, rfl⟩
      refine ⟨p.answerFrame, fun hq => p.chans hq, fun q hq => ?_, fun e => absurd e none_bad, fun _ e => absurd hroom (by omega), fun _ _ => ⟨p.answered, ?_⟩⟩
      · rw [State.finishCommand_pools, Four.get_modify_ne _ _ hq]
      · rw [State.finishCommand_pools, Four.get_modify_same]
    · rw [if_neg hroom]
      exact ⟨State.finishCommand_answerFrame _ _ _, chans _, fun q _ => by rw [kept], fun e => absurd e none_bad,
        fun _ _ => ⟨State.finishCommand_answered hh _ _, kept _⟩, fun _ e => absurd e hroom⟩
  · rw [if_neg hall]
    have some_bad : ¬∀ d ∈ descs, good d := fun e => hall (all_iff.mpr e)
    exact ⟨State.finishCommand_answerFrame _ _ _, chans _, fun q _ => by rw [kept], fun _ => ⟨State.finishCommand_answered hh _ _, kept _⟩,
      fun e => absurd e some_bad, fun e => absurd e some_bad⟩

theorem State.stepCreditHeld_of_some {h : Hand} (hh : s.proc.hand = some h) : s.stepCreditHeld = decide (2 ≤ h.credits) := by
  rw [State.stepCreditHeld, hh]

/-- R118 steps 3 and 4 with a descriptor in the pool. -/
theorem State.reclaimClaim_of_cons {h : Hand} {pool : PoolId} {d : Descriptor} {rest : List Descriptor} (hh : s.proc.hand = some h)
    (hd : s.pools.get pool = d :: rest) : s.reclaimClaim pool
      = { s with pools := s.pools.modify pool fun _ => rest
                 cpl := { s.cpl with queue := s.cpl.queue ++ [.bufferReturned pool d], reserved := s.cpl.reserved - 1 }
                 proc := { s.proc with hand := some { h with credits := h.credits - 1 } } } := by
  simp only [State.reclaimClaim, hd]
  exact State.handSpends_of_some (s := State.place { s with pools := s.pools.modify pool fun _ => rest } (.bufferReturned pool d)) hh

/-- Settles O34. -/
theorem reclaimReturnsTheOldestDescriptor : Obligations.ReclaimReturnsTheOldestDescriptor := by
  intro s pool h hp hh hcredits
  have run : exec .reclaim s = .next (s.reclaimStep pool) := by
    show execReclaim s = _
    rw [execReclaim, hp]
  have held := State.stepCreditHeld_of_some hh
  refine ⟨fun hempty => ⟨s.finishCommand .ok none, ?_, State.finishCommand_answered hh _ _, State.finishCommand_answerFrame _ _ _,
    State.blocksKept_finishCommand _ _, fun hl hq => (s.ledger_iff.mp hl).1.answer_reserved hp _ _ hq⟩, fun d rest hd => ⟨fun h2 => ?_, fun h1 hfree => ?_, fun h1 hfull => ?_⟩⟩
  · rw [run, State.reclaimStep]
    unfold State.reclaimClaim
    simp only [hempty]
    split <;> rfl
  · rw [run, State.reclaimStep, held, if_pos (decide_eq_true h2), State.reclaimClaim_of_cons hh hd]
  · have asks : (s.handReserve).reclaimClaim pool = _ :=
      State.reclaimClaim_of_cons (s := s.handReserve) (h := { h with credits := h.credits + 1 }) (by rw [State.handReserve_of_some hh]) (by rw [State.handReserve_of_some hh]; exact hd)
    rw [run, State.reclaimStep, held, if_neg (by simp [h1])]
    simp only [hd]
    rw [if_pos ((State.le_creditsFree (Nat.le_refl 1)).mpr hfree), asks, State.handReserve_of_some hh]
    have same : ({ h with credits := h.credits + 1 - 1 } : Hand) = h := rfl
    simp only [State.reserve, Nat.add_sub_cancel]
    rw [← hh]
  · rw [run, State.reclaimStep, held, if_neg (by simp [h1])]
    simp only [hd]
    rw [if_neg fun e => absurd ((State.le_creditsFree (Nat.le_refl 1)).mp e) (by omega), State.waitCredit_eq hh h1, if_neg (by omega)]

/-! ## QUERY (R145, R147) -/

/-- Settles O35. -/
theorem queryReportsThenClearsThreeCounters : Obligations.QueryReportsThenClearsThreeCounters := by
  intro s c clear r hp
  obtain ⟨h, hh⟩ := State.hand_of_presented hp
  have run : exec .query s = if (s.ch c).ending.isSome then .next s else .next (s.queryCommand c clear) := by
    show execQuery s = _
    rw [execQuery, hp]
  refine ⟨fun he => by rw [run, if_pos (Option.isSome_iff_ne_none.mpr he)], fun hl hr he hstatus => ?_⟩
  have status : (s.ch c).status c clear = r := by rw [hstatus]; rfl
  have rests := State.rests hl hr he
  have placed : s.Prepares (s.place (.status r)).handSpends [.status r] := by
    simpa using (State.Prepares.place hh (.status r)).trans (State.Prepares.handSpends (s := s.place (.status r)) hh)
  have ch (d : ChannelId) : (s.place (.status r)).handSpends.ch d = s.ch d := by rw [State.handSpends_ch]; rfl
  have pools : (s.place (.status r)).handSpends.pools = s.pools := by rw [State.handSpends_of_some (s := s.place (.status r)) hh]; rfl
  rw [run, if_neg (by rw [he]; exact Bool.false_ne_true), State.queryCommand, status]
  cases clear with
  | false =>
    refine ⟨(s.place (.status r)).handSpends.finishCommand .ok none, rfl, placed.answered, placed.answerFrame, placed.othersKept pools fun d _ => ch d, ?_⟩
    exact (State.finishCommand_ch_of_rests (by rw [ch]; exact rests) _ _).trans (ch c)
  | true =>
    obtain ⟨k, hk⟩ := placed.hand_isSome
    have cleared : s.Prepares ((s.place (.status r)).handSpends.upd c Channel.clearCounters) [.status r] := by
      simpa using placed.trans (State.Prepares.upd hk c Channel.clearCounters)
    have same : ((s.place (.status r)).handSpends.upd c Channel.clearCounters).ch c = (s.ch c).clearCounters := by rw [State.ch_upd_same, ch]
    refine ⟨((s.place (.status r)).handSpends.upd c Channel.clearCounters).finishCommand .ok none, rfl, cleared.answered, cleared.answerFrame, cleared.othersKept pools fun d hd => by rw [State.ch_upd_ne _ _ hd, ch], ?_⟩
    exact (State.finishCommand_ch_of_rests (by rw [same]; exact rests.congr rfl rfl rfl rfl rfl) _ _).trans same

end

end Sys2Proof.Machine
end

section
/-! The settings record and the byte layouts: ranges and codes (R21, R24), the combination rules (R28), and the fields of command records, completion records, frame headers and output rows where chapter 11 puts them. -/

namespace Sys2Proof.Machine

/-! ## Ranges and codes (R21, R24) -/

theorem fieldOk_iff {α : Type} (parse : Nat → Option α) (raw : Option Nat) : fieldOk parse raw = true ↔ ∀ n ∈ raw, (parse n).isSome = true := by
  cases raw <;> simp [fieldOk]

theorem numberIn_isSome (lo hi n : Nat) : (numberIn lo hi n).isSome = true ↔ lo ≤ n ∧ n ≤ hi := by
  unfold numberIn
  split <;> simp [*]

theorem modeOfCode_isSome (n : Nat) : (modeOfCode n).isSome = true ↔ n ≤ 4 := by
  constructor
  · intro h
    unfold modeOfCode at h
    split at h <;> first | omega | cases h
  · intro h
    have codes : ∀ n : Fin 5, (modeOfCode n.val).isSome = true := by decide
    exact codes ⟨n, by omega⟩

theorem depthOfCode_isSome (n : Nat) : (depthOfCode n).isSome = true ↔ n = 10 ∨ n = 12 := by
  constructor
  · intro h
    unfold depthOfCode at h
    split at h
    · exact .inl rfl
    · exact .inr rfl
    · cases h
  · rintro (rfl | rfl) <;> rfl

theorem flipOfCode_isSome (n : Nat) : (flipOfCode n).isSome = true ↔ n ≤ 1 := by
  constructor
  · intro h
    unfold flipOfCode at h
    split at h <;> first | omega | cases h
  · intro h
    have codes : ∀ n : Fin 2, (flipOfCode n.val).isSome = true := by decide
    exact codes ⟨n, by omega⟩

theorem startSourceOfCode_isSome (n : Nat) : (startSourceOfCode n).isSome = true ↔ n ≤ 1 := by
  constructor
  · intro h
    unfold startSourceOfCode at h
    split at h <;> first | omega | cases h
  · intro h
    have codes : ∀ n : Fin 2, (startSourceOfCode n.val).isSome = true := by decide
    exact codes ⟨n, by omega⟩

theorem RawEdits.inRange_iff (e : RawEdits) : e.inRange = true ↔
    (∀ n ∈ e.mode, n ≤ 4) ∧ (∀ n ∈ e.depth, n = 10 ∨ n = 12) ∧ (∀ n ∈ e.flip, n ≤ 1) ∧ (∀ n ∈ e.vStart, n ≤ 3071)
      ∧ (∀ n ∈ e.vRows, 16 ≤ n ∧ n ≤ 3072) ∧ (∀ n ∈ e.hStart, n ≤ 4095) ∧ (∀ n ∈ e.hWidth, 64 ≤ n ∧ n ≤ 4096) ∧ (∀ n ∈ e.gain, n ≤ 255)
      ∧ (∀ n ∈ e.lp, 400 ≤ n ∧ n ≤ 65535) ∧ (∀ n ∈ e.lf, 40 ≤ n ∧ n ≤ 65535) ∧ (∀ n ∈ e.stretch, n ≤ 15) ∧ (∀ n ∈ e.startSource, n ≤ 1)
      ∧ ∀ n ∈ e.exposure, 1 ≤ n ∧ n ≤ 65535 := by
  simp only [RawEdits.inRange, Bool.and_eq_true, fieldOk_iff, modeOfCode_isSome, depthOfCode_isSome, flipOfCode_isSome, startSourceOfCode_isSome,
    numberIn_isSome, Nat.zero_le, true_and, and_assoc]

/-- A number in range is written as it is. -/
theorem bind_numberIn {lo hi : Nat} {raw : Option Nat} (h : fieldOk (numberIn lo hi) raw = true) : raw.bind (numberIn lo hi) = raw := by
  cases raw with
  | none => rfl
  | some n => exact if_pos ((numberIn_isSome lo hi n).mp h)

/-- A code in range is written as what it stands for. -/
theorem map_bind_or {α : Type} {parse : Nat → Option α} {code : α → Nat} {raw : Option Nat} (old : Option α) (hcode : ∀ n a, parse n = some a → code a = n)
    (h : fieldOk parse raw = true) : ((raw.bind parse).or old).map code = raw.or (old.map code) := by
  cases raw with
  | none => rfl
  | some n =>
    obtain ⟨a, ha⟩ := Option.isSome_iff_exists.mp h
    simp [ha, hcode n a ha]

/-- Settles O23. -/
theorem rangeCheckAndEditFollowTheTable : Obligations.RangeCheckAndEditFollowTheTable := by
  refine fun e s => ⟨e.inRange_iff, fun h => ?_⟩
  simp only [RawEdits.inRange, Bool.and_eq_true] at h
  obtain ⟨⟨⟨⟨⟨⟨⟨⟨⟨⟨⟨⟨hmode, hdepth⟩, hflip⟩, hvStart⟩, hvRows⟩, hhStart⟩, hhWidth⟩, hgain⟩, hlp⟩, hlf⟩, hstretch⟩, hsource⟩, hexposure⟩ := h
  refine ⟨map_bind_or _ (fun n a ha => ?_) hmode, map_bind_or _ (fun n a ha => ?_) hdepth, map_bind_or _ (fun n a ha => ?_) hflip,
    map_bind_or _ (fun n a ha => ?_) hsource, ?_, ?_, ?_, ?_, ?_, ?_, ?_, ?_, ?_⟩
  · unfold modeOfCode at ha
    split at ha <;> cases ha <;> rfl
  · unfold depthOfCode at ha
    split at ha <;> cases ha <;> rfl
  · unfold flipOfCode at ha
    split at ha <;> cases ha <;> rfl
  · unfold startSourceOfCode at ha
    split at ha <;> cases ha <;> rfl
  · exact congrArg (Option.or · s.vStart) (bind_numberIn hvStart)
  · exact congrArg (Option.or · s.vRows) (bind_numberIn hvRows)
  · exact congrArg (Option.or · s.hStart) (bind_numberIn hhStart)
  · exact congrArg (Option.or · s.hWidth) (bind_numberIn hhWidth)
  · exact congrArg (Option.or · s.gain) (bind_numberIn hgain)
  · exact congrArg (Option.or · s.lp) (bind_numberIn hlp)
  · exact congrArg (Option.or · s.lf) (bind_numberIn hlf)
  · exact congrArg (Option.or · s.stretch) (bind_numberIn hstretch)
  · exact congrArg (Option.or · s.exposure) (bind_numberIn hexposure)

/-! ## The combination rules (R28) -/

section
variable (s : Settings) (g : Option Geometry)

theorem checkC1_iff : checkC1 s g = true ↔ ∀ x ∈ g, ∀ a ∈ s.vStart, ∀ n ∈ s.vRows, a + n ≤ x.height := by
  unfold checkC1
  cases g <;> cases s.vStart <;> cases s.vRows <;> simp

theorem checkC2_iff : checkC2 s = true ↔ ∀ m ∈ s.mode, ∀ n ∈ s.vRows, m.v ∣ n := by
  unfold checkC2
  cases s.mode <;> cases s.vRows <;> simp [Nat.dvd_iff_mod_eq_zero]

theorem checkC3_iff : checkC3 s = true ↔ ∀ m ∈ s.mode, ∀ n ∈ s.hStart, 8 * m.h ∣ n := by
  unfold checkC3
  cases s.mode <;> cases s.hStart <;> simp [Nat.dvd_iff_mod_eq_zero]

theorem checkC4_iff : checkC4 s = true ↔ ∀ m ∈ s.mode, ∀ n ∈ s.hWidth, 8 * m.h ∣ n := by
  unfold checkC4
  cases s.mode <;> cases s.hWidth <;> simp [Nat.dvd_iff_mod_eq_zero]

theorem checkC5_iff : checkC5 s g = true ↔ ∀ x ∈ g, ∀ a ∈ s.hStart, ∀ n ∈ s.hWidth, a + n ≤ x.width := by
  unfold checkC5
  cases g <;> cases s.hStart <;> cases s.hWidth <;> simp

theorem Geometry.supports_iff (x : Geometry) (d : Depth) : x.supports d = true ↔ (d = .d10 → x.depth10 = true) ∧ (d = .d12 → x.depth12 = true) := by
  cases d <;> simp [Geometry.supports]

theorem checkC6_iff : checkC6 s g = true ↔ ∀ x ∈ g, ∀ d ∈ s.depth, (d = .d10 → x.depth10 = true) ∧ (d = .d12 → x.depth12 = true) := by
  unfold checkC6
  cases g <;> cases s.depth <;> simp [Geometry.supports_iff]

theorem checkC7_iff : checkC7 s g = true ↔ ∀ x ∈ g, ∀ n ∈ s.gain, n ≤ x.maxGain := by
  unfold checkC7
  cases g <;> cases s.gain <;> simp

theorem Geometry.shortestLine_le (x : Geometry) (d : Depth) (lp : Nat) :
    x.shortestLine d ≤ lp ↔ 120 ≤ lp ∧ (d = .d12 → x.width ≤ 4 * (lp - 120)) ∧ (d = .d10 → x.width ≤ 8 * (lp - 120)) := by
  cases d with
  | d12 =>
    simp only [Geometry.shortestLine, true_implies, reduceCtorEq, false_implies, and_true]
    omega
  | d10 =>
    simp only [Geometry.shortestLine, true_implies, reduceCtorEq, false_implies, true_and]
    omega

theorem checkC8_iff : checkC8 s g = true
    ↔ ∀ x ∈ g, ∀ lp ∈ s.lp, ∀ d ∈ s.depth, 120 ≤ lp ∧ (d = .d12 → x.width ≤ 4 * (lp - 120)) ∧ (d = .d10 → x.width ≤ 8 * (lp - 120)) := by
  simp only [← Geometry.shortestLine_le]
  unfold checkC8
  cases g <;> cases s.lp <;> cases s.depth <;> simp

theorem checkC9_iff : checkC9 s = true ↔ ∀ lf ∈ s.lf, ∀ n ∈ s.vRows, n + 24 ≤ lf := by
  unfold checkC9
  cases s.lf <;> cases s.vRows <;> simp

theorem checkC10_iff : checkC10 s = true ↔ ∀ e ∈ s.exposure, ∀ lf ∈ s.lf, ∀ st ∈ s.stretch, e + 4 ≤ lf * (st + 1) := by
  unfold checkC10
  cases s.exposure <;> cases s.lf <;> cases s.stretch <;> simp
end

/-- Settles O24. -/
theorem combinationRulesAreTheTenChecks : Obligations.CombinationRulesAreTheTenChecks := by
  intro s geometry
  simp only [Settings.combinationOk, Bool.and_eq_true, checkC1_iff, checkC2_iff, checkC3_iff, checkC4_iff, checkC5_iff, checkC6_iff, checkC7_iff,
    checkC8_iff, checkC9_iff, checkC10_iff, and_assoc]
  exact Iff.rfl

/-! ## Fields of a byte string -/

theorem byteAt_append_right {a : List Byte} (b : List Byte) {off : Nat} (h : a.length ≤ off) : byteAt (a ++ b) off = byteAt b (off - a.length) := by
  rw [byteAt, byteAt, getD_append_right b h]

theorem leNumber_append_right {a : List Byte} (b : List Byte) {off : Nat} (h : a.length ≤ off) (k : Nat) :
    leNumber (a ++ b) off k = leNumber b (off - a.length) k := by
  induction k generalizing off with
  | zero => rfl
  | succ k ih =>
    have next : off + 1 - a.length = off - a.length + 1 := by omega
    rw [leNumber, leNumber, ih (by omega), next, getD_append_right b h]

theorem leNumber_append_left {a : List Byte} (b : List Byte) {off k : Nat} (h : off + k ≤ a.length) : leNumber (a ++ b) off k = leNumber a off k := by
  induction k generalizing off with
  | zero => rfl
  | succ k ih => rw [leNumber, leNumber, ih (by omega), getD_append_left b (by omega)]

@[simp] theorem byteAt_cons_zero (x : Byte) (b : List Byte) : byteAt (x :: b) 0 = x := rfl

@[simp] theorem byteAt_cons (x : Byte) (b : List Byte) {off : Nat} (h : 1 ≤ off) : byteAt (x :: b) off = byteAt b (off - 1) :=
  byteAt_append_right (a := [x]) b h

@[simp] theorem byteAt_leBytes_append (j n : Nat) (b : List Byte) {off : Nat} (h : j ≤ off) : byteAt (leBytes j n ++ b) off = byteAt b (off - j) := by
  rw [byteAt_append_right b (by rwa [leBytes_length]), leBytes_length]

@[simp] theorem byteAt_zeroBytes_append (j : Nat) (b : List Byte) {off : Nat} (h : j ≤ off) : byteAt (zeroBytes j ++ b) off = byteAt b (off - j) := by
  rw [byteAt_append_right b (by rwa [zeroBytes, List.length_replicate]), zeroBytes, List.length_replicate]

@[simp] theorem leNumber_cons (x : Byte) (b : List Byte) {off : Nat} (h : 1 ≤ off) (k : Nat) : leNumber (x :: b) off k = leNumber b (off - 1) k :=
  leNumber_append_right (a := [x]) b h k

@[simp] theorem leNumber_cons_one (x : Byte) (b : List Byte) : leNumber (x :: b) 0 1 = x.toNat := by simp [leNumber]

@[simp] theorem leNumber_leBytes_append (j n : Nat) (b : List Byte) {off : Nat} (h : j ≤ off) (k : Nat) :
    leNumber (leBytes j n ++ b) off k = leNumber b (off - j) k := by
  rw [leNumber_append_right b (by rwa [leBytes_length]), leBytes_length]

@[simp] theorem leNumber_zeroBytes_append (j : Nat) (b : List Byte) {off : Nat} (h : j ≤ off) (k : Nat) :
    leNumber (zeroBytes j ++ b) off k = leNumber b (off - j) k := by
  rw [leNumber_append_right b (by rwa [zeroBytes, List.length_replicate]), zeroBytes, List.length_replicate]

/-- The number that the bytes of a number hold. -/
theorem leNumber_leBytes (k n : Nat) : leNumber (leBytes k n) 0 k = n % 256 ^ k := by
  induction k generalizing n with
  | zero => rw [leNumber, Nat.pow_zero, Nat.mod_one]
  | succ k ih =>
    rw [leNumber, leBytes, leNumber_cons _ _ (Nat.le_refl 1), ih, List.getD_cons_zero, BitVec.toNat_ofNat]
    show n % 256 + 256 * (n / 256 % 256 ^ k) = n % 256 ^ (k + 1)
    rw [Nat.pow_succ', Nat.mod_mul]

theorem leNumber_here (k n : Nat) (b : List Byte) : leNumber (leBytes k n ++ b) 0 k = n % 256 ^ k := by
  rw [leNumber_append_left b (by rw [leBytes_length]; omega), leNumber_leBytes]

/-- A field reads back as the number it was given. -/
@[simp] theorem leNumber_field (k : Nat) {n : Nat} (b : List Byte) (h : n < 256 ^ k) : leNumber (leBytes k n ++ b) 0 k = n := by
  rw [leNumber_here, Nat.mod_eq_of_lt h]

@[simp] theorem leNumber_field_last (k : Nat) {n : Nat} (h : n < 256 ^ k) : leNumber (leBytes k n) 0 k = n := by
  rw [leNumber_leBytes, Nat.mod_eq_of_lt h]

@[simp] theorem leNumber_word16 (v : BitVec 16) (b : List Byte) : leNumber (leBytes 2 v.toNat ++ b) 0 2 = v.toNat := leNumber_field 2 b v.isLt

@[simp] theorem leNumber_word16_last (v : BitVec 16) : leNumber (leBytes 2 v.toNat) 0 2 = v.toNat := leNumber_field_last 2 v.isLt

@[simp] theorem leNumber_word32 (v : BitVec 32) (b : List Byte) : leNumber (leBytes 4 v.toNat ++ b) 0 4 = v.toNat := leNumber_field 4 b v.isLt

@[simp] theorem leNumber_word64 (v : BitVec 64) (b : List Byte) : leNumber (leBytes 8 v.toNat ++ b) 0 8 = v.toNat := leNumber_field 8 b v.isLt

/-- Bytes of zeros read as 0. -/
@[simp] theorem leNumber_zeroBytes (j off k : Nat) : leNumber (zeroBytes j) off k = 0 := by
  induction k generalizing off with
  | zero => rfl
  | succ k ih =>
    have zero : (zeroBytes j).getD off 0 = 0 := by
      rw [zeroBytes, List.getD_eq_getElem?_getD, List.getElem?_replicate]
      split <;> rfl
    rw [leNumber, ih, zero]
    rfl

@[simp] theorem leNumber_zeroBytes_here (k : Nat) (b : List Byte) : leNumber (zeroBytes k ++ b) 0 k = 0 := by
  rw [leNumber_append_left b (by rw [zeroBytes, List.length_replicate]; omega), leNumber_zeroBytes]

@[simp] theorem halfAt_eq (b : List Byte) (off : Nat) : halfAt b off = BitVec.ofNat 16 (leNumber b off 2) := rfl

@[simp] theorem drop_leBytes_append (j n : Nat) (b : List Byte) {off : Nat} (h : j ≤ off) : (leBytes j n ++ b).drop off = b.drop (off - j) := by
  rw [List.drop_append, leBytes_length, List.drop_of_length_le (by rwa [leBytes_length]), List.nil_append]

@[simp] theorem drop_zeroBytes_append (j : Nat) (b : List Byte) {off : Nat} (h : j ≤ off) : (zeroBytes j ++ b).drop off = b.drop (off - j) := by
  rw [List.drop_append, zeroBytes, List.length_replicate, List.drop_of_length_le (by rwa [List.length_replicate]), List.nil_append]

@[simp] theorem drop_cons (x : Byte) (b : List Byte) {off : Nat} (h : 1 ≤ off) : (x :: b).drop off = b.drop (off - 1) := by
  obtain ⟨n, rfl⟩ : ∃ n, off = n + 1 := ⟨off - 1, by omega⟩
  rfl

@[simp] theorem zeroBytes_length (k : Nat) : (zeroBytes k).length = k := List.length_replicate

@[simp] theorem byteOf_toNat {n : Nat} (h : n < 256) : (byteOf n).toNat = n := by
  rw [byteOf, BitVec.toNat_ofNat]
  exact Nat.mod_eq_of_lt h

/-! ## Command records (11.2) -/

/-- The channel or pool named in a record's target. -/
theorem fourOf_byteOf (t : Fin 4) : fourOf (byteOf t.val) = some t := by
  have small : (byteOf t.val).toNat = t.val := byteOf_toNat (by omega)
  rw [fourOf, dif_pos (by rw [small]; exact t.isLt)]
  exact congrArg some (Fin.ext small)

theorem list_of_length_one_to_three {α : Type} {l : List α} (hlo : 1 ≤ l.length) (hhi : l.length ≤ 3) :
    (∃ a, l = [a]) ∨ (∃ a b, l = [a, b]) ∨ ∃ a b c, l = [a, b, c] := by
  match l with
  | [a] => exact .inl ⟨a, rfl⟩
  | [a, b] => exact .inr (.inl ⟨a, b, rfl⟩)
  | [a, b, c] => exact .inr (.inr ⟨a, b, c, rfl⟩)
  | [] => exact absurd hlo (by simp)
  | _ :: _ :: _ :: _ :: _ => exact absurd hhi (by simp)

/-- Settles O19. -/
theorem commandRecordsReadAsLaidOut : Obligations.CommandRecordsReadAsLaidOut := by
  intro t flags r3 r6 r7 id rest
  refine ⟨fun mask mode depth flip source stretch gain vStart vRows hStart hWidth lp lf exposure => ?_, ?_, ?_, fun pool r9 tag count guardGen => ?_,
    fun tag => ?_, fun gap descs hgap hlo hhi => ?_, ?_, ?_, fun kind b => ?_⟩
  · simp [commandOf, onTarget, fourOf_byteOf, flagAt, editsOf, slotIf, BitVec.testBit_toNat, -Nat.testBit_zero]
  · simp [commandOf, onTarget, fourOf_byteOf]
  · simp [commandOf, onTarget, fourOf_byteOf, flagAt]
  · simp [commandOf, onTarget, fourOf_byteOf, flagAt, captureOf]
  · simp [commandOf, onTarget, fourOf_byteOf]
  · have skip (b : List Byte) {off : Nat} (h : 7 ≤ off) (k : Nat) : leNumber (gap ++ b) off k = leNumber b (off - 7) k := by
      rw [leNumber_append_right b (by omega), hgap]
    obtain ⟨d, rfl⟩ | ⟨d, e, rfl⟩ | ⟨d, e, f, rfl⟩ := list_of_length_one_to_three hlo hhi
    · simp [commandOf, onTarget, fourOf_byteOf, postBuffersOf, descriptorsOf, descriptorAt, skip]
    · simp [commandOf, onTarget, fourOf_byteOf, postBuffersOf, descriptorsOf, descriptorAt, skip]
    · simp [commandOf, onTarget, fourOf_byteOf, postBuffersOf, descriptorsOf, descriptorAt, skip]
  · simp [commandOf, onTarget, fourOf_byteOf]
  · simp [commandOf, onTarget, fourOf_byteOf, flagAt]
  · simp

/-! ## Completion records, frame headers and output rows (11.3, 11.4, R50) -/

theorem FrameFlags.byte_toNat (f : FrameFlags) : f.byte.toNat
    = (if f.short then 1 else 0) + (if f.gap then 2 else 0) + (if f.overflow then 4 else 0) + (if f.aborted then 8 else 0) := by
  obtain ⟨s, g, o, a⟩ := f
  cases s <;> cases g <;> cases o <;> cases a <;> rfl

theorem byteOf_channel (c : Fin 4) : (byteOf c.val).toNat = c.val := byteOf_toNat (by omega)

theorem frameResultBytes_length (run : RunNo) (tag : Tag) (seq : Seq) (d : Option Descriptor) : (frameResultBytes run tag seq d).length = 24 := by
  cases d <;> simp [frameResultBytes]

theorem wordBytes_length (ws : List Nat) : (wordBytes ws).length = 2 * ws.length := by
  induction ws with
  | nil => rfl
  | cons w ws ih =>
    rw [wordBytes, List.flatMap_cons, List.length_append, leBytes_length, ← wordBytes, ih, List.length_cons]
    omega

theorem leNumber_wordBytes (ws : List Nat) (b : List Byte) (h : ∀ w ∈ ws, w < 65536) (j : Nat) (hj : j < ws.length) :
    leNumber (wordBytes ws ++ b) (2 * j) 2 = ws[j] := by
  induction ws generalizing j with
  | nil => exact absurd hj (Nat.not_lt_zero j)
  | cons w ws ih =>
    rw [wordBytes, List.flatMap_cons, List.append_assoc, ← wordBytes]
    cases j with
    | zero => exact leNumber_field 2 _ (h w List.mem_cons_self)
    | succ j =>
      rw [leNumber_leBytes_append 2 w _ (by omega), show 2 * (j + 1) - 2 = 2 * j by omega]
      exact ih (fun x hx => h x (List.mem_cons_of_mem _ hx)) j _

theorem byteAt_zeroBytes (k off : Nat) : byteAt (zeroBytes k) off = 0 := by
  rw [byteAt, zeroBytes, List.getD_eq_getElem?_getD, List.getElem?_replicate]
  split <;> rfl

@[simp] theorem leNumber_half {n : Nat} (b : List Byte) (h : n < 65536) : leNumber (leBytes 2 n ++ b) 0 2 = n := leNumber_field 2 b h

@[simp] theorem leNumber_half_last {n : Nat} (h : n < 65536) : leNumber (leBytes 2 n) 0 2 = n := leNumber_field_last 2 h

@[simp] theorem leNumber_quad {n : Nat} (b : List Byte) (h : n < 4294967296) : leNumber (leBytes 4 n ++ b) 0 4 = n := leNumber_field 4 b h

theorem zeroBytes_eq (k : Nat) : zeroBytes k = List.replicate k 0 := rfl

theorem leNumber_four (x : Byte) (b : List Byte) : leNumber (x :: b) 0 4 = x.toNat + 256 * leNumber b 0 3 := rfl

theorem byteOf_bitNat (b : Bool) : byteOf (bitNat b) = if b then 1 else 0 := by cases b <;> rfl

theorem ResultCode.code_lt (r : ResultCode) : r.code < 256 := by cases r <;> decide

theorem ChannelState.code_le (c : ChannelState) : c.code ≤ 4 := by cases c <;> decide

theorem FaultCause.code_le (c : FaultCause) : c.code ≤ 3 := by cases c <;> simp [FaultCause.code]

/-- Bytes 4 and 5 of STATUS hold what is laid out in them. -/
theorem Status.stateBits_lt (r : Status) (hq : r.queueLength < 8) (hm : r.endMiss < 4) : r.stateBits < 65536 := by
  have hstate := r.state.code_le
  have hgeometry := bitNat_le_one r.geometry.isSome
  have hclear := bitNat_le_one r.clear
  have hcommitted := bitNat_le_one r.committedGen.isSome
  have hlatched := bitNat_le_one r.latchedGen.isSome
  have hactive := bitNat_le_one r.activeGen.isSome
  unfold Status.stateBits
  cases hf : r.faultCause with
  | none =>
    dsimp only
    omega
  | some k =>
    have hfault := k.code_le
    dsimp only
    omega

theorem geometryBits_lt {g : Option Geometry} (h : ∀ x ∈ g, x.width < 8192) : geometryBits g < 65536 := by
  cases g with
  | none => exact Nat.zero_lt_succ _
  | some x =>
    have hwidth := h x rfl
    have h10 := bitNat_le_one x.depth10
    have h12 := bitNat_le_one x.depth12
    show x.width + 16384 * bitNat x.depth10 + 32768 * bitNat x.depth12 < 65536
    omega

/-- Bytes 0 to 31 of a frame header. -/
theorem headerBytes_first (c : ChannelId) (f : Frame) (id : BitVec 32) (hvs : f.snapshot.vStart < 65536) (hvr : f.snapshot.vRows < 65536)
    (hhs : f.snapshot.hStart < 65536) (hhw : f.snapshot.hWidth < 65536) :
    halfAt (headerBytes c f id) 4 = f.run ∧ halfAt (headerBytes c f id) 6 = f.tag.getD 0 ∧ leNumber (headerBytes c f id) 8 4 = f.seq.toNat
      ∧ leNumber (headerBytes c f id) 12 4 = id.toNat ∧ halfAt (headerBytes c f id) 16 = f.readoutGen ∧ halfAt (headerBytes c f id) 18 = f.exposureGen
      ∧ leNumber (headerBytes c f id) 20 2 = f.snapshot.vStart ∧ leNumber (headerBytes c f id) 22 2 = f.snapshot.vRows
      ∧ leNumber (headerBytes c f id) 24 2 = f.snapshot.hStart ∧ leNumber (headerBytes c f id) 26 2 = f.snapshot.hWidth := by
  unfold headerBytes
  dsimp only
  simp only [List.append_assoc, List.cons_append, List.nil_append]
  simp [hvs, hvr, hhs, hhw]

/-- The bytes of a frame header that stand alone. -/
theorem headerBytes_bytes (c : ChannelId) (f : Frame) (id : BitVec 32) :
    byteAt (headerBytes c f id) 0 = byteOf c.val ∧ byteAt (headerBytes c f id) 1 = byteOf f.snapshot.mode.code
      ∧ byteAt (headerBytes c f id) 2 = byteOf f.snapshot.depth.bits ∧ byteAt (headerBytes c f id) 3 = byteOf f.snapshot.flip.code
      ∧ byteAt (headerBytes c f id) 28 = byteOf f.snapshot.gain ∧ byteAt (headerBytes c f id) 29 = byteOf f.snapshot.stretch
      ∧ byteAt (headerBytes c f id) 30 = byteOf f.snapshot.mode.fraction ∧ byteAt (headerBytes c f id) 31 = f.flags.byte := by
  unfold headerBytes
  dsimp only
  simp only [List.append_assoc, List.cons_append, List.nil_append]
  simp

/-- Bytes 32 to 63 of a frame header. -/
theorem headerBytes_last (c : ChannelId) (f : Frame) (id : BitVec 32) (hlp : f.snapshot.lp < 65536) (hlf : f.snapshot.lf < 65536)
    (hexp : f.exposure < 65536) (hw : f.snapshot.outWidth < 65536) (hr : f.snapshot.outRows < 65536) (hpitch : f.snapshot.pitch < 65536)
    (hlost : f.lost < 65536) (hle : f.lostEvents.getD 0 < 65536) :
    leNumber (headerBytes c f id) 32 2 = f.snapshot.lp ∧ leNumber (headerBytes c f id) 34 2 = f.snapshot.lf
      ∧ leNumber (headerBytes c f id) 36 2 = f.exposure ∧ leNumber (headerBytes c f id) 38 2 = f.snapshot.outWidth
      ∧ leNumber (headerBytes c f id) 40 2 = f.snapshot.outRows ∧ leNumber (headerBytes c f id) 42 2 = f.snapshot.pitch
      ∧ leNumber (headerBytes c f id) 44 2 = f.lost ∧ leNumber (headerBytes c f id) 46 2 = f.lostEvents.getD 0
      ∧ (headerBytes c f id).drop 48 = List.replicate 16 0 := by
  unfold headerBytes
  dsimp only
  simp only [List.append_assoc, List.cons_append, List.nil_append]
  simp [hlp, hlf, hexp, hw, hr, hpitch, hlost, hle, zeroBytes_eq 16]

theorem headerBytes_length (c : ChannelId) (f : Frame) (id : BitVec 32) : (headerBytes c f id).length = 64 := by
  unfold headerBytes
  dsimp only
  simp only [List.length_append, List.length_cons, List.length_nil, leBytes_length, zeroBytes_length]

/-- The fields of STATUS that are laid out whole. -/
theorem Status.bytes_fields (r : Status) (phase : Bool) (hq : r.queueLength < 8) (hm : r.endMiss < 4) (hle : r.lostEvents < 65536) (hb : r.backlog < 65536)
    (hs : r.stray < 65536) :
    byteAt (r.bytes phase) 2 = byteOf r.channel.val ∧ leNumber (r.bytes phase) 4 2 = r.stateBits ∧ byteAt (r.bytes phase) 6 = r.headFault.getD 0
      ∧ halfAt (r.bytes phase) 8 = r.run ∧ leNumber (r.bytes phase) 10 4 = r.nextSeq.toNat ∧ halfAt (r.bytes phase) 14 = r.committedGen.getD 0
      ∧ halfAt (r.bytes phase) 16 = r.latchedGen.getD 0 ∧ halfAt (r.bytes phase) 18 = r.activeGen.getD 0 ∧ leNumber (r.bytes phase) 20 2 = r.lostEvents
      ∧ leNumber (r.bytes phase) 22 2 = r.backlog ∧ leNumber (r.bytes phase) 24 2 = r.stray := by
  simp only [Status.bytes, commonPart, genBytes, List.append_assoc, List.cons_append, List.nil_append]
  simp [r.stateBits_lt hq hm, hle, hb, hs]

/-- The code byte of STATUS: the head's fault code, or 0. -/
theorem Status.bytes_code (r : Status) (phase : Bool) :
    byteAt (r.bytes phase) 3 = match r.faultCause with | some (.headFault code) => code | _ => 0 := by
  obtain ⟨channel, run, state, fault, geometry, headFault, seq, committed, latched, active, queue, lost, backlog, stray, miss, clear⟩ := r
  rcases fault with _ | _ | code | _ <;> rfl

theorem Status.bytes_of_no_geometry {r : Status} (phase : Bool) (h : r.geometry = none) :
    byteAt (r.bytes phase) 7 = 0 ∧ leNumber (r.bytes phase) 26 6 = 0 := by
  simp only [Status.bytes, commonPart, genBytes, h, List.append_assoc, List.cons_append, List.nil_append]
  simp
  decide

theorem Status.bytes_of_geometry {r : Status} (phase : Bool) {g : Geometry} (h : r.geometry = some g) (hw : g.width < 8192) (hh : g.height < 65536) :
    byteAt (r.bytes phase) 7 = byteOf g.maxGain ∧ leNumber (r.bytes phase) 26 2 = geometryBits (some g) ∧ leNumber (r.bytes phase) 28 2 = g.height
      ∧ halfAt (r.bytes phase) 30 = g.revision := by
  have bits : geometryBits (some g) < 65536 := geometryBits_lt fun x hx => by obtain rfl := Option.some.inj hx; exact hw
  simp only [Status.bytes, commonPart, genBytes, h, List.append_assoc, List.cons_append, List.nil_append]
  simp [bits, hh]

/-- What bytes 4 and 5 of STATUS hold, as 11.3 lays them out. -/
theorem Status.stateBits_eq (r : Status) : r.stateBits
    = (match r.state with | .off => 0 | .starting => 1 | .running => 2 | .stopping => 3 | .faulted => 4)
      + (if r.geometry.isSome then 8 else 0) + (if r.clear then 16 else 0) + 32 * r.queueLength
      + (match r.faultCause with | none => 0 | some .linkLost => 256 | some (.headFault _) => 512 | some .headSilent => 768) + 1024 * r.endMiss
      + (if r.committedGen.isSome then 4096 else 0) + (if r.latchedGen.isSome then 8192 else 0) + (if r.activeGen.isSome then 16384 else 0) := by
  have weighted (n : Nat) (b : Bool) : n * bitNat b = if b then n else 0 := by cases b <;> simp [bitNat]
  have state : r.state.code = match r.state with | .off => 0 | .starting => 1 | .running => 2 | .stopping => 3 | .faulted => 4 := by cases r.state <;> rfl
  rcases hf : r.faultCause with _ | _ | _ | _ <;> simp only [Status.stateBits, hf, FaultCause.code, state, weighted]

/-- A completion record is 32 bytes, with its kind, the phase and its channel or pool first. -/
theorem Completion.bytes_common (r : Completion) (phase : Bool) : (r.bytes phase).length = 32 ∧ byteAt (r.bytes phase) 1 = if phase then 1 else 0 := by
  have bit : BitVec.ofNat 8 (bitNat phase) = if phase then 1 else 0 := byteOf_bitNat phase
  cases r with
  | status r => simp [Completion.bytes, Status.bytes, commonPart, genBytes, bit, byteOf]
  | _ => simp [Completion.bytes, commonPart, genBytes, frameResultBytes_length, bit, byteOf]

/-- Settles O54. -/
theorem recordsAndHeadersReadBack : Obligations.RecordsAndHeadersReadBack := by
  refine ⟨fun r phase => ?_, fun r phase hslot => ?_, fun r phase hproduced hlost => ?_, fun r phase hq hm hle hb hs hg => ?_, fun r phase => ?_,
    fun r phase hd => ?_, fun c run event seq phase => ?_, fun c run gen seq settling phase => ?_, fun r pitch => ?_, fun pool d phase => ?_,
    fun c f id p hp hvs hvr hhs hhw hgain hst hlp hlf hexp hpitch hlost hle => ?_⟩
  · obtain ⟨hlength, hphase⟩ := r.bytes_common phase
    exact ⟨hlength, hphase, by cases r <;> rfl⟩
  · have code : (byteOf r.code.code).toNat = r.code.code := byteOf_toNat r.code.code_lt
    refine ⟨by simp [Completion.bytes, commonPart], ?_, ?_⟩
    · rw [show byteAt ((Completion.cmdResult r).bytes phase) 3 = byteOf r.code.code by simp [Completion.bytes, commonPart], code]
      cases r.code <;> rfl
    · simp [Completion.bytes, commonPart, genBytes, hslot, byteOf_bitNat, zeroBytes_eq 20]
  · simp [Completion.bytes, commonPart, frameResultBytes, hproduced, hlost, byteOf_channel, FrameFlags.byte_toNat]
  · obtain ⟨channel, bits, headFault, run, seq, committed, latched, active, lost, backlog, stray⟩ := r.bytes_fields phase hq hm hle hb hs
    refine ⟨(congrArg BitVec.toNat channel).trans (byteOf_channel r.channel), r.bytes_code phase, bits.trans r.stateBits_eq, headFault, ?_, run, seq, committed, latched, active, lost, backlog, stray,
      fun hnone => (Status.bytes_of_no_geometry phase hnone).2, fun g hsome => ?_⟩
    · cases hgeo : r.geometry with
      | none => exact congrArg BitVec.toNat (Status.bytes_of_no_geometry phase hgeo).1
      | some g =>
        obtain ⟨hw, hh, hgain⟩ := hg g hgeo
        exact (congrArg BitVec.toNat (Status.bytes_of_geometry phase hgeo hw hh).1).trans (byteOf_toNat hgain)
    · obtain ⟨hw, hh, _⟩ := hg g hsome
      obtain ⟨_, geometry, height, revision⟩ := Status.bytes_of_geometry phase hsome hw hh
      refine ⟨geometry.trans ?_, height, revision⟩
      cases h10 : g.depth10 <;> cases h12 : g.depth12 <;> simp [geometryBits, bitNat, h10, h12]
  · obtain ⟨channel, run, seq, tag, reason, buffer⟩ := r
    cases buffer with
    | none => cases reason <;> simp [Completion.bytes, commonPart, frameResultBytes, DropReason.code, byteOf_channel, byteOf_bitNat, zeroBytes_eq 3, zeroBytes_eq 16]
    | some d => cases reason <;> simp [Completion.bytes, commonPart, frameResultBytes, DropReason.code, byteOf_channel, byteOf_bitNat, leNumber_four]
  · obtain ⟨channel, run, tag, pool, reason, delivered⟩ := r
    have small : delivered < 4294967296 := hd
    cases reason <;> simp [Completion.bytes, commonPart, CloseReason.code, byteOf_channel, leNumber_four, zeroBytes_eq 16, small]
  · rcases event with (_ | _ | _ | _) | (_ | _ | _) <;>
      simp [Completion.bytes, commonPart, ChannelEvent.codes, StopKind.code, FaultCause.code, FaultCause.faultCode, byteOf_channel, zeroBytes_eq 20]
  · simp [Completion.bytes, commonPart, byteOf_channel, byteOf_bitNat, zeroBytes_eq 19, zeroBytes_eq 20]
  · refine ⟨fun hnone => by rw [OutputRow.bytes, hnone]; rfl, fun ws hws hlen hsmall => ?_⟩
    rw [OutputRow.bytes, hws]
    refine ⟨?_, fun j hj => leNumber_wordBytes ws _ hsmall j hj, fun k hk => ?_⟩
    · rw [List.length_append, wordBytes_length, zeroBytes_length]
      omega
    · rw [byteAt_append_right _ (by rwa [wordBytes_length]), byteAt_zeroBytes]
  · simp [Completion.bytes, commonPart, byteOf_channel]
  · subst hp
    obtain ⟨hb0, hb1, hb2, hb3, hb28, hb29, hb30, hb31⟩ := headerBytes_bytes c f id
    obtain ⟨run, tag, seq, hid, readout, exposureGen, vStart, vRows, hStart, hWidth⟩ := headerBytes_first c f id hvs hvr hhs hhw
    have narrow : f.snapshot.outWidth < 65536 := Nat.lt_of_le_of_lt (Nat.div_le_self _ _) hhw
    have short : f.snapshot.outRows < 65536 := Nat.lt_of_le_of_lt (Nat.div_le_self _ _) hvr
    obtain ⟨lp, lf, exposure, outWidth, outRows, pitch, lost, lostEvents, rest⟩ := headerBytes_last c f id hlp hlf hexp narrow short hpitch hlost hle
    rw [hb0, hb1, hb2, hb3, hb28, hb29, hb30, hb31]
    refine ⟨headerBytes_length c f id, byteOf_channel c, ?_, ?_, ?_, run, tag, seq, hid, readout, exposureGen, vStart, vRows, hStart, hWidth, byteOf_toNat hgain,
      byteOf_toNat hst, ?_, f.flags.byte_toNat, lp, lf, exposure, outWidth, outRows, pitch, lost, lostEvents, rest⟩
    · cases f.snapshot.mode <;> rfl
    · cases f.snapshot.depth <;> rfl
    · cases f.snapshot.flip <;> rfl
    · cases f.snapshot.mode <;> rfl

end Sys2Proof.Machine
end

section
/-! The bus writer's writes: what is handed to the host port, and what a record write and an abandoned write do when they are made (R125, R136, R157, R158, R162, R174). -/

namespace Sys2Proof.Machine

section
variable {s t : State} {c : ChannelId}

/-! ## Handing a write -/

theorem State.mayHand_iff (s : State) : s.mayHand = true ↔ (s.regs.iface = .active ∨ s.regs.iface = .quiescing) ∧ s.port.busMastering = true := by
  unfold State.mayHand
  cases s.regs.iface <;> simp [IfState.busWrites]

theorem State.handRecord_of_may (hmay : s.mayHand = true) (hroom : (s.cpl.tail + 1) % s.regs.cplSize.toNat ≠ s.regs.cplHead) (hw : s.cpl.write = none) :
    s.handRecord = { s with cpl := { s.cpl with write := s.oldestRecordWrite } } :=
  if_pos (by simp [hmay, State.ringFull, hroom, hw])

theorem State.handRecord_of_held {w : BusWrite} (hw : s.cpl.write = some w) : s.handRecord = s := if_neg (by simp [hw])

theorem State.handRecord_of_not (h : ¬s.mayHand = true ∨ s.cpl.write ≠ none ∨ s.cpl.queue = [] ∨ (s.cpl.tail + 1) % s.regs.cplSize.toNat = s.regs.cplHead) :
    s.handRecord = s := by
  rcases h with h | h | h | h
  · exact if_neg (by simp [h])
  · exact if_neg (by simp [Option.isNone_iff_eq_none, h])
  · have none : s.oldestRecordWrite = none := by unfold State.oldestRecordWrite; rw [h]
    by_cases hw : s.cpl.write = Option.none
    · have self : { s with cpl := { s.cpl with write := s.oldestRecordWrite } } = s := by rw [none, ← hw]
      unfold State.handRecord
      rw [self, ite_self]
    · exact if_neg (by simp [Option.isNone_iff_eq_none, hw])
  · exact if_neg (by simp [State.ringFull, h])

theorem State.handRow_of_may (hmay : s.mayHand = true) (hw : (s.ch c).rowWrite = none) :
    s.handRow c = s.upd c fun ch => { ch with rowWrite := ch.oldestRowWrite } :=
  if_pos (by simp [hmay, hw])

theorem State.handRow_of_held {w : BusWrite} (hw : (s.ch c).rowWrite = some w) : s.handRow c = s := if_neg (by simp [hw])

theorem State.upd_of_eq {f : Channel → Channel} (h : f (s.ch c) = s.ch c) : s.upd c f = s := by
  rw [State.upd_eq_emit, h, State.emit_self]

theorem State.handRow_of_not (h : ¬s.mayHand = true ∨ (s.ch c).rowWrite ≠ none ∨ (s.ch c).rows = []) : s.handRow c = s := by
  rcases h with h | h | h
  · exact if_neg (by simp [h])
  · exact if_neg (by simp [Option.isNone_iff_eq_none, h])
  · by_cases hw : (s.ch c).rowWrite = none
    · have none : (s.ch c).oldestRowWrite = none := by unfold Channel.oldestRowWrite; rw [h]
      unfold State.handRow
      rw [State.upd_of_eq (by rw [none, ← hw]), ite_self]
    · exact if_neg (by simp [Option.isNone_iff_eq_none, hw])

theorem State.handHeader_of_may (hmay : s.mayHand = true) (hw : (s.ch c).headerWrite = none) :
    s.handHeader c = s.upd c fun ch => { ch with headerWrite := ch.closingHeaderWrite c } :=
  if_pos (by simp [hmay, hw])

theorem State.handHeader_of_held {w : BusWrite} (hw : (s.ch c).headerWrite = some w) : s.handHeader c = s := if_neg (by simp [hw])

theorem Channel.closingHeaderWrite_of_not {ch : Channel} (h : ∀ f ∈ ch.frames.head?, f.stage ≠ .closing) : ch.closingHeaderWrite c = none := by
  unfold Channel.closingHeaderWrite
  cases hf : ch.frames with
  | nil => rfl
  | cons f rest =>
    have notClosing := h f (by rw [hf]; rfl)
    cases hs : f.stage with
    | reading => simp [hs]
    | draining => simp [hs]
    | closing => exact absurd hs notClosing

theorem State.handHeader_of_not (h : ¬s.mayHand = true ∨ (s.ch c).headerWrite ≠ none ∨ (∀ f ∈ (s.ch c).frames.head?, f.stage ≠ .closing)) :
    s.handHeader c = s := by
  rcases h with h | h | h
  · exact if_neg (by simp [h])
  · exact if_neg (by simp [Option.isNone_iff_eq_none, h])
  · by_cases hw : (s.ch c).headerWrite = none
    · unfold State.handHeader
      rw [State.upd_of_eq (by rw [Channel.closingHeaderWrite_of_not h, ← hw]), ite_self]
    · exact if_neg (by simp [Option.isNone_iff_eq_none, hw])

/-- Settles O36. -/
theorem writesAreHandedUnderTheirConditions : Obligations.WritesAreHandedUnderTheirConditions := by
  intro s c may hmay
  rw [← s.mayHand_iff] at hmay
  refine ⟨fun r rest h hw hq hroom => ?_, fun h => ?_, fun r rest f d h hw hrows hfind hhold => ?_, fun h => ?_, fun f rest d h hw hf hstage hhold => ?_, fun h => ?_⟩
  · refine congrArg Host.Outcome.next ((State.handRecord_of_may (hmay.mp h) hroom hw).trans ?_)
    unfold State.oldestRecordWrite
    rw [hq]
    rfl
  · exact congrArg Host.Outcome.next (State.handRecord_of_not (by rwa [hmay] at h))
  · have write : (s.ch c).oldestRowWrite = some (rowBusWrite f r d) := by
      simp only [Channel.oldestRowWrite, hrows, Channel.frameOf, hfind, hhold]
    refine congrArg Host.Outcome.next ((State.handRow_of_may (hmay.mp h) hw).trans ?_)
    rw [State.upd_eq_emit, State.upd_eq_emit, write]
    rfl
  · exact congrArg Host.Outcome.next (State.handRow_of_not (by rwa [hmay] at h))
  · have write : (s.ch c).closingHeaderWrite c = some ⟨d.addr.toNat, headerBytes c f d.id⟩ := by
      simp only [Channel.closingHeaderWrite, hf, hstage, hhold]
    refine congrArg Host.Outcome.next ((State.handHeader_of_may (hmay.mp h) hw).trans ?_)
    rw [State.upd_eq_emit, State.upd_eq_emit, write]
  · exact congrArg Host.Outcome.next (State.handHeader_of_not (by rwa [hmay] at h))

/-! ## The bytes of a write made (R174) -/

/-- A byte inside a write the port reports an error for is the one written or the one before. -/
theorem Memory.read_writeErrored_inside (draw k : Nat) (m : Memory) (a : Nat) (bytes : List Byte) (i : Nat) (h : i < bytes.length) :
    (Memory.writeErrored draw k m a bytes).read (a + i) = bytes[i]? ∨ (Memory.writeErrored draw k m a bytes).read (a + i) = m.read (a + i) := by
  induction bytes generalizing k m a i with
  | nil => simp at h
  | cons x rest ih =>
    unfold Memory.writeErrored
    cases i with
    | zero =>
      rw [Memory.read_writeErrored_outside _ _ _ _ _ _ (by omega)]
      split
      · exact .inl (Memory.read_write_same m a x)
      · exact .inr rfl
    | succ i =>
      have next : a + (i + 1) = a + 1 + i := by omega
      rw [next]
      refine (ih (k + 1) _ (a + 1) i (by simpa using h)).imp id fun e => e.trans ?_
      split
      · exact Memory.read_write_ne m x (by omega)
      · rfl

theorem State.land_landed (s : State) (w : BusWrite) (error : Bool) : s.landed (s.land w error) w error := by
  intro a
  cases error with
  | false =>
    refine ⟨fun _ hlo hhi => ?_, fun e => Bool.noConfusion e, Memory.read_writeBytes_outside _ _ _ _⟩
    have inside : a - w.addr < w.bytes.length := by omega
    have at_a := Memory.read_writeBytes_inside s.mem w.addr w.bytes (a - w.addr) inside
    rw [Nat.add_sub_cancel' hlo, List.getD_eq_getElem?_getD, List.getElem?_eq_getElem inside] at at_a
    rw [List.getElem?_eq_getElem inside]
    exact at_a
  | true =>
    refine ⟨fun e => Bool.noConfusion e, fun _ hlo hhi => ?_, Memory.read_writeErrored_outside _ _ _ _ _ _⟩
    have at_a := Memory.read_writeErrored_inside s.draws 0 s.mem w.addr w.bytes (a - w.addr) (by omega)
    rw [Nat.add_sub_cancel' hlo] at at_a
    exact at_a

theorem State.land_eq (s : State) (w : BusWrite) (error : Bool) : s.land w error = { s with mem := (s.land w error).mem, draws := (s.land w error).draws } := by
  cases error <;> rfl

theorem State.landAbandoned_eq {claim : WriteClaim} {before after : List (WriteClaim × BusWrite)} {w : BusWrite}
    (h : s.port.abandonedWrites = before ++ (claim, w) :: after) (hbefore : ∀ x ∈ before, x.1 ≠ claim) (error : Bool) :
    s.landAbandoned claim error = ({ s with port := { s.port with abandonedWrites := before ++ after } }).land w error := by
  have none : before.find? (fun x => x.1 == claim) = none := List.find?_eq_none.mpr fun x hx => by simpa using hbefore x hx
  have found : s.port.abandoned claim = some (claim, w) := by
    rw [Port.abandoned, h, List.find?_append, none]
    simp
  have erased : s.port.abandonedWrites.erase (claim, w) = before ++ after := by
    rw [h, List.erase_append_right _ fun hx => hbefore _ hx rfl, List.erase_cons_head]
  unfold State.landAbandoned
  rw [found, ← erased]

theorem State.landAbandoned_of_none {claim : WriteClaim} (h : ∀ x ∈ s.port.abandonedWrites, x.1 ≠ claim) (error : Bool) : s.landAbandoned claim error = s := by
  have none : s.port.abandoned claim = none := List.find?_eq_none.mpr fun x hx => by simpa using h x hx
  unfold State.landAbandoned
  rw [none]

/-- Settles O38. -/
theorem abandonedWritesChangeMemoryAlone : Obligations.AbandonedWritesChangeMemoryAlone := by
  intro s i claim error hi
  have runs : exec i s = .next (s.landAbandoned claim error) := by
    obtain ⟨rfl, rfl⟩ | ⟨c, rfl, rfl⟩ | ⟨c, rfl, rfl⟩ := hi <;> rfl
  refine ⟨fun h => by rw [runs, State.landAbandoned_of_none h], fun before w after h hbefore => ⟨_, runs, ?_⟩⟩
  rw [State.landAbandoned_eq h hbefore, State.land_eq]
  exact ⟨State.land_landed _ w error, rfl, rfl⟩

/-! ## COMPLETION_WRITE -/

theorem State.announce_changes (s : State) :
    s.announce = { s with cpl := { s.cpl with armed := s.announce.cpl.armed }, port := { s.port with messages := s.announce.port.messages } } := by
  rw [State.announce_eq]
  split <;> rfl

theorem State.askCredits_of_not (h : s.proc.state ≠ .waitCredit ∨ s.proc.hand = none) : s.askCredits = s := by
  unfold State.askCredits
  rcases h with h | h
  · rw [if_neg h]
  · rw [h]
    exact ite_self _

theorem State.askCredits_changes (s : State) :
    s.askCredits = { s with cpl := { s.cpl with reserved := s.askCredits.cpl.reserved }, proc := s.askCredits.proc } := by
  by_cases hstate : s.proc.state = .waitCredit
  · cases hh : s.proc.hand with
    | none => rw [State.askCredits_of_not (.inr hh)]
    | some h =>
      obtain ⟨want, hwant⟩ : ∃ n, n = if h.credits = 0 then s.creditNeed (commandOf h.bytes) else 1 := ⟨_, rfl⟩
      rw [State.askCredits_of_waiting hstate hh hwant]
      split <;> rfl
  · rw [State.askCredits_of_not (.inl hstate)]

theorem State.creditNeed_congr {a b : State} (h : a.chans = b.chans) (cmd : Command) : a.creditNeed cmd = b.creditNeed cmd := by
  have ch (c : ChannelId) : a.ch c = b.ch c := congrArg (fun k => Four.get k c) h
  cases cmd with
  | stop c abort => exact congrArg (fun k : Channel => if k.state = .faulted then 2 else 1) (ch c)
  | _ => rfl

theorem State.creditNeed_pos (s : State) (cmd : Command) : 1 ≤ s.creditNeed cmd := by
  unfold State.creditNeed
  split
  case h_3 => split <;> omega
  all_goals omega

theorem State.want_pos {h : Hand} {want : Nat} (e : want = if h.credits = 0 then s.creditNeed (commandOf h.bytes) else 1) : 1 ≤ want := by
  rw [e]
  split
  · exact s.creditNeed_pos _
  · exact Nat.le_refl 1

/-- The state with a record write landed and the tail advanced, before the message and the wait for credits. -/
def State.tailAdvanced (s : State) (w : BusWrite) (error : Bool) : State :=
  { s with mem := (s.land w error).mem, draws := (s.land w error).draws, cpl := s.cpl.recordWritten s.regs.cplSize.toNat }

theorem State.recordMade_eq (s : State) (w : BusWrite) (error : Bool) : s.recordMade w error = (s.tailAdvanced w error).announce.askCredits := by
  show State.askCredits (State.announce { s.land w error with cpl := _ }) = _
  rw [State.land_eq]
  rfl

/-- What a record write made can change: memory, the writer, the processor and the messages sent. -/
theorem State.recordMade_changes (s : State) (w : BusWrite) (error : Bool) :
    s.recordMade w error = { s.tailAdvanced w error with
      proc := (s.recordMade w error).proc
      cpl := { s.cpl.recordWritten s.regs.cplSize.toNat with
        armed := (s.tailAdvanced w error).announce.cpl.armed, reserved := (s.recordMade w error).cpl.reserved }
      port := { s.port with messages := (s.tailAdvanced w error).announce.port.messages } } := by
  obtain ⟨p, n, asks⟩ : ∃ p n, s.recordMade w error = { (s.tailAdvanced w error).announce with
      proc := p, cpl := { (s.tailAdvanced w error).announce.cpl with reserved := n } } :=
    ⟨_, _, (s.recordMade_eq w error).trans (State.askCredits_changes _)⟩
  obtain ⟨a, m, tells⟩ : ∃ a m, (s.tailAdvanced w error).announce = { s.tailAdvanced w error with
      cpl := { (s.tailAdvanced w error).cpl with armed := a }, port := { (s.tailAdvanced w error).port with messages := m } } :=
    ⟨_, _, State.announce_changes _⟩
  rw [asks, tells]
  rfl

theorem execCompletionWrite_of_held {w : BusWrite} (h : s.cpl.write = some w) (error : Bool) :
    exec (.completionWrite .current error) s = .next (s.recordMade w error) := by
  show execCompletionWrite .current error s = _
  simp only [execCompletionWrite, State.handRecord_of_held h, h]

theorem execCompletionWrite_of_not (hw : s.cpl.write = none) (h : s.handRecord = s) (error : Bool) :
    exec (.completionWrite .current error) s = .next s := by
  show execCompletionWrite .current error s = _
  simp only [execCompletionWrite, h, hw]

/-- A record that may be handed is handed and made in one step (notes/assumptions/4.md). -/
theorem execCompletionWrite_handRecord (s : State) (error : Bool) :
    exec (.completionWrite .current error) s.handRecord = exec (.completionWrite .current error) s := by
  by_cases h : s.handRecord = s
  · rw [h]
  · cases hw : s.handRecord.cpl.write with
    | some w =>
      rw [execCompletionWrite_of_held hw]
      show _ = execCompletionWrite .current error s
      simp only [execCompletionWrite, hw]
    | none =>
      exfalso
      apply h
      unfold State.handRecord at hw ⊢
      split at hw
      · next may =>
        obtain ⟨-, empty⟩ : _ ∧ s.cpl.write = none := by simpa using may
        have none : s.oldestRecordWrite = none := hw
        rw [if_pos may, none, ← empty]
      · next may => rw [if_neg may]

/-- Settles O37. -/
theorem completionWriteAdvancesTheTail : Obligations.CompletionWriteAdvancesTheTail := by
  intro s w error
  refine ⟨fun hw => ⟨_, execCompletionWrite_of_held hw error, ?_⟩, fun hw h => ?_, ⟨_, rfl, (execCompletionWrite_handRecord s error).symm⟩⟩
  · have changes := s.recordMade_changes w error
    have cpl := (congrArg State.cpl changes).trans rfl
    have tells := State.announce_changes (s.tailAdvanced w error)
    have chans : (s.tailAdvanced w error).announce.chans = s.chans := (congrArg State.chans tells).trans rfl
    have proc : (s.tailAdvanced w error).announce.proc = s.proc := (congrArg State.proc tells).trans rfl
    have told : (s.tailAdvanced w error).announce.cpl = { s.cpl.recordWritten s.regs.cplSize.toNat with
        armed := (s.tailAdvanced w error).announce.cpl.armed } := (congrArg State.cpl tells).trans rfl
    refine ⟨fun a => ?_, by rw [cpl]; rfl, by rw [cpl]; rfl, by rw [cpl]; rfl, by rw [cpl]; rfl, fun h => ?_, fun h => ?_, by rw [changes],
      by rw [changes]; rfl, by rw [changes]; rfl, by rw [changes]; rfl, by rw [changes]; rfl, fun h => ?_, fun hstate h hh want hwant => ?_⟩
    · rw [changes]
      exact State.land_landed s w error a
    · rw [changes, (State.announce_eq (s.tailAdvanced w error)).trans (if_pos h)]
      exact ⟨rfl, rfl⟩
    · rw [changes, (State.announce_eq (s.tailAdvanced w error)).trans (if_neg h)]
      exact ⟨rfl, rfl⟩
    · rw [State.recordMade_eq, State.askCredits_of_not (by rwa [proc])]
      exact ⟨proc, (congrArg CompletionWriter.reserved told).trans rfl⟩
    · have need : (s.tailAdvanced w error).announce.creditNeed (commandOf h.bytes) = s.creditNeed (commandOf h.bytes) :=
        State.creditNeed_congr chans _
      have fits : want ≤ (s.tailAdvanced w error).announce.creditsFree ↔ s.cpl.queue.tail.length + s.cpl.reserved + want ≤ 64 := by
        rw [State.le_creditsFree (State.want_pos hwant), told]
        rfl
      rw [State.recordMade_eq, State.askCredits_of_waiting (want := want) (by rwa [proc]) (by rwa [proc]) (by rwa [need]), proc]
      refine ⟨fun hfree => ?_, fun hfull => ?_⟩
      · rw [if_pos (fits.mpr hfree)]
        exact ⟨(congrArg (fun k : CompletionWriter => k.reserved + want) told).trans rfl, rfl⟩
      · rw [if_neg (fun e => by have := fits.mp e; omega)]
        exact ⟨(congrArg CompletionWriter.reserved told).trans rfl, proc⟩
  · rw [← s.mayHand_iff] at h
    exact execCompletionWrite_of_not hw (State.handRecord_of_not (h.imp id .inr)) error
end
end Sys2Proof.Machine
end

section
/-! The frame timer's triggers and period ends, the head link, and stray rows (R5, R6, R9, R54, R65 to R71, R87). -/

namespace Sys2Proof.Machine

section
variable {s t : State} {c : ChannelId}

/-! ## Triggers (R6, R9) -/

theorem execTrigger_of_low (h : (s.ch c).timer.inputHigh = false) :
    exec (.trigger c) s = .next ((s.upd c fun ch => { ch with timer := { ch.timer with inputHigh := true } }).triggerTaken c) :=
  if_neg (by simp [h])

/-- A best-effort offer, by the credits free (R154). -/
theorem State.offer_of_free (h : s.cpl.queue.length + s.cpl.reserved < 64) (r : Completion) :
    s.offer c r = { s with cpl := { s.cpl with queue := s.cpl.queue ++ [r] } } := by
  have free : 1 ≤ s.creditsFree := (State.le_creditsFree (Nat.le_refl 1)).mpr h
  rw [State.offer, if_pos free]
  rfl

theorem State.offer_of_full (h : 64 ≤ s.cpl.queue.length + s.cpl.reserved) (r : Completion) :
    s.offer c r = s.upd c fun ch => { ch with lostEvents := min (ch.lostEvents + 1) 65535 } := by
  have full : ¬1 ≤ s.creditsFree := fun e => by
    have := (State.le_creditsFree (Nat.le_refl 1)).mp e
    omega
  rw [State.offer, if_neg full]
  rfl

/-- Settles O42. -/
theorem triggerInPeriodIsMissedOrIgnored : Obligations.TriggerInPeriodIsMissedOrIgnored := by
  intro s c
  have taken (hruns : (s.ch c).state.runs = true) (hperiod : (s.ch c).timer.state = .period) :
      (s.upd c fun ch => { ch with timer := { ch.timer with inputHigh := true } }).triggerTaken c
        = if (s.ch c).timer.pending = some .trigger then
            (s.upd c fun ch => { ch with timer := { ch.timer with inputHigh := true } }).offer c (triggerMissedRecord c (s.ch c))
          else s.upd c fun ch => { ch with timer := { ch.timer with inputHigh := true } } := by
    unfold State.triggerTaken
    dsimp only
    rw [State.ch_upd_same, if_pos hruns]
    simp only [hperiod]
    rfl
  refine ⟨fun h => if_pos h, fun hlow hidle => ?_, fun hlow hruns hperiod => ⟨fun h => ?_, fun h hfree => ?_, fun h hfull => ?_⟩⟩
  · rw [execTrigger_of_low hlow]
    unfold State.triggerTaken
    dsimp only
    rw [State.ch_upd_same]
    simp only [hidle, ite_self]
  · rw [execTrigger_of_low hlow, taken hruns hperiod, if_neg h]
  · rw [execTrigger_of_low hlow, taken hruns hperiod, if_pos h]
    exact congrArg Host.Outcome.next (State.offer_of_free (s := s.upd c _) hfree _)
  · rw [execTrigger_of_low hlow, taken hruns hperiod, if_pos h]
    refine congrArg Host.Outcome.next ((State.offer_of_full (s := s.upd c _) hfull _).trans ?_)
    rw [State.upd_eq_emit s, State.emit_upd, State.upd_eq_emit s]

/-! ## The period end (R5, R87) -/

theorem execPeriodEnd_of_due (hperiod : (s.ch c).timer.state = .period) (hdue : (s.ch c).timer.periodLength ≤ (s.ch c).timer.line + 16) :
    exec (.periodEnd c) s = .next (s.periodEnd c) :=
  if_pos ⟨hperiod, by unfold FrameTimer.latchTaken; exact decide_eq_true (by omega)⟩

theorem execPeriodEnd_of_not (h : (s.ch c).timer.state ≠ .period ∨ (s.ch c).timer.line + 16 < (s.ch c).timer.periodLength) :
    exec (.periodEnd c) s = .next s := by
  refine if_neg fun e => ?_
  obtain ⟨hperiod, htaken⟩ := e
  rcases h with h | h
  · exact h hperiod
  · unfold FrameTimer.latchTaken at htaken
    have := of_decide_eq_true htaken
    omega

/-- R87: the end of the last period of a STOPPING channel. -/
theorem State.periodEnd_of_stopping (h : (s.ch c).state = .stopping) :
    s.periodEnd c = (s.emit c { s.ch c with timer := (s.ch c).timer.idled } []).settle c := by
  unfold State.periodEnd
  dsimp only
  rw [if_neg (by simp [h, ChannelState.runs]), State.upd_eq_emit]

/-- With no frame in use the STOPPING channel goes to OFF. -/
theorem Channel.settled_of_stopping {ch : Channel} (hstate : ch.state = .stopping) (hframes : ch.frames = []) (hend : ch.ending = none)
    (hidle : ch.timer.state = .idle) (writes : Bool) :
    ch.settled writes = ch.stoppedOff ∧ ch.settledRecords c writes = [channelEventRecord c ch (.stopped .stop)]
      ∧ (ch.advanced writes).haltsNow = false := by
  have decided : ch.decided writes = ch := by
    cases writes with
    | true => rfl
    | false =>
      show { ch with frames := ch.frames.map _ } = ch
      rw [hframes]
      exact (congrArg (fun l => { ch with frames := l }) hframes.symm).trans rfl
  have advanced : ch.advanced writes = ch := by
    rw [Channel.advanced, decided, hframes]
    rfl
  refine ⟨?_, ?_, ?_⟩
  · rw [Channel.settled, advanced]
    simp only [Channel.ended, hframes, hend, hstate, hidle, and_self, if_true]
  · rw [Channel.settledRecords, advanced, decided, hframes]
    simp only [Channel.advanceRecords, List.length_nil, Channel.endedRecords, hframes, hend, hstate, hidle, and_self, if_true, List.nil_append]
  · rw [advanced]
    simp only [Channel.haltsNow, hframes, hend]

/-- Settles O47. -/
theorem periodEndWaitsOrEndsTheRun : Obligations.PeriodEndWaitsOrEndsTheRun := by
  intro s c
  refine ⟨execPeriodEnd_of_not, fun hperiod hdue => ⟨fun hruns hpending => ?_, fun hstop hagrees hframes => ?_, fun hstop hl hr hframes => ?_⟩⟩
  · rw [execPeriodEnd_of_due hperiod hdue]
    unfold State.periodEnd
    dsimp only
    rw [if_pos hruns]
    simp only [hpending]
  · obtain ⟨-, -, -, -, hend, -⟩ := hagrees
    have noEnd : (s.ch c).ending = none := Option.eq_none_of_isSome_ne fun e => by
      have := hend e
      rw [hperiod] at this
      cases this
    obtain ⟨settled, records, stays⟩ := Channel.settled_of_stopping (c := c) (ch := { s.ch c with timer := (s.ch c).timer.idled }) hstop hframes noEnd rfl
      s.regs.iface.busWrites
    rw [execPeriodEnd_of_due hperiod hdue, State.periodEnd_of_stopping hstop,
      State.settle_eq_emit_of_not_halts (by rw [State.emit_ch_same]; exact stays), State.emit_ch_same, State.emit_regs, settled, records, State.emit_emit,
      State.upd_eq_emit]
    simp only [State.emit, List.append_nil, List.nil_append]
    rfl
  · have accounts := (s.ledger_iff.mp hl).1.chans c
    have noEnd : (s.ch c).ending = none := Option.eq_none_of_isSome_ne fun e => by
      obtain ⟨-, -, -, -, hend, -⟩ := (hl.2.2.2.1 c).1
      have := hend e
      rw [hperiod] at this
      cases this
    have rests := State.rests hl hr noEnd
    have idles : Channel.Rests { s.ch c with timer := (s.ch c).timer.idled } :=
      ⟨rests.free, rests.unaborted, rests.waits, fun _ _ => hframes⟩
    rw [execPeriodEnd_of_due hperiod hdue, State.periodEnd_of_stopping hstop,
      State.settle_of_rests (by rw [State.emit_ch_same]; exact idles), State.upd_eq_emit]
    rfl

/-! ## The head link (R65 to R71) -/

theorem Link.send_of_down {l : Link} (h : l.geometry = none) (m : LinkMsg) : l.send m = l := by
  unfold Link.send Link.up
  rw [h]
  rfl

/-- What an end of run does to the link (R74). -/
theorem State.abortRun_link (s : State) (c : ChannelId) (event : ChannelEvent) : ((s.abortRun c event).ch c).link = (s.ch c).link.send .halt := by
  unfold State.abortRun
  obtain ⟨n, -, e⟩ := State.settle_ch_same ((s.upd c fun ch => { ch.abortFrames with timer := ch.timer.idled, ending := some ⟨event, false⟩ }).send c .halt) c
  rw [e, Channel.settledThen, State.send_eq_emit, State.emit_ch_same, State.ch_upd_same]
  split <;> simp only [Channel.settled_link] <;> rfl

theorem State.faultChannel_link (s : State) (c : ChannelId) (cause : FaultCause) :
    ((s.faultChannel c cause).ch c).link = if (s.ch c).inFreeRun then (s.ch c).link.send .halt else (s.ch c).link := by
  unfold State.faultChannel
  split
  · rw [State.abortRun_link, State.ch_upd_same]
  · rfl

theorem State.linkDown_link (s : State) (c : ChannelId) :
    ((s.linkDown c).ch c).link = { (s.ch c).link with geometry := none, headFault := none } := by
  unfold State.linkDown
  rw [State.faultChannel_link, State.ch_upd_same, Link.send_of_down rfl, ite_self]

theorem Channel.inFreeRun_eq_false {ch : Channel} (h : ch.state.inRun = false ∨ ch.ending ≠ none) : ch.inFreeRun = false := by
  unfold Channel.inFreeRun
  rcases h with h | h
  · rw [h]
    rfl
  · rw [Option.isNone_eq_false_iff.mpr (Option.isSome_iff_ne_none.mpr h), Bool.and_false]

theorem State.linkDown_outside (h : (s.ch c).state.inRun = false ∨ (s.ch c).ending ≠ none) :
    s.linkDown c = s.upd c fun ch => { ch with link := { ch.link with geometry := none, headFault := none } } :=
  State.faultChannel_outside _ c _ (by rw [State.ch_upd_same]; exact Channel.inFreeRun_eq_false h)

theorem helloGeometry_eq (m : HelloMsg) :
    helloGeometry m = if 256 ≤ m.width ∧ m.width ≤ 4096 ∧ 64 ≤ m.height ∧ m.height ≤ 3072 ∧ m.depths ≠ [] ∧ (∀ d ∈ m.depths, d = 10 ∨ d = 12) ∧ m.maxGain ≤ 255 then
      some { width := m.width, height := m.height, depth10 := m.depths.contains 10, depth12 := m.depths.contains 12, maxGain := m.maxGain, revision := m.revision }
    else none := by
  unfold helloGeometry
  simp only [List.all_eq_true, Bool.or_eq_true, beq_iff_eq]

/-- The link once a HELLO is taken: an UP link has gone DOWN first (R68). -/
theorem execHello_link (h : (s.ch c).link.carrier = true) (m : HelloMsg) :
    ∃ (t : State) (l : Link), exec (.hello c m) s = .next t ∧ (t.ch c).link = l.hello m
      ∧ l = { (s.ch c).link with geometry := none, headFault := l.headFault } ∧ ((s.ch c).link.geometry = none → t = s.upd c fun ch => { ch with link := ch.link.hello m })
      ∧ ((s.ch c).state.inRun = false ∨ (s.ch c).ending ≠ none → t = s.upd c fun ch => { ch with link := (t.ch c).link }) := by
  refine ⟨_, if (s.ch c).link.up then { (s.ch c).link with geometry := none, headFault := none } else (s.ch c).link, if_pos h, ?_, ?_, ?_, ?_⟩
  · rw [State.ch_upd_same]
    by_cases hup : (s.ch c).link.up = true
    · simp only [if_pos hup, State.linkDown_link]
    · simp only [if_neg hup]
  · by_cases hup : (s.ch c).link.up = true
    · rw [if_pos hup]
    · rw [if_neg hup, ← Option.eq_none_of_isSome_ne hup]
  · intro hdown
    rw [if_neg (by simp [Link.up, hdown])]
  · intro hout
    rw [State.ch_upd_same]
    by_cases hup : (s.ch c).link.up = true
    · rw [if_pos hup, State.linkDown_outside hout, State.upd_eq_emit s, State.emit_upd, State.emit_ch_same, State.upd_eq_emit s]
    · rw [if_neg hup, State.upd_eq_emit s, State.upd_eq_emit s]

theorem execHeadStatus_of_up (hcarrier : (s.ch c).link.carrier = true) (hup : (s.ch c).link.geometry.isSome = true) (condition : HeadCondition) :
    exec (.headStatus c condition) s = match condition with
      | .ready => .next (s.setHeadFault c none)
      | .fault code => if code = 0 then .next s else .next ((s.setHeadFault c (some code)).faultChannel c (.headFault code))
      | .neither => .next s :=
  if_pos ⟨hcarrier, hup⟩

/-- Settles O49. -/
theorem headMessagesAndCarrierMoveTheLink : Obligations.HeadMessagesAndCarrierMoveTheLink := by
  intro s c m code condition valid hvalid
  refine ⟨fun h => if_neg (by simp [h]), fun h => ?_, fun hcarrier hup => ⟨?_, ?_, ?_, fun hcode hout => ?_, fun hcode => ?_⟩, fun h => ?_, ?_⟩
  · obtain ⟨t, l, runs, link, down, hdown, hout⟩ := execHello_link h m
    have greeted : l.hello m = match helloGeometry m with
      | none => l
      | some g => { l with geometry := some g, headFault := none, endMiss := 0 } := rfl
    rw [helloGeometry_eq, ← link] at greeted
    refine ⟨t, runs, fun hv => ?_, fun hv => ?_, ?_, ?_, hout, ?_⟩
    · rw [greeted, if_pos (hvalid.mp hv)]
      exact ⟨rfl, rfl, rfl⟩
    · rw [if_neg (mt hvalid.mpr hv)] at greeted
      rw [greeted, down]
      refine ⟨rfl, rfl, fun hg => ?_⟩
      rw [hdown hg]
      refine State.upd_of_eq ?_
      have none : helloGeometry m = none := by rw [helloGeometry_eq, if_neg (mt hvalid.mpr hv)]
      simp only [Link.hello, none]
    all_goals
      rw [greeted]
      split <;> rw [down]
      all_goals first | rfl | exact h
  · rw [execHeadStatus_of_up hcarrier hup]
    rfl
  · rw [execHeadStatus_of_up hcarrier hup]
  · rw [execHeadStatus_of_up hcarrier hup]
    rfl
  · rw [execHeadStatus_of_up hcarrier hup]
    simp only [if_neg hcode]
    rw [State.faultChannel_outside _ c _ (by rw [State.setHeadFault, State.ch_upd_same]; exact Channel.inFreeRun_eq_false hout)]
    rfl
  · refine ⟨_, (execHeadStatus_of_up hcarrier hup _).trans (if_neg hcode), ?_⟩
    rw [State.faultChannel_link, State.setHeadFault, State.ch_upd_same]
    unfold Link.send
    split
    · split <;> exact ⟨rfl, rfl⟩
    · exact ⟨rfl, rfl⟩
  · refine if_neg fun e => ?_
    obtain ⟨hcarrier, hup⟩ := e
    rcases h with h | h
    · rw [h] at hcarrier
      cases hcarrier
    · rw [Link.up, h] at hup
      cases hup
  · have runs : exec (.carrierLost c) s = .next (if (s.ch c).link.up then
        (s.upd c fun ch => { ch with link := { ch.link with carrier := false } }).linkDown c
        else s.upd c fun ch => { ch with link := { ch.link with carrier := false } }) := by
      show execCarrierLost c s = _
      unfold execCarrierLost
      dsimp only
      split <;> rfl
    refine ⟨_, runs, ?_⟩
    by_cases hup : (s.ch c).link.up = true
    · rw [if_pos hup, State.linkDown_link, State.ch_upd_same]
      refine ⟨rfl, rfl, fun _ => rfl, fun h => ?_⟩
      have hout : (s.ch c).state.inRun = false ∨ (s.ch c).ending ≠ none := h.resolve_left fun e => by
        rw [Link.up, e] at hup
        cases hup
      rw [State.linkDown_outside (by rw [State.ch_upd_same]; exact hout), State.upd_eq_emit s, State.emit_upd, State.upd_eq_emit s]
    · rw [if_neg hup, State.ch_upd_same]
      refine ⟨rfl, Option.eq_none_of_isSome_ne hup, fun h => absurd h hup, fun _ => ?_⟩
      rw [State.upd_eq_emit s, State.upd_eq_emit s]

/-! ## Stray rows (R54, R79) -/

theorem Channel.rowAccepted_eq_none {ch : Channel} {seq : Seq} {index n : Nat}
    (h : ∀ f, ch.reading = some f → ∀ g ∈ ch.link.geometry, f.seq ≠ seq ∨ index < f.nextRow ∨ f.snapshot.vRows ≤ index ∨ n ≠ g.width) :
    ch.rowAccepted seq index n = none := by
  unfold Channel.rowAccepted
  cases hg : ch.link.geometry with
  | none => rfl
  | some g =>
    cases hf : ch.reading with
    | none => rfl
    | some f =>
      refine if_neg fun accepts => ?_
      simp only [Frame.accepts, Bool.and_eq_true, decide_eq_true_eq] at accepts
      obtain ⟨⟨⟨hseq, hlo⟩, hhi⟩, hwidth⟩ := accepts
      rcases h f hf g hg with h | h | h | h
      · exact h (beq_iff_eq.mp hseq.2)
      · omega
      · omega
      · exact h (beq_iff_eq.mp hwidth)

/-- Settles O50. -/
theorem rowsThatNoFrameAcceptsAreStray : Obligations.RowsThatNoFrameAcceptsAreStray := by
  intro s c seq index samples
  refine ⟨fun h => if_neg (by simp [h]), fun hcarrier h => ?_⟩
  show execRow c seq index samples s = _
  unfold execRow
  rw [if_pos hcarrier, Channel.rowAccepted_eq_none h]
  rfl
end
end Sys2Proof.Machine
end

section
/-! STOP rejected, of a FAULTED channel and without ABORT, CAPTURE and CANCEL (R85 to R89, R97 to R109, R140 to R142). -/

namespace Sys2Proof.Machine

section
variable {s t u : State} {c : ChannelId}

/-! ## Captures of a queue -/

/-- The capture that a tag names is the only one. -/
theorem filter_tag_eq_singleton {caps : List Capture} (hunique : caps.Pairwise fun j k => j.tag ≠ k.tag) {k : Capture} (hk : k ∈ caps) :
    caps.filter (fun j => j.tag == k.tag) = [k] := by
  induction caps with
  | nil => cases hk
  | cons j rest ih =>
    obtain ⟨hhead, htail⟩ := List.pairwise_cons.mp hunique
    rcases List.mem_cons.mp hk with rfl | hmem
    · have none : rest.filter (fun j => j.tag == k.tag) = [] :=
        List.filter_eq_nil_iff.mpr fun i hi e => hhead i hi (beq_iff_eq.mp e).symm
      rw [List.filter_cons_of_pos (p := fun j : Capture => j.tag == k.tag) (beq_self_eq_true _), none]
    · rw [List.filter_cons_of_neg (by simpa using hhead k hmem), ih htail hmem]

theorem filter_tag_and {caps : List Capture} (hunique : caps.Pairwise fun j k => j.tag ≠ k.tag) {k : Capture} (hk : k ∈ caps) (p : Capture → Bool) :
    caps.filter (fun j => j.tag == k.tag && p j) = if p k then [k] else [] := by
  have split : caps.filter (fun j => j.tag == k.tag && p j) = (caps.filter fun j => j.tag == k.tag).filter p := by
    rw [List.filter_filter]
    exact List.filter_congr fun j _ => Bool.and_comm _ _
  rw [split, filter_tag_eq_singleton hunique hk, List.filter_cons]
  cases p k <;> rfl

theorem eq_of_tag {caps : List Capture} (hunique : caps.Pairwise fun j k => j.tag ≠ k.tag) {j k : Capture} (hj : j ∈ caps) (hk : k ∈ caps)
    (h : j.tag = k.tag) : j = k := by
  have mem : j ∈ caps.filter fun j => j.tag == k.tag := List.mem_filter.mpr ⟨hj, beq_iff_eq.mpr h⟩
  rw [filter_tag_eq_singleton hunique hk] at mem
  exact List.mem_singleton.mp mem

/-- A queue whose first standing capture is OPEN is left as it is. -/
theorem openFirst_eq_self {caps : List Capture} (h : ∀ k ∈ (caps.filter fun k => k.state != .draining).head?, k.state = .opened) : openFirst caps = caps := by
  induction caps with
  | nil => rfl
  | cons k rest ih =>
    unfold openFirst
    cases hs : k.state with
    | draining =>
      rw [List.filter_cons_of_neg (by simp [hs])] at h
      simp only [ih h]
    | queued =>
      rw [List.filter_cons_of_pos (by simp [hs])] at h
      have := h k rfl
      rw [hs] at this
      cases this
    | opened => rfl

theorem openFirst_append_of_draining {caps : List Capture} (h : ∀ k ∈ caps, k.state = .draining) (l : List Capture) : openFirst (caps ++ l) = caps ++ openFirst l := by
  induction caps with
  | nil => rfl
  | cons k rest ih =>
    rw [List.cons_append, openFirst]
    simp only [h k List.mem_cons_self, ih fun j hj => h j (List.mem_cons_of_mem _ hj), List.cons_append]

/-- A QUEUED capture joins the queue of a channel that runs (R99, R100). -/
theorem Channel.queueSound.openFirst_append {ch : Channel} (h : ch.queueSound) (hruns : ch.state.runs = true) (pool : PoolId) (tag : Tag) (count : Nat)
    (guardGen : Option Gen) :
    openFirst (ch.captures ++ [newCapture pool tag count guardGen])
      = ch.captures ++ [{ newCapture pool tag count guardGen with state := if ∀ k ∈ ch.captures, k.state = .draining then .opened else .queued }] := by
  by_cases hall : ∀ k ∈ ch.captures, k.state = .draining
  · rw [openFirst_append_of_draining hall, if_pos hall]
    rfl
  · rw [if_neg hall]
    refine openFirst_eq_self fun k hk => ?_
    obtain ⟨-, hfirst, -⟩ := h
    have stands : (ch.captures.filter fun k => k.state != .draining) ≠ [] := fun e => hall fun k hk => by
      simpa using List.filter_eq_nil_iff.mp e k hk
    obtain ⟨first, rest, hstands⟩ := List.exists_cons_of_ne_nil stands
    rw [List.filter_append, hstands] at hk
    exact (hfirst hruns).1 k (by rw [Channel.standingCaptures, hstands]; exact hk)

/-! ## STOP (R85 to R89, R140) -/

theorem execStop_of_presented {abort : Bool} (h : s.presented = some (.stop c abort)) :
    exec .stop s = if (s.ch c).ending.isSome then .next s else .next (s.stopCommand c abort) := by
  show execStop s = _
  rw [execStop, h]

/-- Settles O28. -/
theorem stopRejectedOrClearsAFault : Obligations.StopRejectedOrClearsAFault := by
  intro s c abort hp
  obtain ⟨h, hh⟩ := State.hand_of_presented hp
  have run : (s.ch c).ending = none → exec .stop s = .next (s.stopCommand c abort) := fun he => by
    rw [execStop_of_presented hp, if_neg (by rw [he]; exact Bool.false_ne_true)]
  refine ⟨fun he => by rw [execStop_of_presented hp, if_pos (Option.isSome_iff_ne_none.mpr he)], fun he hstate => ?_, fun hstate he k hk => ?_⟩
  · have rejected : s.stopCommand c abort = s.finishCommand .wrongState none := by
      unfold State.stopCommand
      rcases hstate with hs | ⟨hs, rfl⟩
      · simp only [hs]
      · simp only [hs, Bool.false_eq_true, if_false]
    refine ⟨_, run he, ?_⟩
    rw [rejected]
    exact ⟨State.finishCommand_answered hh _ _, State.finishCommand_answerFrame s _ _, State.blocksKept_finishCommand _ _⟩
  · obtain rfl : h = k := Option.some.inj (hh.symm.trans hk)
    have faulted : s.stopCommand c abort = s.stopFaulted c := by
      unfold State.stopCommand
      simp only [hstate]
    rw [run he, faulted, State.stopFaulted, State.handCredits_of_some hh]
    refine ⟨fun hc hframes => ?_, fun hc hfree => ?_, fun hc hfull => ?_⟩
    · rw [if_neg (by omega)]
      let cleared := Completion.channelEvent c (s.ch c).timer.run (.stopped .cleared) (s.ch c).timer.nextSeq
      have placed : s.Prepares (s.place cleared).handSpends [cleared] := by
        simpa using (State.Prepares.place hh cleared).trans (State.Prepares.handSpends (s := s.place cleared) hh)
      obtain ⟨j, hj⟩ := placed.hand_isSome
      have off : s.Prepares ((s.place cleared).handSpends.upd c fun ch => { ch with state := .off }) [cleared] := by
        simpa using placed.trans (State.Prepares.upd hj c fun ch => { ch with state := .off })
      have ch (d : ChannelId) : (s.place cleared).handSpends.ch d = s.ch d := by rw [State.handSpends_ch]; rfl
      have pools : (s.place cleared).handSpends.pools = s.pools := by rw [State.handSpends_of_some (s := s.place cleared) hh]; rfl
      have same : ((s.place cleared).handSpends.upd c fun ch => { ch with state := .off }).ch c = { s.ch c with state := .off } := by
        rw [State.ch_upd_same, ch]
      refine ⟨_, rfl, off.answerFrame, off.othersKept pools fun d hd => by rw [State.ch_upd_ne _ _ hd, ch], off.answered, ?_⟩
      refine (State.finishCommand_ch_of_rests ?_ _ _).trans same
      exact (congrArg Channel.Rests same).mpr (Channel.rests_of_empty he hframes nofun)
    · rw [if_pos (by omega), State.waitCredit_eq hh hc, if_pos hfree]
    · rw [if_pos (by omega), State.waitCredit_eq hh hc, if_neg (by omega)]

/-- The channel that a STOP without ABORT leaves before its frames go on, and the records it makes. -/
def Channel.stopped (ch : Channel) : Channel :=
  { ch.stopTaken with link := ch.stopLink }

def Channel.stopRecords (ch : Channel) (c : ChannelId) : List Completion :=
  Channel.closeRecords { ch with captures := ch.captures.map fun k => k.drain .stopped } c Capture.drained

theorem Channel.stopRecords_eq (ch : Channel) (c : ChannelId) :
    ch.stopRecords c = (ch.captures.filter fun k => k.inFlight == 0).map (fun k => .captureClosed
      { channel := c, run := ch.timer.run, tag := k.tag, pool := k.pool
        reason := if k.state = .draining then k.reason.getD .cancelled else .stopped, delivered := k.delivered }) := by
  unfold Channel.stopRecords Channel.closeRecords
  rw [List.filter_map, List.map_map]
  have picks : (Capture.drained ∘ fun k : Capture => k.drain .stopped) = fun k => k.inFlight == 0 := funext fun k => k.drained_drain .stopped
  rw [picks]
  refine List.map_congr_left fun k _ => ?_
  show closedRecord c ch.timer.run (k.drain .stopped) = _
  unfold closedRecord Capture.drain
  by_cases hd : k.state = .draining
  · simp only [if_pos hd]
  · simp only [if_neg hd, Option.getD_some]

theorem Channel.stopTaken_captures (ch : Channel) :
    ch.stopTaken.captures = (ch.captures.filter fun k => k.inFlight != 0).map fun k =>
      if k.state = .draining then k else { k with state := .draining, reason := some .stopped } := by
  show (ch.captures.map fun k => k.drain .stopped).filter (fun k => !k.drained) = _
  rw [List.filter_map]
  have picks : ((fun k : Capture => !k.drained) ∘ fun k : Capture => k.drain .stopped) = fun k => k.inFlight != 0 :=
    funext fun k => congrArg not (k.drained_drain .stopped)
  rw [picks]
  rfl

theorem Channel.Rests.stopTaken {ch : Channel} (h : ch.Rests) (link : Link) (hgoes : ch.timer.stopped.state = .idle → ch.frames ≠ []) :
    Channel.Rests { ch.stopTaken with link := link } :=
  ⟨h.free, h.unaborted, h.waits, fun _ => hgoes⟩

/-- What a STOP without ABORT does to a channel of a sound state (R86, R87): with nothing left to end it goes on to OFF. -/
theorem State.stopRun_of_rests (h : (s.ch c).Rests) :
    s.stopRun c = if (s.ch c).timer.stopped.state = .idle ∧ (s.ch c).frames = [] then
        s.emit c (s.ch c).stopped.stoppedOff ((s.ch c).stopRecords c ++ [channelEventRecord c (s.ch c).stopped (.stopped .stop)])
      else s.emit c (s.ch c).stopped ((s.ch c).stopRecords c) := by
  rw [State.stopRun_eq_emit]
  show (s.emit c (s.ch c).stopped ((s.ch c).stopRecords c)).settle c = _
  split
  · next hends =>
    obtain ⟨hidle, hframes⟩ := hends
    obtain ⟨settled, records, stays⟩ := Channel.settled_of_stopping (c := c) (ch := (s.ch c).stopped) rfl hframes h.free hidle s.regs.iface.busWrites
    rw [State.settle_eq_emit_of_not_halts (by rw [State.emit_ch_same]; exact stays), State.emit_ch_same, State.emit_regs, settled, records, State.emit_emit]
  · next hgoes =>
    refine State.settle_of_rests ?_
    rw [State.emit_ch_same]
    exact h.stopTaken _ fun hidle hframes => hgoes ⟨hidle, hframes⟩

/-- R86: a channel that takes a STOP without ABORT has its link UP and its timer running or waiting. -/
theorem Channel.Accounts.stoppable {ch : Channel} (a : ch.Accounts) (hruns : ch.state.runs = true) (hend : ch.ending = none) :
    ch.state.inRun = true ∧ ch.link.up = true ∧ ch.timer.state ≠ .idle := by
  have inRun : ch.state.inRun = true := by
    cases hs : ch.state with
    | off => rw [hs] at hruns; cases hruns
    | starting => rfl
    | running => rfl
    | stopping => rfl
    | faulted => rw [hs] at hruns; cases hruns
  obtain ⟨hup, hidle⟩ := a.free (Channel.inFreeRun_iff.mpr ⟨inRun, hend⟩)
  refine ⟨inRun, hup, fun e => ?_⟩
  rw [hidle e] at hruns
  cases hruns

/-- R74, R86: HALT is sent exactly where an ORDER is out for a frame that has not started. -/
theorem Channel.stopped_link {ch : Channel} (hup : ch.link.up = true) (hidle : ch.timer.state ≠ .idle) :
    ch.stopped.link = { ch.link with sent := ch.link.sent
      ++ (if ch.timer.state = .waiting ∨ ch.timer.periodLength ≤ ch.timer.line + 16 then [.halt] else []) } := by
  show ch.stopLink = _
  unfold Channel.stopLink FrameTimer.orderOutstanding FrameTimer.latchTaken Link.send
  rw [hup]
  cases ht : ch.timer.state with
  | idle => exact absurd ht hidle
  | waiting => simp
  | period =>
    by_cases hlatch : ch.timer.periodLength ≤ ch.timer.line + 16 <;> simp [hlatch]

/-- Settles O29. -/
theorem stopWithoutAbortLetsTheFrameFinish : Obligations.StopWithoutAbortLetsTheFrameFinish := by
  intro s c closed left hp hl hr hruns hend hclosed hleft
  obtain ⟨k, hk⟩ := State.hand_of_presented hp
  have rests := State.rests hl hr hend
  have command : s.stopCommand c false = (s.stopRun c).finishCommand .ok none := by
    unfold State.stopCommand
    cases hs : (s.ch c).state with
    | off => rw [hs] at hruns; cases hruns
    | starting => rfl
    | running => rfl
    | stopping => rw [hs] at hruns; cases hruns
    | faulted => rw [hs] at hruns; cases hruns
  have run : exec .stop s = .next ((s.stopRun c).finishCommand .ok none) := by
    rw [execStop_of_presented hp, if_neg (by rw [hend]; exact Bool.false_ne_true), command]
  obtain ⟨books, _⟩ := s.ledger_iff.mp hl
  obtain ⟨inRun, hup, notIdle⟩ := (books.chans c).stoppable hruns hend
  have records : (s.ch c).stopRecords c = closed := by rw [hclosed, Channel.stopRecords_eq]
  have captures : (s.ch c).stopped.captures = left := by rw [hleft, ← Channel.stopTaken_captures]; rfl
  have link := Channel.stopped_link hup notIdle
  have step := State.stopRun_of_rests rests
  by_cases hends : (s.ch c).timer.stopped.state = .idle ∧ (s.ch c).frames = []
  · obtain ⟨hstops, hframes⟩ := hends
    have waiting : (s.ch c).timer.state = .waiting := by
      unfold FrameTimer.stopped at hstops
      cases ht : (s.ch c).timer.state with
      | idle => exact absurd ht notIdle
      | waiting => rfl
      | period => simp [ht] at hstops
    rw [if_pos ⟨hstops, hframes⟩, records] at step
    have off := State.Prepares.emit hk c (s.ch c).stopped.stoppedOff (closed ++ [channelEventRecord c (s.ch c).stopped (.stopped .stop)])
    have same : ((s.stopRun c).finishCommand .ok none).ch c = (s.ch c).stopped.stoppedOff := by
      rw [step]
      exact (State.finishCommand_ch_of_rests (by rw [State.emit_ch_same]; exact Channel.rests_of_empty hend hframes nofun) _ _).trans (State.emit_ch_same _ _ _ _)
    have timer : (s.ch c).timer.stopped = (s.ch c).timer.idled := by simp only [FrameTimer.stopped, waiting]
    refine ⟨_, run, ?_⟩
    rw [same, step]
    refine ⟨off.answerFrame, off.othersKept rfl fun d hd => State.emit_ch_ne _ _ _ _ hd, link, rfl, rfl, captures, fun e => ?_, fun _ => ⟨timer, fun e => absurd hframes e, fun _ => ⟨?_, rfl, rfl, rfl⟩⟩⟩
    · rw [waiting] at e
      cases e
    · have event : channelEventRecord c (s.ch c).stopped (.stopped .stop) = .channelEvent c (s.ch c).timer.run (.stopped .stop) (s.ch c).timer.nextSeq := by
        show Completion.channelEvent c (s.ch c).timer.stopped.run _ (s.ch c).timer.stopped.nextSeq = _
        rw [timer]
        rfl
      rw [← event]
      exact off.answered
  · rw [if_neg hends, records] at step
    have stays := State.Prepares.emit hk c (s.ch c).stopped closed
    have goes := rests.stopTaken (s.ch c).stopLink fun hidle hframes => hends ⟨hidle, hframes⟩
    have same : ((s.stopRun c).finishCommand .ok none).ch c = (s.ch c).stopped := by
      rw [step]
      exact (State.finishCommand_ch_of_rests (by rw [State.emit_ch_same]; exact goes) _ _).trans (State.emit_ch_same _ _ _ _)
    obtain ⟨hstanding, -⟩ := (books.chans c).run inRun
    refine ⟨_, run, ?_⟩
    rw [same, step]
    refine ⟨stays.answerFrame, stays.othersKept rfl fun d hd => State.emit_ch_ne _ _ _ _ hd, link, rfl, rfl, captures,
      fun e => ⟨stays.answered, rfl, ?_, hstanding, rfl⟩, fun e => ⟨?_, fun _ => ⟨stays.answered, rfl, hstanding, rfl⟩, fun hframes => absurd ⟨?_, hframes⟩ hends⟩⟩
    · show (s.ch c).timer.stopped = _
      simp only [FrameTimer.stopped, e]
    · show (s.ch c).timer.stopped = _
      simp only [FrameTimer.stopped, e]
      rfl
    · simp only [FrameTimer.stopped, e]
      rfl

/-! ## CAPTURE (R97 to R100, R141) -/

theorem State.Books.reserved_of_answered (b : t.Books) (hhand : t.proc.hand = none) : t.cpl.reserved = t.channelCredits := by
  rw [b.funded.reserved, State.handCredits_of_none hhand, Nat.add_zero]

/-- Settles O31. -/
theorem captureJoinsTheQueue : Obligations.CaptureJoinsTheQueue := by
  intro s c pool tag count guardGen hp
  obtain ⟨h, hh⟩ := State.hand_of_presented hp
  have run : exec .capture s = if (s.ch c).ending.isSome then .next s else .next (s.captureCommand c (newCapture pool tag count guardGen)) := by
    show execCapture s = _
    rw [execCapture, hp]
  refine ⟨fun he => by rw [run, if_pos (Option.isSome_iff_ne_none.mpr he)], fun hl hsound he => ?_⟩
  rw [if_neg (by rw [he]; exact Bool.false_ne_true)] at run
  obtain ⟨books, -⟩ := s.ledger_iff.mp hl
  have hasTag : (s.ch c).hasTag tag = true ↔ ∃ k ∈ (s.ch c).captures, k.tag = tag := by simp [Channel.hasTag]
  have rejected (code : ResultCode) (e : s.captureCommand c (newCapture pool tag count guardGen) = s.finishCommand code none) :
      s.answered (s.captureCommand c (newCapture pool tag count guardGen)) code none [] ∧ s.blocksKept (s.captureCommand c (newCapture pool tag count guardGen))
      ∧ (s.regs.iface ≠ .quiescing → (s.captureCommand c (newCapture pool tag count guardGen)).cpl.reserved = s.channelCredits) := by
    rw [e]
    exact ⟨State.finishCommand_answered hh _ _, State.blocksKept_finishCommand _ _, books.answer_reserved hp _ _⟩
  have kept (code : ResultCode) (e : s.captureCommand c (newCapture pool tag count guardGen) = s.finishCommand code none) :
      s.answerFrame (s.captureCommand c (newCapture pool tag count guardGen)) ∧ s.othersKept (s.captureCommand c (newCapture pool tag count guardGen)) c := by
    rw [e]
    exact ⟨State.finishCommand_answerFrame s _ _, State.othersKept_of_blocksKept (State.blocksKept_finishCommand _ _)⟩
  refine ⟨_, run, ?_⟩
  by_cases hlen : (s.ch c).captures.length < 4
  · by_cases htag : (s.ch c).hasTag tag = true
    · have e : s.captureCommand c (newCapture pool tag count guardGen) = s.finishCommand .duplicateTag none := by
        rw [State.captureCommand, if_pos hlen]
        exact if_pos htag
      obtain ⟨frame, others⟩ := kept _ e
      exact ⟨frame, others, fun hfull => absurd hfull (by omega), fun _ _ => rejected _ e, fun _ hnew => absurd (hasTag.mp htag) fun ⟨k, hk, hkt⟩ => hnew k hk hkt⟩
    · let joined : Channel := { s.ch c with captures := (s.ch c).captures ++ [newCapture pool tag count guardGen] }
      have e : s.captureCommand c (newCapture pool tag count guardGen) = (s.emit c joined.opening []).handSpends.finishCommand .ok none := by
        rw [State.captureCommand, if_pos hlen, ← State.upd_eq_emit s c fun ch => Channel.opening { ch with captures := ch.captures ++ [newCapture pool tag count guardGen] }]
        exact if_neg htag
      have emitted := State.Prepares.emit hh c joined.opening []
      have spent : s.Prepares (s.emit c joined.opening []).handSpends [] := emitted.trans (State.Prepares.handSpends (s := s.emit c joined.opening []) hh)
      have ch (d : ChannelId) : (s.emit c joined.opening []).handSpends.ch d = (s.emit c joined.opening []).ch d := State.handSpends_ch _ _
      have pools : (s.emit c joined.opening []).handSpends.pools = s.pools := by rw [State.handSpends_of_some (s := s.emit c joined.opening []) hh]; rfl
      have others : ∀ d, d ≠ c → (s.emit c joined.opening []).handSpends.ch d = s.ch d := fun d hd => (ch d).trans (State.emit_ch_ne _ _ _ _ hd)
      have booked := execCapture_books books run
      rw [e] at booked ⊢
      refine ⟨spent.answerFrame, spent.othersKept pools others, fun hfull => absurd hfull (by omega), fun _ hdup => absurd (hasTag.mpr hdup) htag, fun _ _ => ⟨spent.answered, fun hq => ?_⟩⟩
      have same : ((s.emit c joined.opening []).handSpends.finishCommand .ok none).ch c = joined.opening := by
        rw [spent.ch hq, ch, State.emit_ch_same]
      have opened : joined.opening.captures = (s.ch c).captures ++ [{ newCapture pool tag count guardGen with
          state := if (s.ch c).state.runs = true ∧ (∀ k ∈ (s.ch c).captures, k.state = .draining) then .opened else .queued }] := by
        rw [Channel.opening_eq]
        by_cases hruns : (s.ch c).state.runs = true
        · refine (if_pos hruns).trans ((hsound.openFirst_append hruns pool tag count guardGen).trans ?_)
          simp only [hruns, true_and]
        · refine (if_neg hruns).trans ?_
          rw [if_neg fun e => hruns e.1]
          rfl
      obtain ⟨j, hj⟩ := spent.hand_isSome
      refine ⟨?_, ?_⟩
      · rw [booked.reserved_of_answered (State.finishCommand_hand hj _ _), State.channelCredits_of_chans (spent.chans hq)]
        have credits := State.channelCredits_of_others others
        have held : joined.opening.heldCredits = (s.ch c).heldCredits + 1 := by
          rw [Channel.opening_credits, Channel.heldCredits_eq, Channel.heldCredits_eq]
          show bitNat (s.ch c).standing + ((s.ch c).captures ++ _).length + frameCredits (s.ch c).frames = _
          rw [List.length_append, List.length_singleton]
          omega
        rw [ch, State.emit_ch_same, held] at credits
        omega
      · rw [same, Channel.opening_eq]
        rw [Channel.opening_eq] at opened
        exact congrArg (fun l => { s.ch c with captures := l }) opened
  · have e : s.captureCommand c (newCapture pool tag count guardGen) = s.finishCommand .queueFull none := by
      rw [State.captureCommand, if_neg hlen]
    obtain ⟨frame, others⟩ := kept _ e
    exact ⟨frame, others, fun _ => rejected _ e, fun h => absurd h hlen, fun h => absurd h hlen⟩

/-! ## CANCEL (R107 to R109, R142) -/

theorem Capture.cancel_of_standing {k : Capture} (h : k.state ≠ .draining) : k.cancel = { k with state := .draining, reason := some .cancelled } := by
  unfold Capture.cancel
  cases hs : k.state with
  | queued => exact if_neg h
  | opened => exact if_neg h
  | draining => exact absurd hs h

theorem Capture.cancel_of_draining {k : Capture} (h : k.state = .draining) :
    k.cancel = if k.reason = some .complete then { k with reason := some .cancelled } else k := by
  unfold Capture.cancel
  simp only [h]

/-- R109: a CANCEL of a DRAINING capture. -/
theorem Channel.cancelled_of_draining {ch : Channel} (hsound : ch.queueSound) {k : Capture} (hk : k ∈ ch.captures) (h : k.state = .draining) :
    (ch.cancelled k.tag).opening = { ch with captures := (ch.captures.map fun j =>
      if j.tag = k.tag ∧ j.reason = some .complete then { j with reason := some .cancelled } else j) } := by
  have marked : (ch.cancelled k.tag).captures = ch.captures.map fun j =>
      if j.tag = k.tag ∧ j.reason = some .complete then { j with reason := some .cancelled } else j := by
    refine List.map_congr_left fun j hj => ?_
    by_cases ht : j.tag = k.tag
    · obtain rfl := eq_of_tag hsound.1 hj hk ht
      rw [if_pos ht, Capture.cancel_of_draining h]
      simp only [true_and]
    · rw [if_neg ht, if_neg fun e => ht e.1]
  have states : (ch.cancelled k.tag).captures.filter (fun k => k.state != .draining) = (ch.captures.filter fun k => k.state != .draining).map fun j =>
      if j.tag = k.tag ∧ j.reason = some .complete then { j with reason := some .cancelled } else j := by
    rw [marked, List.filter_map]
    have keeps (j : Capture) : (if j.tag = k.tag ∧ j.reason = some .complete then { j with reason := some .cancelled } else j).state = j.state := by
      split <;> rfl
    exact congrArg (List.map _) (List.filter_congr fun j _ => congrArg (fun st : CaptureState => st != .draining) (keeps j))
  have first (hruns : ch.state.runs = true) : openFirst (ch.cancelled k.tag).captures = (ch.cancelled k.tag).captures := by
    refine openFirst_eq_self fun j hj => ?_
    rw [states, List.head?_map] at hj
    obtain ⟨i, hi, rfl⟩ := Option.map_eq_some_iff.mp hj
    have := (hsound.2.1 hruns).1 i hi
    split <;> exact this
  have opened : (if ch.state.runs then openFirst (ch.cancelled k.tag).captures else (ch.cancelled k.tag).captures) = (ch.cancelled k.tag).captures := by
    split
    · next hruns => exact first hruns
    · rfl
  rw [Channel.opening_eq, ← marked]
  exact congrArg (fun l => { ch with captures := l }) opened

/-- R107, R108: a CANCEL of a QUEUED or OPEN capture: with no frame in flight it closes. -/
theorem Channel.cancelled_of_standing {ch : Channel} (hsound : ch.queueSound) {k : Capture} (hk : k ∈ ch.captures) (h : k.state ≠ .draining) :
    ((ch.cancelled k.tag).without (Capture.closesWith k.tag)).captures = (if k.inFlight = 0 then ch.captures.filter fun j => j.tag != k.tag
        else ch.captures.map fun j => if j.tag = k.tag then { j with state := .draining, reason := some .cancelled } else j)
      ∧ (ch.cancelled k.tag).closeRecords c (Capture.closesWith k.tag) = if k.inFlight = 0 then
          [.captureClosed { channel := c, run := ch.timer.run, tag := k.tag, pool := k.pool, reason := .cancelled, delivered := k.delivered }] else [] := by
  have picks (j : Capture) (hj : j ∈ ch.captures) : Capture.closesWith k.tag (if j.tag = k.tag then j.cancel else j) = (j.tag == k.tag && j.inFlight == 0) := by
    by_cases ht : j.tag = k.tag
    · obtain rfl := eq_of_tag hsound.1 hj hk ht
      simp [Capture.cancel_of_standing h, Capture.closesWith, Capture.drained]
    · have other : (j.tag == k.tag) = false := beq_eq_false_iff_ne.mpr ht
      simp [ht, other, Capture.closesWith]
  have single := filter_tag_and hsound.1 hk fun j => j.inFlight == 0
  refine ⟨?_, ?_⟩
  · show (ch.captures.map _).filter _ = _
    rw [List.filter_map]
    have left : ch.captures.filter ((fun j => !Capture.closesWith k.tag j) ∘ fun j => if j.tag = k.tag then j.cancel else j)
        = if k.inFlight = 0 then ch.captures.filter (fun j => j.tag != k.tag) else ch.captures := by
      split
      · next hnone =>
        refine List.filter_congr fun j hj => ?_
        show (!Capture.closesWith k.tag _) = _
        rw [picks j hj]
        by_cases ht : j.tag = k.tag
        · obtain rfl := eq_of_tag hsound.1 hj hk ht
          simp [hnone]
        · have other : (j.tag == k.tag) = false := beq_eq_false_iff_ne.mpr ht
          simp [ht, other]
      · next hsome =>
        refine List.filter_eq_self.mpr fun j hj => ?_
        show (!Capture.closesWith k.tag _) = true
        rw [picks j hj]
        by_cases ht : j.tag = k.tag
        · obtain rfl := eq_of_tag hsound.1 hj hk ht
          simp [hsome]
        · have other : (j.tag == k.tag) = false := beq_eq_false_iff_ne.mpr ht
          simp [other]
    rw [left]
    split
    · refine (List.map_congr_left fun j hj => if_neg ?_).trans (List.map_id' _)
      simpa using (List.mem_filter.mp hj).2
    · refine List.map_congr_left fun j hj => ?_
      by_cases ht : j.tag = k.tag
      · obtain rfl := eq_of_tag hsound.1 hj hk ht
        rw [if_pos ht, if_pos ht, Capture.cancel_of_standing h]
      · rw [if_neg ht, if_neg ht]
  · show ((ch.captures.map _).filter _).map _ = _
    rw [List.filter_map, (List.filter_congr fun j hj => picks j hj : ch.captures.filter (Capture.closesWith k.tag ∘ _) = _), single]
    by_cases hnone : k.inFlight = 0
    · simp [hnone, closedRecord, Capture.cancel_of_standing h]
      rfl
    · simp [hnone]

/-- Settles O32. -/
theorem cancelClosesOrDrains : Obligations.CancelClosesOrDrains := by
  intro s c tag hp
  obtain ⟨h, hh⟩ := State.hand_of_presented hp
  have run : exec .cancel s = if (s.ch c).closesSoon tag then .next s else .next (s.cancelCommand c tag) := by
    show execCancel s = _
    rw [execCancel, hp]
  refine ⟨fun he ⟨k, hk, hkt, hks⟩ => ?_, fun hsound hfree => ?_⟩
  · have soon : (s.ch c).closesSoon tag = true := by
      unfold Channel.closesSoon
      rw [Option.isSome_iff_ne_none.mpr he, Bool.true_and]
      exact List.any_eq_true.mpr ⟨k, hk, by simp [hkt, hks]⟩
    rw [run, if_pos soon]
  · have notSoon : ¬(s.ch c).closesSoon tag = true := fun soon => by
      unfold Channel.closesSoon at soon
      obtain ⟨hending, hany⟩ := Bool.and_eq_true_iff.mp soon
      obtain ⟨k, hk, hpick⟩ := List.any_eq_true.mp hany
      obtain ⟨hkt, hks⟩ : k.tag = tag ∧ k.state ≠ .draining := by simpa using hpick
      rcases hfree with he | hd
      · rw [he] at hending
        cases hending
      · exact hks (hd k hk hkt)
    rw [if_neg notSoon] at run
    refine ⟨_, run, ?_⟩
    cases hfind : (s.ch c).captures.find? (fun k => k.tag == tag) with
    | none =>
      have unknown : s.cancelCommand c tag = s.finishCommand .noSuchCapture none := by
        unfold State.cancelCommand
        rw [hfind]
      have absent : ∀ k ∈ (s.ch c).captures, k.tag ≠ tag := fun k hk => by simpa using List.find?_eq_none.mp hfind k hk
      rw [unknown]
      exact ⟨State.finishCommand_answerFrame s _ _, State.othersKept_of_blocksKept (State.blocksKept_finishCommand _ _),
        fun _ => ⟨State.finishCommand_answered hh _ _, State.blocksKept_finishCommand _ _⟩, fun k hk hkt => absurd hkt (absent k hk)⟩
    | some k =>
      have hkt : k.tag = tag := by simpa using List.find?_some hfind
      have hk : k ∈ (s.ch c).captures := List.mem_of_find?_eq_some hfind
      subst hkt
      have emitted := State.Prepares.emit hh c
        (Channel.opening (if k.state = .draining then (s.ch c).cancelled k.tag else ((s.ch c).cancelled k.tag).without (Capture.closesWith k.tag)))
        (if k.state = .draining then [] else ((s.ch c).cancelled k.tag).closeRecords c (Capture.closesWith k.tag))
      rw [State.cancelCommand_eq_emit s c hfind]
      refine ⟨emitted.answerFrame, emitted.othersKept rfl fun d hd => State.emit_ch_ne _ _ _ _ hd, fun hnew => absurd rfl (hnew k hk), fun j hj hjt => ?_⟩
      obtain rfl := eq_of_tag hsound.1 hj hk hjt
      have same (hq : s.regs.iface ≠ .quiescing) := (emitted.ch (code := .ok) (gen := none) hq c).trans (State.emit_ch_same _ _ _ _)
      refine ⟨fun hd => ?_, fun hs hnone => ?_, fun hs hsome => ?_⟩
      · rw [if_pos hd, if_pos hd] at emitted same ⊢
        exact ⟨emitted.answered, fun hq => (same hq).trans (Channel.cancelled_of_draining hsound hk hd)⟩
      all_goals
        obtain ⟨captures, records⟩ := Channel.cancelled_of_standing (c := c) hsound hk hs
        have opened : (((s.ch c).cancelled j.tag).without (Capture.closesWith j.tag)).opening = { s.ch c with
            captures := if (s.ch c).state.runs then openFirst (((s.ch c).cancelled j.tag).without (Capture.closesWith j.tag)).captures
              else (((s.ch c).cancelled j.tag).without (Capture.closesWith j.tag)).captures } := Channel.opening_eq _
        rw [captures] at opened
        rw [if_neg hs, if_neg hs, records] at emitted same ⊢
      · rw [if_pos hnone] at emitted opened same ⊢
        refine ⟨emitted.answered, fun hq => (same hq).trans (opened.trans ?_)⟩
        cases (s.ch c).state.runs <;> rfl
      · rw [if_neg hsome] at emitted opened same ⊢
        refine ⟨emitted.answered, fun hq => (same hq).trans (opened.trans ?_)⟩
        cases (s.ch c).state.runs <;> rfl
end
end Sys2Proof.Machine
end

section
/-! The frame start: the latched set, the frame context, the capture that takes the frame, and the offer of GEN_APPLIED (R5, R8, R11 to R16, R27, R35 to R42, R101 to R104, R117, R154). -/

namespace Sys2Proof.Machine

section
variable {s t v : State} {c : ChannelId} {k : GoverningSet} {f : Frame}

/-! ## A capture takes a frame (R101 to R104, R117) -/

theorem State.takeFrame_of_unwanted (h : v.frameAsks c f = false) : v.takeFrame c f = v.emit c ((v.ch c).withFrame f (v.ch c).captures) [] := by
  have assigned : v.assign c f = (v, f) := by
    unfold State.assign State.frameAsks at *
    cases hq : (v.ch c).openCapture with
    | none => rfl
    | some q =>
      simp only [hq] at h
      simp only [h, Bool.false_eq_true, if_false]
  unfold State.takeFrame
  simp only [assigned]
  rw [State.upd_eq_emit]
  rfl

theorem State.takeFrame_of_full (h : v.frameAsks c f = true) (hfull : 64 ≤ v.cpl.queue.length + v.cpl.reserved) :
    v.takeFrame c f = v.emit c { (v.ch c).withFrame f (v.ch c).captures with lostEvents := satAdd (v.ch c).lostEvents } [] := by
  have full : ¬1 ≤ v.creditsFree := fun e => by
    have := (State.le_creditsFree (Nat.le_refl 1)).mp e
    omega
  have assigned : v.assign c f = (v.loseEvent c, f) := by
    unfold State.assign State.frameAsks at *
    cases hq : (v.ch c).openCapture with
    | none =>
      simp only [hq] at h
      cases h
    | some q =>
      simp only [hq] at h
      simp only [h, if_true, if_neg full]
  unfold State.takeFrame
  simp only [assigned]
  rw [State.loseEvent, State.upd_eq_emit v, State.emit_upd]
  rfl

/-- The state in which the OPEN capture `q` has taken a frame, before its buffer is taken (R102). -/
def State.takenBy (v : State) (c : ChannelId) (q : Capture) : State :=
  (v.reserve 1).upd c fun ch => ch.onCapture q.tag fun k => { k with inFlight := k.inFlight + 1 }

/-- A frame taken by the capture `q`, before its buffer is taken. -/
def Frame.takenBy (f : Frame) (q : Capture) : Frame :=
  { f with credit := true, tag := some q.tag }

theorem State.assign_of_free {q : Capture} (hq : (v.ch c).openCapture = some q) (hwants : q.wants f.readoutGen = true)
    (hfree : v.cpl.queue.length + v.cpl.reserved < 64) :
    v.assign c f = if f.settling then (v.takenBy c q, { f.takenBy q with dropReason := some .settling }) else (v.takenBy c q).bufferTake c q (f.takenBy q) := by
  have free : 1 ≤ v.creditsFree := (State.le_creditsFree (Nat.le_refl 1)).mpr hfree
  unfold State.assign
  rw [hq]
  simp only [hwants, if_true, if_pos free]
  rfl

theorem Capture.bufferTaken_counted (j : Capture) :
    Capture.bufferTaken { j with inFlight := j.inFlight + 1 } = if j.count = 0 then { j with inFlight := j.inFlight + 1 }
      else if j.remaining ≤ 1 then { j with inFlight := j.inFlight + 1, remaining := 0, state := .draining, reason := some .complete }
      else { j with inFlight := j.inFlight + 1, remaining := j.remaining - 1 } := by
  unfold Capture.bufferTaken
  dsimp only
  by_cases hcount : j.count = 0
  · rw [if_pos hcount, if_pos hcount]
  · rw [if_neg hcount, if_neg hcount]
    by_cases hlast : j.remaining ≤ 1
    · have zero : j.remaining - 1 = 0 := by omega
      rw [if_pos hlast, if_pos zero, zero]
    · rw [if_neg hlast, if_neg (by omega)]

/-- `t` is `v` with frame `f` taken by the OPEN capture `q` as `f'`: nothing joins the holding queue, and of the channel the captures alone move besides. -/
structure State.Takes (v t : State) (c : ChannelId) (k : GoverningSet) (q : Capture) (f f' : Frame) : Prop where
  taken : v.frameTaken t c k q f'
  queue : t.cpl.queue = v.cpl.queue
  same : f' = { f with tag := f'.tag, hold := f'.hold, credit := f'.credit, dropReason := f'.dropReason }
  channel : ∃ caps, t.ch c = (v.ch c).withFrame f' caps

theorem State.takenBy_captures (v : State) (c : ChannelId) (q : Capture) :
    ((v.takenBy c q).ch c).captures = (v.ch c).captures.map fun j => if j.tag = q.tag then { j with inFlight := j.inFlight + 1 } else j := by
  rw [State.takenBy, State.ch_upd_same]
  rfl

theorem State.takenBy_ch (v : State) (c : ChannelId) (q : Capture) : (v.takenBy c q).ch c = { v.ch c with captures := ((v.takenBy c q).ch c).captures } := by
  rw [State.takenBy, State.ch_upd_same]
  rfl

theorem State.takeFrame_eq {u : State} {f' : Frame} (h : v.assign c f = (u, f')) : v.takeFrame c f = u.upd c fun ch =>
    { ch with frames := ch.frames ++ [f'], combiner := Combiner.fresh f.ctx 0 f.snapshot.outWidth } := by
  unfold State.takeFrame
  rw [h]

/-- The captures of a channel that runs, after a buffer is taken for the frame of capture `q` (R104). -/
theorem State.takenBy_counted (hruns : (v.ch c).state.runs = true) (q : Capture) :
    (((v.takenBy c q).ch c).onCapture q.tag Capture.bufferTaken).opening.captures = openFirst ((v.ch c).captures.map fun j =>
      if j.tag ≠ q.tag then j
      else if j.count = 0 then { j with inFlight := j.inFlight + 1 }
      else if j.remaining ≤ 1 then { j with inFlight := j.inFlight + 1, remaining := 0, state := .draining, reason := some .complete }
      else { j with inFlight := j.inFlight + 1, remaining := j.remaining - 1 }) := by
  have runs : ((v.takenBy c q).ch c).state.runs = true := by
    rw [State.takenBy_ch]
    exact hruns
  rw [Channel.opening_eq]
  refine (if_pos runs).trans (congrArg openFirst ?_)
  show ((v.takenBy c q).ch c).captures.map _ = _
  rw [State.takenBy_captures, List.map_map]
  refine List.map_congr_left fun j _ => ?_
  rw [← Capture.bufferTaken_counted j]
  show (if Capture.tag (if j.tag = q.tag then _ else _) = q.tag then Capture.bufferTaken (if j.tag = q.tag then _ else _) else (if j.tag = q.tag then _ else _)) = _
  by_cases ht : j.tag = q.tag
  · rw [if_neg (not_not_intro ht), if_pos ht]
    exact if_pos ht
  · rw [if_pos ht, if_neg ht]
    exact if_neg ht

section
variable {q : Capture} (hq : (v.ch c).openCapture = some q) (hwants : q.wants f.readoutGen = true) (hfree : v.cpl.queue.length + v.cpl.reserved < 64)
  (hhold : f.hold = .nothing)
include hq hwants hfree

/-- R103: a settling frame takes no descriptor. -/
theorem State.takeFrame_of_settling (hsettling : f.settling = true) (hhold : f.hold = .nothing) :
    v.Takes (v.takeFrame c f) c k q f { f.takenBy q with dropReason := some .settling } := by
  rw [State.takeFrame_eq ((State.assign_of_free hq hwants hfree).trans (if_pos hsettling))]
  refine ⟨⟨rfl, rfl, rfl, fun _ _ => rfl, fun _ => ⟨rfl, hhold, rfl⟩, fun e => ?_, fun _ _ e => ?_, fun _ => ?_, nofun⟩, rfl, rfl, ((v.takenBy c q).ch c).captures, ?_⟩
  · exact absurd (hsettling.symm.trans e) (by decide)
  · exact absurd (hsettling.symm.trans e) (by decide)
  · rw [State.ch_upd_same]
    exact State.takenBy_captures v c q
  · rw [State.ch_upd_same, State.takenBy_ch]
    rfl

theorem State.assign_of_not_settling (hsettling : f.settling = false) : v.assign c f = (v.takenBy c q).bufferTake c q (f.takenBy q) :=
  (State.assign_of_free hq hwants hfree).trans (if_neg (by rw [hsettling]; exact Bool.false_ne_true))

/-- R117: with an empty pool the frame is NO_BUFFER. -/
theorem State.takeFrame_of_empty (hsettling : f.settling = false) (hpool : v.pools.get q.pool = []) (hhold : f.hold = .nothing) :
    v.Takes (v.takeFrame c f) c k q f { f.takenBy q with dropReason := some .noBuffer } := by
  have none : (v.takenBy c q).bufferTake c q (f.takenBy q) = (v.takenBy c q, { f.takenBy q with dropReason := some .noBuffer }) := by
    unfold State.bufferTake
    rw [show (v.takenBy c q).pools.get q.pool = [] from hpool]
  rw [State.takeFrame_eq ((State.assign_of_not_settling hq hwants hfree hsettling).trans none)]
  refine ⟨⟨rfl, rfl, rfl, fun _ _ => rfl, fun e => ?_, fun _ _ => ⟨rfl, hhold, rfl⟩, fun _ _ _ e => absurd (hpool.symm.trans e) nofun, fun _ => ?_, nofun⟩, rfl, rfl, ((v.takenBy c q).ch c).captures, ?_⟩
  · exact absurd (hsettling.symm.trans e) (by decide)
  · rw [State.ch_upd_same]
    exact State.takenBy_captures v c q
  · rw [State.ch_upd_same, State.takenBy_ch]
    rfl

/-- R117: an oldest descriptor shorter than the frame size leaves the pool as BUFFER_SMALL. -/
theorem State.takeFrame_of_short (hsnap : f.snapshot = k.fields.snapshot) (hsettling : f.settling = false) {d : Descriptor} {rest : List Descriptor}
    (hpool : v.pools.get q.pool = d :: rest) (hshort : d.length.toNat < k.fields.snapshot.frameSize) :
    v.Takes (v.takeFrame c f) c k q f { f.takenBy q with hold := .short d, dropReason := some .bufferSmall } := by
  have small : (v.takenBy c q).bufferTake c q (f.takenBy q)
      = ({ v.takenBy c q with pools := v.pools.modify q.pool fun _ => rest }, { f.takenBy q with hold := .short d, dropReason := some .bufferSmall }) := by
    unfold State.bufferTake
    rw [show (v.takenBy c q).pools.get q.pool = d :: rest from hpool]
    exact if_pos (by rw [← hsnap] at hshort; exact hshort)
  rw [State.takeFrame_eq ((State.assign_of_not_settling hq hwants hfree hsettling).trans small)]
  refine ⟨⟨rfl, rfl, rfl, fun p hp => Four.get_modify_ne _ _ hp, fun e => ?_, fun _ e => absurd (hpool.symm.trans e) nofun, fun d' rest' _ e => ?_, fun _ => ?_,
    nofun⟩, rfl, rfl, ((v.takenBy c q).ch c).captures, ?_⟩
  · exact absurd (hsettling.symm.trans e) (by decide)
  · obtain ⟨rfl, rfl⟩ := List.cons.inj (hpool.symm.trans e)
    exact ⟨Four.get_modify_same _ _ _, fun _ => ⟨rfl, rfl⟩, fun hlong => absurd hshort (Nat.not_lt.mpr hlong)⟩
  · rw [State.ch_upd_same]
    exact State.takenBy_captures v c q
  · rw [State.ch_upd_same]
    exact congrArg (fun ch : Channel => ch.withFrame { f.takenBy q with hold := .short d, dropReason := some .bufferSmall } ch.captures) (State.takenBy_ch v c q)

/-- R104, R117: an oldest descriptor long enough is the frame's buffer. -/
theorem State.takeFrame_of_long (hruns : (v.ch c).state.runs = true) (hsnap : f.snapshot = k.fields.snapshot) (hsettling : f.settling = false)
    (hreason : f.dropReason = none) {d : Descriptor} {rest : List Descriptor} (hpool : v.pools.get q.pool = d :: rest)
    (hlong : k.fields.snapshot.frameSize ≤ d.length.toNat) :
    v.Takes (v.takeFrame c f) c k q f { f.takenBy q with hold := .buffer d } := by
  have long : (v.takenBy c q).bufferTake c q (f.takenBy q)
      = (State.upd { v.takenBy c q with pools := v.pools.modify q.pool fun _ => rest } c fun ch => (ch.onCapture q.tag Capture.bufferTaken).opening,
          { f.takenBy q with hold := .buffer d }) := by
    unfold State.bufferTake
    rw [show (v.takenBy c q).pools.get q.pool = d :: rest from hpool]
    exact if_neg (by rw [← hsnap] at hlong; exact Nat.not_lt.mpr hlong)
  have opened : (((v.takenBy c q).ch c).onCapture q.tag Capture.bufferTaken).opening
      = { v.ch c with captures := (((v.takenBy c q).ch c).onCapture q.tag Capture.bufferTaken).opening.captures } := by
    rw [State.takenBy_ch, Channel.opening_eq]
    rfl
  rw [State.takeFrame_eq ((State.assign_of_not_settling hq hwants hfree hsettling).trans long)]
  refine ⟨⟨rfl, rfl, rfl, fun p hp => Four.get_modify_ne _ _ hp, fun e => ?_, fun _ e => absurd (hpool.symm.trans e) nofun, fun d' rest' _ e => ?_,
    fun e => absurd hreason e, fun _ => ?_⟩, rfl, rfl, (((v.takenBy c q).ch c).onCapture q.tag Capture.bufferTaken).opening.captures, ?_⟩
  · exact absurd (hsettling.symm.trans e) (by decide)
  · obtain ⟨rfl, rfl⟩ := List.cons.inj (hpool.symm.trans e)
    exact ⟨Four.get_modify_same _ _ _, fun hsmall => absurd hlong (Nat.not_le.mpr hsmall), fun _ => ⟨hreason, rfl⟩⟩
  · rw [State.ch_upd_same, State.ch_upd_same]
    exact State.takenBy_counted hruns q
  · rw [State.ch_upd_same, State.ch_upd_same]
    exact congrArg (fun ch : Channel => ch.withFrame { f.takenBy q with hold := .buffer d } ch.captures) opened

/-- What the OPEN capture does with a frame it wants, a credit being free (R102 to R104, R117). -/
theorem State.takeFrame_of_free (hruns : (v.ch c).state.runs = true) (hsnap : f.snapshot = k.fields.snapshot) (hhold : f.hold = .nothing)
    (hreason : f.dropReason = none) : ∃ f', v.Takes (v.takeFrame c f) c k q f f' := by
  cases hsettling : f.settling with
  | true => exact ⟨_, State.takeFrame_of_settling hq hwants hfree hsettling hhold⟩
  | false =>
    cases hpool : v.pools.get q.pool with
    | nil => exact ⟨_, State.takeFrame_of_empty hq hwants hfree hsettling hpool hhold⟩
    | cons d rest =>
      rcases Nat.lt_or_ge d.length.toNat k.fields.snapshot.frameSize with hshort | hlong
      · exact ⟨_, State.takeFrame_of_short hq hwants hfree hsnap hsettling hpool hshort⟩
      · exact ⟨_, State.takeFrame_of_long hq hwants hfree hruns hsnap hsettling hreason hpool hlong⟩
end

end
end Sys2Proof.Machine
end

section
/-! What a frame start makes of its channel, the credits and the holding queue, by the credits free (R11 to R16, R35 to R42, R101, R102, R154). -/

namespace Sys2Proof.Machine

section
variable {s t u v : State} {c : ChannelId} {k : GoverningSet} {f : Frame}

/-- R11, R35: the state of a frame start before its frame is taken. -/
def State.begun (s : State) (c : ChannelId) (k : GoverningSet) : State :=
  s.emit c ((s.ch c).frameBegun k) []

/-- R42: whether GEN_APPLIED is due at a frame start of the set `k`. -/
def Channel.reportDue (ch : Channel) (k : GoverningSet) : Bool :=
  genAppliedDue ch.table.previous k

/-- R40: the GEN_APPLIED of a frame start of the set `k`. -/
def Channel.startReport (ch : Channel) (c : ChannelId) (k : GoverningSet) : Completion :=
  genAppliedRecord c ch.timer.run k ch.timer.nextSeq (settlingAfter ch.table.previous k)

/-- R101: the OPEN capture wants a frame of the set `k`. -/
def Channel.wantsFrame (ch : Channel) (k : GoverningSet) : Bool :=
  match ch.openCapture with
  | none => false
  | some q => q.wants k.gen

theorem State.frameStart_eq (hk : (s.ch c).table.latched = some k) :
    s.frameStart c =
      if (s.ch c).frames.length < 2 then
        if (s.ch c).reportDue k then
          if (s.begun c k).creditsFree = 1 ∧ (s.ch c).wantsFrame k = true then
            if Config.offerBeforeFrameCredit s.draws then ((s.begun c k).drawn.offer c ((s.ch c).startReport c k)).takeFrame c ((s.ch c).startingFrame k)
            else ((s.begun c k).drawn.takeFrame c ((s.ch c).startingFrame k)).offer c ((s.ch c).startReport c k)
          else ((s.begun c k).offer c ((s.ch c).startReport c k)).takeFrame c ((s.ch c).startingFrame k)
        else (s.begun c k).takeFrame c ((s.ch c).startingFrame k)
      else if (s.ch c).reportDue k then ((s.begun c k).backlog c).offer c ((s.ch c).startReport c k) else (s.begun c k).backlog c := by
  have begun : ((s.upd c fun ch =>
      { ch with state := ch.state.frameStarted (s.ch c).timer.nextSeq, timer := ch.timer.frameStarted k, table := ch.table.frameStarted k }).send c .mark) = s.begun c k := by
    rw [State.upd_eq_emit, State.send, State.emit_upd]
    rfl
  have asks : (s.begun c k).frameAsks c ((s.ch c).startingFrame k) = (s.ch c).wantsFrame k := by
    unfold State.frameAsks Channel.wantsFrame State.begun
    rw [State.emit_ch_same]
    rfl
  unfold State.frameStart
  simp only [hk]
  rw [begun, ← asks]
  rfl

/-! ## The state in which the frame is taken -/

/-- A counter that saturates (R155), after `lost` more counts. -/
def satAddTimes : Nat → Nat → Nat
  | 0, n => n
  | lost + 1, n => satAdd (satAddTimes lost n)

theorem satAddTimes_succ (lost n : Nat) : satAddTimes (lost + 1) n = satAdd (satAddTimes lost n) := rfl

/-- `v` is `s` with the frame start begun, the GEN_APPLIED in the queue where `offered`, and `lost` lost events counted. -/
structure State.Ready (s v : State) (c : ChannelId) (k : GoverningSet) (offered : Bool) (lost : Nat) : Prop where
  cpl : v.cpl = { s.cpl with queue := s.cpl.queue ++ if offered then [(s.ch c).startReport c k] else [] }
  pools : v.pools = s.pools
  channel : v.ch c = { (s.ch c).frameBegun k with lostEvents := satAddTimes lost (s.ch c).lostEvents }

theorem State.Ready.begun (s : State) (c : ChannelId) (k : GoverningSet) : s.Ready (s.begun c k) c k false 0 where
  cpl := by
    show { s.cpl with queue := s.cpl.queue ++ [], reserved := s.cpl.reserved - 0 } = _
    rw [List.append_nil, Nat.sub_zero]
    exact congrArg (fun q => { s.cpl with queue := q }) (List.append_nil _).symm
  pools := rfl
  channel := State.emit_ch_same _ _ _ _

theorem State.Ready.drawn {offered : Bool} {lost : Nat} (h : s.Ready v c k offered lost) : s.Ready v.drawn c k offered lost := ⟨h.cpl, h.pools, h.channel⟩

/-- The load of the holding queue: entries and reservations (R151). -/
def State.load (s : State) : Nat := s.cpl.queue.length + s.cpl.reserved

theorem State.Ready.load {offered : Bool} {lost : Nat} (h : s.Ready v c k offered lost) : v.load = s.load + bitNat offered := by
  unfold State.load
  rw [h.cpl, List.length_append]
  cases offered with
  | false => rfl
  | true =>
    show s.cpl.queue.length + 1 + s.cpl.reserved = s.cpl.queue.length + s.cpl.reserved + 1
    omega

/-- R154: the offer of GEN_APPLIED, by the credits free. -/
theorem State.Ready.offer_of_free (h : s.Ready v c k false 0) (hfree : s.load < 64) : s.Ready (v.offer c ((s.ch c).startReport c k)) c k true 0 := by
  have free : v.load < 64 := by rw [h.load]; exact hfree
  rw [State.offer_of_free free]
  refine ⟨?_, h.pools, h.channel⟩
  show { v.cpl with queue := v.cpl.queue ++ [(s.ch c).startReport c k] } = _
  rw [h.cpl]
  exact congrArg (fun q => { s.cpl with queue := q ++ [(s.ch c).startReport c k] }) (List.append_nil _)

theorem State.Ready.offer_of_full {offered : Bool} {lost : Nat} (h : s.Ready v c k offered lost) (hfull : 64 ≤ v.load) (r : Completion) :
    s.Ready (v.offer c r) c k offered (lost + 1) := by
  rw [State.offer_of_full hfull]
  refine ⟨h.cpl, h.pools, ?_⟩
  rw [State.ch_upd_same, h.channel, satAddTimes_succ]
  rfl

/-! ## The frame is taken, or not -/

/-- `t` is `s` after a frame start of the set `k` with frame `f`: GEN_APPLIED in the queue where `offered`, the frame taken by the OPEN capture or not, and `lost` lost events counted. -/
structure State.Starts (s t : State) (c : ChannelId) (k : GoverningSet) (offered taken : Bool) (lost : Nat) (f : Frame) : Prop where
  queue : t.cpl.queue = s.cpl.queue ++ if offered then [(s.ch c).startReport c k] else []
  same : f = { (s.ch c).startingFrame k with tag := f.tag, hold := f.hold, credit := f.credit, dropReason := f.dropReason }
  channel : ∃ caps, t.ch c = { ((s.ch c).frameBegun k).withFrame f caps with lostEvents := satAddTimes lost (s.ch c).lostEvents }
  untaken : taken = false → s.frameUntaken t c f
  takenBy : taken = true → ∃ q, (s.ch c).openCapture = some q ∧ q.wants k.gen = true ∧ s.frameTaken t c k q f

section
variable {offered : Bool} {lost : Nat} (h : s.Ready v c k offered lost)
include h

theorem State.Ready.captures : (v.ch c).captures = (s.ch c).captures := by rw [h.channel]; rfl

theorem State.Ready.openCapture : (v.ch c).openCapture = (s.ch c).openCapture := by
  unfold Channel.openCapture
  rw [h.captures]

theorem State.Ready.asks : v.frameAsks c ((s.ch c).startingFrame k) = (s.ch c).wantsFrame k := by
  unfold State.frameAsks Channel.wantsFrame
  rw [h.openCapture]
  rfl

theorem State.Ready.takeFrame_of_unwanted (hwants : (s.ch c).wantsFrame k = false) :
    s.Starts (v.takeFrame c ((s.ch c).startingFrame k)) c k offered false lost ((s.ch c).startingFrame k) := by
  rw [State.takeFrame_of_unwanted (by rw [h.asks]; exact hwants)]
  refine ⟨?_, rfl, ⟨(v.ch c).captures, ?_⟩, fun _ => ⟨rfl, rfl, rfl, rfl, ?_, h.pools, ?_⟩, nofun⟩
  · rw [State.emit_queue, List.append_nil, h.cpl]
  · rw [State.emit_ch_same, h.channel]
    rfl
  · rw [State.emit_ch_same]
    exact h.captures
  · rw [State.emit_cpl, h.cpl]
    rfl

theorem State.Ready.takeFrame_of_full (hwants : (s.ch c).wantsFrame k = true) (hfull : 64 ≤ v.load) :
    s.Starts (v.takeFrame c ((s.ch c).startingFrame k)) c k offered false (lost + 1) ((s.ch c).startingFrame k) := by
  rw [State.takeFrame_of_full (by rw [h.asks]; exact hwants) hfull]
  refine ⟨?_, rfl, ⟨(v.ch c).captures, ?_⟩, fun _ => ⟨rfl, rfl, rfl, rfl, ?_, h.pools, ?_⟩, nofun⟩
  · rw [State.emit_queue, List.append_nil, h.cpl]
  · rw [State.emit_ch_same, h.channel, satAddTimes_succ]
    rfl
  · rw [State.emit_ch_same]
    exact h.captures
  · rw [State.emit_cpl, h.cpl]
    rfl

theorem State.Ready.takeFrame_of_free (hruns : (s.ch c).state.runs = true) (hwants : (s.ch c).wantsFrame k = true) (hfree : v.load < 64) :
    ∃ f, s.Starts (v.takeFrame c ((s.ch c).startingFrame k)) c k offered true lost f := by
  obtain ⟨q, hq, hguard⟩ : ∃ q, (s.ch c).openCapture = some q ∧ q.wants k.gen = true := by
    unfold Channel.wantsFrame at hwants
    cases hq : (s.ch c).openCapture with
    | none => simp [hq] at hwants
    | some q => exact ⟨q, rfl, by simpa [hq] using hwants⟩
  have runs : (v.ch c).state.runs = true := by
    rw [h.channel]
    exact (ChannelState.frameStarted_runs _ _).trans hruns
  obtain ⟨f, takes⟩ := State.takeFrame_of_free (f := (s.ch c).startingFrame k) (k := k) (h.openCapture.trans hq) hguard hfree runs rfl rfl rfl
  obtain ⟨caps, hch⟩ := takes.channel
  refine ⟨f, by rw [takes.queue, h.cpl], takes.same, ⟨caps, ?_⟩, nofun, fun _ => ⟨q, hq, hguard, ?_⟩⟩
  · rw [hch, h.channel]
    rfl
  · obtain ⟨htag, hcredit, hcpl, hothers, hsettling, hempty, hpool, hdropped, hbuffer⟩ := takes.taken
    rw [h.pools] at hothers hsettling hempty hpool
    rw [h.captures] at hdropped hbuffer
    refine ⟨htag, hcredit, ?_, hothers, hsettling, hempty, hpool, hdropped, hbuffer⟩
    rw [hcpl, h.cpl]
end

/-- A record lost behind the frame. -/
theorem State.Starts.offer_of_full {offered taken : Bool} {lost : Nat} (h : s.Starts t c k offered taken lost f) (hfull : 64 ≤ t.load) (r : Completion) :
    s.Starts (t.offer c r) c k offered taken (lost + 1) f := by
  rw [State.offer_of_full hfull]
  obtain ⟨caps, hch⟩ := h.channel
  have captures : ((t.upd c fun ch => { ch with lostEvents := min (ch.lostEvents + 1) 65535 }).ch c).captures = (t.ch c).captures := by rw [State.ch_upd_same]
  refine ⟨h.queue, h.same, ⟨caps, ?_⟩, fun e => ?_, fun e => ?_⟩
  · rw [State.ch_upd_same, hch, satAddTimes_succ]
    rfl
  · obtain ⟨htag, hhold, hcredit, hreason, hcaps, hpools, hcpl⟩ := h.untaken e
    exact ⟨htag, hhold, hcredit, hreason, captures.trans hcaps, hpools, hcpl⟩
  · obtain ⟨q, hq, hguard, htag, hcredit, hcpl, hothers, hsettling, hempty, hpool, hdropped, hbuffer⟩ := h.takenBy e
    exact ⟨q, hq, hguard, htag, hcredit, hcpl, hothers, hsettling, hempty, hpool, fun e => captures.trans (hdropped e), fun e => captures.trans (hbuffer e)⟩

theorem State.creditsFree_eq_one (v : State) : v.creditsFree = 1 ↔ v.load = 63 := by
  unfold State.creditsFree State.load
  omega

/-- R154: which of the frame and its GEN_APPLIED has a credit: the frame asks for one where it is wanted, the report where it is due. -/
inductive CreditsFor (n : Nat) (due wanted : Bool) : (offered taken : Bool) → (lost : Nat) → Prop where
  | neither (hd : due = false) (hw : wanted = false) : CreditsFor n due wanted false false 0
  | frame (hd : due = false) (hw : wanted = true) (hn : n < 64) : CreditsFor n due wanted false true 0
  | frameLost (hd : due = false) (hw : wanted = true) (hn : 64 ≤ n) : CreditsFor n due wanted false false 1
  | report (hd : due = true) (hw : wanted = false) (hn : n < 64) : CreditsFor n due wanted true false 0
  | reportLost (hd : due = true) (hw : wanted = false) (hn : 64 ≤ n) : CreditsFor n due wanted false false 1
  | both (hd : due = true) (hw : wanted = true) (hn : n + 2 ≤ 64) : CreditsFor n due wanted true true 0
  | bothLost (hd : due = true) (hw : wanted = true) (hn : 64 ≤ n) : CreditsFor n due wanted false false 2
  | reportFirst (hd : due = true) (hw : wanted = true) (hn : n = 63) : CreditsFor n due wanted true false 1
  | frameFirst (hd : due = true) (hw : wanted = true) (hn : n = 63) : CreditsFor n due wanted false true 1

/-- What a frame start with a free context does. -/
theorem State.frameStart_starts (hk : (s.ch c).table.latched = some k) (hruns : (s.ch c).state.runs = true) (hlen : (s.ch c).frames.length < 2) :
    ∃ offered taken lost f, CreditsFor s.load ((s.ch c).reportDue k) ((s.ch c).wantsFrame k) offered taken lost ∧ s.Starts (s.frameStart c) c k offered taken lost f := by
  have ready := State.Ready.begun s c k
  have load : (s.begun c k).load = s.load := ready.load
  rw [State.frameStart_eq hk, if_pos hlen]
  cases hdue : (s.ch c).reportDue k with
  | false =>
    rw [if_neg Bool.false_ne_true]
    cases hwants : (s.ch c).wantsFrame k with
    | false => exact ⟨_, _, _, _, .neither rfl rfl, ready.takeFrame_of_unwanted hwants⟩
    | true =>
      rcases Nat.lt_or_ge s.load 64 with hfree | hfull
      · obtain ⟨f, starts⟩ := ready.takeFrame_of_free hruns hwants (by rw [load]; exact hfree)
        exact ⟨_, _, _, f, .frame rfl rfl hfree, starts⟩
      · exact ⟨_, _, _, _, .frameLost rfl rfl hfull, ready.takeFrame_of_full hwants (by rw [load]; exact hfull)⟩
  | true =>
    rw [if_pos rfl]
    cases hwants : (s.ch c).wantsFrame k with
    | false =>
      rw [if_neg fun e => Bool.false_ne_true e.2]
      rcases Nat.lt_or_ge s.load 64 with hfree | hfull
      · exact ⟨_, _, _, _, .report rfl rfl hfree, (ready.offer_of_free hfree).takeFrame_of_unwanted hwants⟩
      · exact ⟨_, _, _, _, .reportLost rfl rfl hfull, (ready.offer_of_full (by rw [load]; exact hfull) _).takeFrame_of_unwanted hwants⟩
    | true =>
      rcases Nat.lt_or_ge s.load 64 with hfree | hfull
      · have offered := ready.offer_of_free hfree
        have filled := offered.load
        by_cases hone : s.load = 63
        · rw [if_pos ⟨(State.creditsFree_eq_one _).mpr (load.trans hone), rfl⟩]
          split
          · have first := ready.drawn.offer_of_free hfree
            exact ⟨_, _, _, _, .reportFirst rfl rfl hone, first.takeFrame_of_full hwants (by rw [first.load, hone]; decide)⟩
          · obtain ⟨f, starts⟩ := ready.drawn.takeFrame_of_free hruns hwants (by rw [ready.drawn.load, hone]; decide)
            refine ⟨_, _, _, f, .frameFirst rfl rfl hone, starts.offer_of_full ?_ _⟩
            obtain ⟨q, -, -, -, -, hcpl, -⟩ := starts.takenBy rfl
            unfold State.load at hone ⊢
            rw [hcpl, starts.queue]
            show 64 ≤ (s.cpl.queue ++ []).length + (s.cpl.reserved + 1)
            rw [List.append_nil]
            omega
        · rw [if_neg fun e => hone (load.symm.trans ((State.creditsFree_eq_one _).mp e.1))]
          obtain ⟨f, starts⟩ := offered.takeFrame_of_free hruns hwants (by rw [filled]; show s.load + 1 < 64; omega)
          exact ⟨_, _, _, f, .both rfl rfl (by omega), starts⟩
      · rw [if_neg fun e => by have := load.symm.trans ((State.creditsFree_eq_one _).mp e.1); omega]
        have lost := ready.offer_of_full (by rw [load]; exact hfull) ((s.ch c).startReport c k)
        exact ⟨_, _, _, _, .bothLost rfl rfl hfull, lost.takeFrame_of_full hwants (by rw [lost.load]; show 64 ≤ s.load + 0; omega)⟩
end
end Sys2Proof.Machine
end

section
/-! Frame starts of the timer: what TRIGGER and PERIOD_END do when a frame starts (R5, R8, R11 to R16, R27, R35 to R42, R101 to R104, R154). -/

namespace Sys2Proof.Machine

section
variable {s t u v : State} {c : ChannelId} {k : GoverningSet} {f : Frame} {i : Instr}

/-- The state with the trigger input of channel `c` as its filter shows it. -/
def State.seen (s : State) (c : ChannelId) (b : Bool) : State :=
  s.emit c { s.ch c with timer := { (s.ch c).timer with inputHigh := b } } []

theorem State.seen_ch (s : State) (c : ChannelId) (b : Bool) : (s.seen c b).ch c = { s.ch c with timer := { (s.ch c).timer with inputHigh := b } } :=
  State.emit_ch_same _ _ _ _

theorem State.seen_cpl (s : State) (c : ChannelId) (b : Bool) : (s.seen c b).cpl = s.cpl := by
  unfold State.seen
  rw [State.emit_cpl, List.append_nil]
  rfl

theorem State.triggerTaken_of_waiting (hruns : (s.ch c).state.runs = true) (hwaiting : (s.ch c).timer.state = .waiting) :
    s.triggerTaken c = s.frameStart c := by
  unfold State.triggerTaken
  dsimp only
  rw [if_pos hruns, hwaiting]

/-- R5, R8: a frame start of the timer. -/
theorem exec_of_startsFrame (h : s.startsFrame c i) : ∃ b, exec i s = .next ((s.seen c b).frameStart c) := by
  obtain ⟨hruns, ⟨rfl, hlow, hwaiting⟩ | ⟨rfl, hperiod, hdue, hpending⟩⟩ := h
  · refine ⟨true, ?_⟩
    rw [execTrigger_of_low hlow, State.upd_eq_emit]
    exact congrArg Host.Outcome.next (State.triggerTaken_of_waiting (s := s.seen c true) (by rw [State.seen_ch]; exact hruns) (by rw [State.seen_ch]; exact hwaiting))
  · refine ⟨(s.ch c).timer.inputHigh, ?_⟩
    have self : s.seen c (s.ch c).timer.inputHigh = s := State.emit_self s c
    rw [execPeriodEnd_of_due hperiod hdue, self]
    unfold State.periodEnd
    dsimp only
    rw [if_pos hruns]
    simp only [hpending]

theorem Channel.wantsFrame_iff (ch : Channel) (k : GoverningSet) :
    ch.wantsFrame k = true ↔ ∃ q, ch.captures.find? (fun q => q.state == .opened) = some q ∧ ∀ g ∈ q.guardGen, (k.gen - g).toNat < 32768 := by
  have guard (q : Capture) : q.wants k.gen = true ↔ ∀ g ∈ q.guardGen, (k.gen - g).toNat < 32768 := by
    unfold Capture.wants genOlder
    cases q.guardGen with
    | none => simp
    | some g => simp
  unfold Channel.wantsFrame Channel.openCapture
  cases ch.captures.find? (fun q => q.state == .opened) with
  | none => simp
  | some q => simpa using guard q

theorem Channel.reportDue_iff (ch : Channel) (k : GoverningSet) :
    ch.reportDue k = true ↔ k.report = true ∧ (ch.table.frame0Mark = true ∨ ∀ p ∈ ch.table.active, p.gen ≠ k.gen) := by
  unfold Channel.reportDue genAppliedDue SettingsTable.previous
  cases ch.table.frame0Mark with
  | true => simp
  | false => cases ch.table.active <;> simp

theorem settlingAfter_eq_false (prev : Option GoverningSet) (k : GoverningSet) :
    settlingAfter prev k = false ↔ ∃ p ∈ prev, p.fields.mode = k.fields.mode ∧ p.fields.depth = k.fields.depth ∧ p.fields.flip = k.fields.flip
      ∧ p.fields.vStart = k.fields.vStart ∧ p.fields.vRows = k.fields.vRows := by
  unfold settlingAfter FullSettings.transitionDiffers
  cases prev with
  | none => simp
  | some p => simp [and_assoc]

theorem Channel.freeContext_of_empty {ch : Channel} (h : ch.frames = []) : ch.freeContext = if ch.lastFreed = some .ctx0 then .ctx1 else .ctx0 := by
  unfold Channel.freeContext
  rw [h]

theorem satAdd_one (n : Nat) : satAddTimes 1 n = min (n + 1) 65535 := rfl

theorem satAdd_two (n : Nat) : satAddTimes 2 n = min (n + 2) 65535 := by
  show min (min (n + 1) 65535 + 1) 65535 = _
  omega

/-- R15, R16: a frame start with both contexts in use. -/
theorem State.frameStart_backlogs (hk : (s.ch c).table.latched = some k) (hlen : 2 ≤ (s.ch c).frames.length) :
    ∃ offered lost, CreditsFor s.load ((s.ch c).reportDue k) false offered false lost
      ∧ (s.frameStart c).cpl = { s.cpl with queue := s.cpl.queue ++ if offered then [(s.ch c).startReport c k] else [] }
      ∧ (s.frameStart c).pools = s.pools
      ∧ (s.frameStart c).ch c = { (s.ch c).frameBegun k with
          lostEvents := satAddTimes lost (s.ch c).lostEvents, timer := { (s.ch c).timer.frameStarted k with backlog := satAdd (s.ch c).timer.backlog } } := by
  have ready := State.Ready.begun s c k
  have cpl : ((s.begun c k).backlog c).cpl = { s.cpl with queue := s.cpl.queue ++ [] } := ready.cpl
  rw [List.append_nil] at cpl
  have same : ((s.begun c k).backlog c).ch c = { (s.ch c).frameBegun k with
      timer := { (s.ch c).timer.frameStarted k with backlog := satAdd (s.ch c).timer.backlog } } := by
    rw [State.backlog, State.ch_upd_same, ready.channel]
    rfl
  rw [State.frameStart_eq hk, if_neg (by omega)]
  cases (s.ch c).reportDue k with
  | false =>
    refine ⟨_, _, .neither rfl rfl, ?_, rfl, same⟩
    rw [if_neg Bool.false_ne_true, cpl]
    exact congrArg (fun q => { s.cpl with queue := q }) (List.append_nil _).symm
  | true =>
    rw [if_pos rfl]
    rcases Nat.lt_or_ge s.load 64 with hfree | hfull
    · rw [State.offer_of_free (s := (s.begun c k).backlog c) (by rw [cpl]; exact hfree)]
      refine ⟨_, _, .report rfl rfl hfree, ?_, rfl, same⟩
      rw [cpl]
      rfl
    · rw [State.offer_of_full (s := (s.begun c k).backlog c) (by rw [cpl]; exact hfull)]
      refine ⟨_, _, .reportLost rfl rfl hfull, ?_, rfl, ?_⟩
      · show ((s.begun c k).backlog c).cpl = _
        rw [cpl]
        exact congrArg (fun q => { s.cpl with queue := q }) (List.append_nil _).symm
      · rw [State.ch_upd_same, same]
        rfl

/-- Settles O43. -/
theorem frameStartTakesTheLatchedSet : Obligations.FrameStartTakesTheLatchedSet := by
  intro s c i k hstarts hk
  obtain ⟨b, runs⟩ := exec_of_startsFrame hstarts
  have hch := s.seen_ch c b
  have latched : ((s.seen c b).ch c).table.latched = some k := by rw [hch]; exact hk
  have hruns : ((s.seen c b).ch c).state.runs = true := by rw [hch]; exact hstarts.1
  have acts := ActsOn.frameStart c (s.seen c b)
  have others (d : ChannelId) (hd : d ≠ c) : ((s.seen c b).frameStart c).ch d = s.ch d := (acts.others d hd).trans (State.emit_ch_ne _ _ _ _ hd)
  have link : ((s.ch c).link.send .mark) = { (s.ch c).link with
      sent := (s.ch c).link.sent ++ if (s.ch c).link.geometry.isSome = true then [.mark] else [] } := by
    unfold Link.send Link.up
    by_cases hup : (s.ch c).link.geometry.isSome = true
    · rw [if_pos hup, if_pos hup]
    · rw [if_neg hup, if_neg hup, List.append_nil]
  refine ⟨_, runs, acts.regs, acts.proc, acts.mem, acts.port, acts.pending, others, ?_⟩
  rcases Nat.lt_or_ge (s.ch c).frames.length 2 with hlen | hlen
  · obtain ⟨offered, taken, lost, f, -, starts⟩ := State.frameStart_starts latched hruns (by rw [hch]; exact hlen)
    obtain ⟨caps, same⟩ := starts.channel
    have frame := starts.same
    rw [hch] at same frame
    rw [same]
    refine ⟨rfl, rfl, rfl, link, rfl, rfl, rfl, fun _ => ⟨rfl, f, rfl, fun g hg => ?_, fun hnone => ?_, ?_⟩, fun h => absurd hlen (by omega)⟩
    · rw [frame]
      exact (Channel.freeContext_ne hlen hg).symm
    · rw [frame]
      exact Channel.freeContext_of_empty (ch := s.ch c) hnone
    · rw [frame]
      refine ⟨rfl, rfl, rfl, rfl, rfl, fun e he => ?_, ?_, rfl, rfl, rfl, rfl, rfl, rfl⟩
      · have held : (s.ch c).table.integration.getD ⟨k.fields.exposure, k.gen⟩ = e := by
          rw [Option.mem_def.mp he]
          rfl
        exact ⟨congrArg Integration.exposure held, congrArg Integration.gen held⟩
      · refine (settlingAfter_eq_false (s.ch c).table.previous k).trans ?_
        unfold SettingsTable.previous
        cases (s.ch c).table.frame0Mark <;> simp
  · obtain ⟨offered, lost, -, hcpl, hpools, same⟩ := State.frameStart_backlogs latched (by rw [hch]; exact hlen)
    rw [hch] at same
    rw [same]
    refine ⟨rfl, rfl, rfl, link, rfl, rfl, rfl, fun h => absurd hlen (by omega), fun _ => ⟨rfl, rfl, rfl, rfl, hpools, ?_⟩⟩
    rw [hcpl, s.seen_cpl]

/-! ## GEN_APPLIED and the capture, by the credits free (R27, R40, R101, R102, R154) -/

theorem State.seen_load (s : State) (c : ChannelId) (b : Bool) : (s.seen c b).load = s.load := by
  unfold State.load
  rw [s.seen_cpl]

/-- What joins the queue and is counted lost at a frame start, with a free context or none. -/
theorem State.frameStart_queue (hk : (s.ch c).table.latched = some k) (hruns : (s.ch c).state.runs = true) :
    ∃ offered taken lost, CreditsFor s.load ((s.ch c).reportDue k) (decide ((s.ch c).frames.length < 2) && (s.ch c).wantsFrame k) offered taken lost
      ∧ (s.frameStart c).cpl.queue = s.cpl.queue ++ (if offered then [(s.ch c).startReport c k] else [])
      ∧ ((s.frameStart c).ch c).lostEvents = satAddTimes lost (s.ch c).lostEvents
      ∧ ((s.ch c).frames.length < 2 → ∃ f, ((s.frameStart c).ch c).frames.getLast? = some f ∧ s.Starts (s.frameStart c) c k offered taken lost f) := by
  rcases Nat.lt_or_ge (s.ch c).frames.length 2 with hlen | hlen
  · obtain ⟨offered, taken, lost, f, credits, starts⟩ := State.frameStart_starts hk hruns hlen
    obtain ⟨caps, same⟩ := starts.channel
    rw [decide_eq_true hlen, Bool.true_and]
    exact ⟨offered, taken, lost, credits, starts.queue, by rw [same], fun _ => ⟨f, by rw [same]; exact List.getLast?_concat, starts⟩⟩
  · obtain ⟨offered, lost, credits, hcpl, -, same⟩ := State.frameStart_backlogs hk hlen
    rw [decide_eq_false (by omega), Bool.false_and]
    exact ⟨offered, false, lost, credits, by rw [hcpl], by rw [same], fun h => absurd hlen (by omega)⟩

section
variable {n lost : Nat} {due wanted offered taken : Bool} (h : CreditsFor n due wanted offered taken lost)
include h

theorem CreditsFor.not_offered (hnone : due = false ∨ 64 ≤ n) : offered = false := by
  cases h with
  | report hd hw hn => rcases hnone with e | e; exact absurd (hd.symm.trans e) (by decide); omega
  | both hd hw hn => rcases hnone with e | e; exact absurd (hd.symm.trans e) (by decide); omega
  | reportFirst hd hw hn => rcases hnone with e | e; exact absurd (hd.symm.trans e) (by decide); omega
  | _ => rfl

theorem CreditsFor.lost_of_full (hdue : due = true) (hfull : 64 ≤ n) : lost = if wanted then 2 else 1 := by
  cases h with
  | reportLost hd hw hn => rw [hw]; rfl
  | bothLost hd hw hn => rw [hw]; rfl
  | neither hd hw => exact absurd (hd.symm.trans hdue) (by decide)
  | frame hd hw hn => exact absurd (hd.symm.trans hdue) (by decide)
  | frameLost hd hw hn => exact absurd (hd.symm.trans hdue) (by decide)
  | report hd hw hn => omega
  | both hd hw hn => omega
  | reportFirst hd hw hn => omega
  | frameFirst hd hw hn => omega

theorem CreditsFor.offers (hdue : due = true) (hfree : n + 2 ≤ 64 ∨ n < 64 ∧ wanted = false) : offered = true ∧ lost = 0 := by
  cases h with
  | report hd hw hn => exact ⟨rfl, rfl⟩
  | both hd hw hn => exact ⟨rfl, rfl⟩
  | neither hd hw => exact absurd (hd.symm.trans hdue) (by decide)
  | frame hd hw hn => exact absurd (hd.symm.trans hdue) (by decide)
  | frameLost hd hw hn => exact absurd (hd.symm.trans hdue) (by decide)
  | reportLost hd hw hn => omega
  | bothLost hd hw hn => omega
  | reportFirst hd hw hn => rcases hfree with e | ⟨_, e⟩; omega; exact absurd (hw.symm.trans e) (by decide)
  | frameFirst hd hw hn => rcases hfree with e | ⟨_, e⟩; omega; exact absurd (hw.symm.trans e) (by decide)

/-- R154: of the frame and its report exactly one has the one free credit. -/
theorem CreditsFor.contested (hdue : due = true) (hwanted : wanted = true) (hone : n = 63) : lost = 1 ∧ taken = !offered := by
  cases h with
  | reportFirst hd hw hn => exact ⟨rfl, rfl⟩
  | frameFirst hd hw hn => exact ⟨rfl, rfl⟩
  | neither hd hw => exact absurd (hd.symm.trans hdue) (by decide)
  | frame hd hw hn => exact absurd (hd.symm.trans hdue) (by decide)
  | frameLost hd hw hn => exact absurd (hd.symm.trans hdue) (by decide)
  | report hd hw hn => exact absurd (hw.symm.trans hwanted) (by decide)
  | reportLost hd hw hn => omega
  | both hd hw hn => omega
  | bothLost hd hw hn => omega

theorem CreditsFor.not_taken (hnone : wanted = false ∨ 64 ≤ n) : taken = false := by
  cases h with
  | frame hd hw hn => rcases hnone with e | e; exact absurd (hw.symm.trans e) (by decide); omega
  | both hd hw hn => rcases hnone with e | e; exact absurd (hw.symm.trans e) (by decide); omega
  | frameFirst hd hw hn => rcases hnone with e | e; exact absurd (hw.symm.trans e) (by decide); omega
  | _ => rfl

theorem CreditsFor.takes (hwanted : wanted = true) (hfree : n < 64) (hboth : due = false ∨ n + 2 ≤ 64) : taken = true ∧ lost = 0 := by
  cases h with
  | frame hd hw hn => exact ⟨rfl, rfl⟩
  | both hd hw hn => exact ⟨rfl, rfl⟩
  | neither hd hw => exact absurd (hw.symm.trans hwanted) (by decide)
  | report hd hw hn => exact absurd (hw.symm.trans hwanted) (by decide)
  | reportLost hd hw hn => exact absurd (hw.symm.trans hwanted) (by decide)
  | frameLost hd hw hn => omega
  | bothLost hd hw hn => omega
  | reportFirst hd hw hn => rcases hboth with e | e; exact absurd (hd.symm.trans e) (by decide); omega
  | frameFirst hd hw hn => rcases hboth with e | e; exact absurd (hd.symm.trans e) (by decide); omega

theorem CreditsFor.lost_of_not_due (hdue : due = false) : lost = if wanted = true ∧ 64 ≤ n then 1 else 0 := by
  cases h with
  | neither hd hw => rw [if_neg fun e => absurd (hw.symm.trans e.1) (by decide)]
  | frame hd hw hn => rw [if_neg (by omega)]
  | frameLost hd hw hn => rw [if_pos ⟨hw, hn⟩]
  | report hd hw hn => exact absurd (hd.symm.trans hdue) (by decide)
  | reportLost hd hw hn => exact absurd (hd.symm.trans hdue) (by decide)
  | both hd hw hn => exact absurd (hd.symm.trans hdue) (by decide)
  | bothLost hd hw hn => exact absurd (hd.symm.trans hdue) (by decide)
  | reportFirst hd hw hn => exact absurd (hd.symm.trans hdue) (by decide)
  | frameFirst hd hw hn => exact absurd (hd.symm.trans hdue) (by decide)
end

/-- The credit of the frame that starts. -/
theorem State.Starts.credit {offered taken : Bool} {lost : Nat} (h : s.Starts t c k offered taken lost f) : f.credit = taken := by
  cases taken with
  | false =>
    obtain ⟨-, -, hcredit, -⟩ := h.untaken rfl
    exact hcredit
  | true =>
    obtain ⟨q, -, -, -, hcredit, -⟩ := h.takenBy rfl
    exact hcredit

/-- Settles O44. -/
theorem genAppliedIsOfferedAtItsFrameStart : Obligations.GenAppliedIsOfferedAtItsFrameStart := by
  intro s c i k due wanted record hstarts hk hdue hwanted hrecord
  obtain ⟨b, runs⟩ := exec_of_startsFrame hstarts
  have hch := s.seen_ch c b
  obtain ⟨offered, taken, lost, credits, hqueue, hlost, hframe⟩ := State.frameStart_queue (s := s.seen c b) (k := k) (by rw [hch]; exact hk) (by rw [hch]; exact hstarts.1)
  have report : ((s.seen c b).ch c).startReport c k = record (settlingAfter (s.ch c).table.previous k) := by
    rw [hrecord, hch]
    rfl
  have isDue : ((s.seen c b).ch c).reportDue k = due := by
    rw [Bool.eq_iff_iff, Channel.reportDue_iff, hdue, hch]
  have isWanted : (decide (((s.seen c b).ch c).frames.length < 2) && ((s.seen c b).ch c).wantsFrame k) = true ↔ wanted := by
    rw [hwanted, Bool.and_eq_true, decide_eq_true_iff, Channel.wantsFrame_iff, hch]
  have lostEvents : ((s.seen c b).ch c).lostEvents = (s.ch c).lostEvents := by rw [hch]
  have len : ((s.seen c b).ch c).frames = (s.ch c).frames := by rw [hch]
  rw [s.seen_cpl] at hqueue
  rw [report] at hqueue
  rw [lostEvents] at hlost
  rw [len] at hframe
  rw [isDue, s.seen_load] at credits
  generalize hw : (decide (((s.seen c b).ch c).frames.length < 2) && ((s.seen c b).ch c).wantsFrame k) = w at credits isWanted
  have settles (hlen : (s.ch c).frames.length < 2) : ∀ f ∈ (((s.seen c b).frameStart c).ch c).frames.getLast?, f.settling = settlingAfter (s.ch c).table.previous k := by
    intro f hf
    obtain ⟨g, hg, starts⟩ := hframe hlen
    obtain rfl := Option.some.inj (hg.symm.trans hf)
    rw [starts.same, hch]
    rfl
  refine ⟨_, runs, ?_⟩
  unfold State.load at credits
  refine ⟨fun h => ?_, fun hd hfull => ?_, fun hd hfree => ?_, fun hd hone hw => ?_⟩
  · rw [hqueue, credits.not_offered h]
    exact List.append_nil _
  · rw [hlost, credits.lost_of_full hd hfull]
    refine ⟨fun hw => ?_, fun hw => ?_⟩
    · rw [isWanted.mpr hw]
      exact satAdd_two _
    · rw [Bool.of_not_eq_true (mt isWanted.mp hw)]
      exact satAdd_one _
  · obtain ⟨hoffered, hnone⟩ := credits.offers hd (hfree.imp id fun e => ⟨e.1, Bool.of_not_eq_true (mt isWanted.mp e.2)⟩)
    exact ⟨_, by rw [hqueue, hoffered]; rfl, settles, by rw [hlost, hnone]; rfl⟩
  · obtain ⟨hone, htaken⟩ := credits.contested hd (isWanted.mpr hw) hone
    have hlen : (s.ch c).frames.length < 2 := (hwanted.mp hw).1
    obtain ⟨g, hg, starts⟩ := hframe hlen
    have credit : ∀ f ∈ (((s.seen c b).frameStart c).ch c).frames.getLast?, f.credit = taken := fun f hf => by
      obtain rfl := Option.some.inj (hg.symm.trans hf)
      exact starts.credit
    refine ⟨by rw [hlost, hone]; exact satAdd_one _, ?_⟩
    cases offered with
    | true => exact .inl ⟨⟨_, hqueue⟩, fun f hf => (credit f hf).trans htaken⟩
    | false => exact .inr ⟨hqueue.trans (List.append_nil _), fun f hf => (credit f hf).trans htaken⟩

/-- R98: the OPEN capture of a sound queue is the one `Channel.openCapture` finds. -/
theorem Channel.queueSound.openCapture_eq {ch : Channel} (h : ch.queueSound) {q : Capture} (hq : q ∈ ch.captures) (hopen : q.state = .opened) :
    ch.captures.find? (fun k => k.state == .opened) = some q := by
  have runs : ch.state.runs = true := by
    obtain ⟨-, -, hnone, -⟩ := h
    refine Classical.byContradiction fun hr => ?_
    exact hnone (Bool.of_not_eq_true hr) q hq hopen
  obtain ⟨-, hstanding, -⟩ := h
  obtain ⟨hfirst, hrest⟩ := hstanding runs
  have stands : q ∈ ch.standingCaptures := List.mem_filter.mpr ⟨hq, by rw [hopen]; rfl⟩
  have found : ch.captures.find? (fun k => k.state == .opened) = ch.standingCaptures.find? fun k => k.state == .opened := by
    rw [Channel.standingCaptures, List.find?_filter]
    congr 1
    funext k
    cases k.state <;> rfl
  rw [found]
  cases hs : ch.standingCaptures with
  | nil => rw [hs] at stands; cases stands
  | cons a rest =>
    rw [hs] at stands hfirst hrest
    rcases List.mem_cons.mp stands with rfl | hmem
    · exact List.find?_cons_of_pos (by rw [hopen]; rfl)
    · have queued := hrest q hmem
      rw [hopen] at queued
      cases queued

/-- Settles O45. -/
theorem captureTakesTheFrame : Obligations.CaptureTakesTheFrame := by
  intro s c i k due n hstarts hk hdue hlen hsound hn
  obtain ⟨b, runs⟩ := exec_of_startsFrame hstarts
  have hch := s.seen_ch c b
  obtain ⟨offered, taken, lost, f, credits, starts⟩ := State.frameStart_starts (s := s.seen c b) (k := k) (by rw [hch]; exact hk) (by rw [hch]; exact hstarts.1)
    (by rw [hch]; exact hlen)
  have isDue : ((s.seen c b).ch c).reportDue k = due := by
    rw [Bool.eq_iff_iff, Channel.reportDue_iff, hdue, hch]
  have isWanted : ((s.seen c b).ch c).wantsFrame k = true ↔ ∃ q, (s.ch c).captures.find? (fun q => q.state == .opened) = some q ∧ ∀ g ∈ q.guardGen, (k.gen - g).toNat < 32768 := by
    rw [Channel.wantsFrame_iff, hch]
  rw [isDue, s.seen_load, State.load, ← hn] at credits
  obtain ⟨caps, same⟩ := starts.channel
  have hlost : (((s.seen c b).frameStart c).ch c).lostEvents = satAddTimes lost (s.ch c).lostEvents := by rw [same, hch]
  have captures : ((s.seen c b).ch c).captures = (s.ch c).captures := by rw [hch]
  have untaken (h : taken = false) : s.frameUntaken ((s.seen c b).frameStart c) c f := by
    obtain ⟨htag, hhold, hcredit, hreason, hcaps, hpools, hcpl⟩ := starts.untaken h
    exact ⟨htag, hhold, hcredit, hreason, hcaps.trans captures, hpools, by rw [hcpl, s.seen_cpl]⟩
  have takenBy (h : taken = true) (q : Capture) (hq : (s.ch c).captures.find? (fun q => q.state == .opened) = some q) :
      s.frameTaken ((s.seen c b).frameStart c) c k q f := by
    obtain ⟨q', hq', -, htaken⟩ := starts.takenBy h
    rw [Channel.openCapture, captures] at hq'
    obtain rfl := Option.some.inj (hq.symm.trans hq')
    unfold State.frameTaken at htaken ⊢
    rw [s.seen_cpl, captures] at htaken
    exact htaken
  refine ⟨_, f, runs, by rw [same, hch]; rfl, fun hd => ?_, fun hnone => ?_, fun q hq hopen hguard => ?_⟩
  · rw [starts.queue, s.seen_cpl, credits.not_offered (.inl hd)]
    exact List.append_nil _
  · have unwanted : ((s.seen c b).ch c).wantsFrame k = false := by
      refine Bool.of_not_eq_true fun e => ?_
      obtain ⟨q, hfind, hguard⟩ := isWanted.mp e
      obtain ⟨g, hg, hold⟩ := hnone q (List.mem_of_find?_eq_some hfind) (by simpa using List.find?_some hfind)
      have := hguard g hg
      omega
    refine ⟨untaken (credits.not_taken (.inl unwanted)), fun hd => ?_⟩
    rw [hlost, credits.lost_of_not_due hd, unwanted]
    rfl
  · have hfind := hsound.openCapture_eq hq hopen
    have wanted := isWanted.mpr ⟨q, hfind, hguard⟩
    refine ⟨fun hfull => ⟨untaken (credits.not_taken (.inr hfull)), fun hd => ?_⟩, fun hfree hboth => ?_, fun hone hd => ⟨fun hc => ?_, fun hc => ?_⟩⟩
    · rw [hlost, credits.lost_of_not_due hd, if_pos ⟨wanted, hfull⟩]
      rfl
    · obtain ⟨htaken, hnone⟩ := credits.takes wanted hfree hboth
      exact ⟨takenBy htaken q hfind, by rw [hlost, hnone]; rfl⟩
    · exact takenBy (starts.credit.symm.trans hc) q hfind
    · exact untaken (starts.credit.symm.trans hc)
end
end Sys2Proof.Machine
end

section
/-! START accepted with the TIMER source: frame 0 starts before or behind the CMD_RESULT (R40, R42, R83, R102, R169). -/

namespace Sys2Proof.Machine

section
variable {s t u v : State} {c : ChannelId} {k : CommittedSet} {g : GoverningSet} {f : Frame}

/-! ## The load of the holding queue over an answer (R137, R151, R169) -/

/-- What every channel's own change keeps, a pass over the channels keeps. -/
theorem State.eachChannel_induct {g : ChannelId → State → State} (acts : ∀ c s, ActsOn c s (g c s)) {Q : State → Prop} {P : Channel → Prop}
    (step : ∀ c s, Q s → P (s.ch c) → Q (g c s)) (hq : Q s) (h : ∀ c, P (s.ch c)) : Q (s.eachChannel g) := by
  have keep {c d : ChannelId} (hd : d ≠ c) (u : State) : (g c u).ch d = u.ch d := (acts c u).others d hd
  have q0 := step 0 s hq (h 0)
  have q1 := step 1 _ q0 (by rw [keep (by decide)]; exact h 1)
  have q2 := step 2 _ q1 (by rw [keep (by decide), keep (by decide)]; exact h 2)
  exact step 3 _ q2 (by rw [keep (by decide), keep (by decide), keep (by decide)]; exact h 3)

theorem Channel.quiet.not_halts {ch : Channel} (h : ch.quiet) (writes : Bool) : (ch.advanced writes).haltsNow = false := by
  unfold Channel.haltsNow
  rw [Channel.advanced_ending]
  cases he : ch.ending with
  | none => cases (ch.advanced writes).frames <;> rfl
  | some e =>
    cases (ch.advanced writes).frames with
    | nil => exact h e he
    | cons _ _ => rfl

/-- Records posted with credits that the channel held leave the load as it is. -/
theorem State.Funded.settle_load (funded : s.Funded) (fits : (s.ch c).RunFits) (quiet : (s.ch c).quiet) : (s.settle c).load = s.load := by
  have held := fits.settled_credits c s.regs.iface.busWrites
  have bound := s.heldCredits_le c
  have reserved := funded.reserved
  rw [State.settle_eq_emit_of_not_halts (quiet.not_halts _)]
  unfold State.load
  rw [State.emit_queue, State.emit_reserved, List.length_append]
  omega

theorem State.Funded.enterDisabled_load (funded : s.Funded) (h : ∀ c, (s.ch c).Accounts ∧ (s.ch c).quiet) : s.enterDisabled.load = s.load := by
  have passed := State.eachChannel_induct (g := fun c s => s.settle c) (s := { s with regs := { s.regs with iface := .disabled } })
    (fun c s => (Settles.settle c s).toActsOn) (Q := fun v => v.Funded ∧ v.load = s.load) (P := fun ch => ch.Accounts ∧ ch.quiet)
    (fun c v hv hch => ⟨hv.1.settle hch.1.toRunFits, (hv.1.settle_load hch.1.toRunFits hch.2).trans hv.2⟩) ⟨funded.of_eq rfl rfl rfl rfl, rfl⟩ h
  exact passed.2

theorem State.Funded.finishCommand_load (funded : s.Funded) (h : ∀ c, (s.ch c).Accounts ∧ (s.ch c).quiet) {k : Hand} (hk : s.proc.hand = some k)
    (hc : 1 ≤ k.credits) (code : ResultCode) (gen : Option Gen) : (s.finishCommand code gen).load + (k.credits - 1) = s.load := by
  have reserved := funded.reserved
  rw [State.handCredits_of_some hk] at reserved
  have answered : (s.answer k code gen).load + (k.credits - 1) = s.load := by
    show (s.cpl.queue ++ [cmdResultRecord k code gen]).length + (s.cpl.reserved - 1 - (k.credits - 1)) + (k.credits - 1) = s.cpl.queue.length + s.cpl.reserved
    rw [List.length_append, List.length_singleton]
    omega
  rw [State.finishCommand_of_some hk]
  split
  · rw [(funded.answer hk hc code gen).enterDisabled_load h]
    exact answered
  · unfold State.load at answered ⊢
    rw [State.tryFetch_cpl]
    exact answered

/-! ## Frame 0 of an accepted START -/

theorem Channel.started_report {ch : Channel} (hup : ch.link.geometry ≠ none) (c : ChannelId) (g : GoverningSet) :
    (ch.started g).startReport c g = .genApplied c (ch.timer.run + 1) g.gen 0 true := by
  rw [Channel.started_eq hup]
  rfl

theorem Channel.started_reportDue {ch : Channel} (hup : ch.link.geometry ≠ none) (g : GoverningSet) : (ch.started g).reportDue g = g.report := by
  rw [Channel.started_eq hup]
  exact Bool.and_true _

theorem Channel.started_settling {ch : Channel} (hup : ch.link.geometry ≠ none) (g : GoverningSet) : ((ch.started g).startingFrame g).settling = true := by
  rw [Channel.started_eq hup]
  rfl

/-- `t` is `s` with an accepted START answered and frame 0 begun, `m` being the load of the holding queue as frame 0 found it. -/
structure State.StartedNow (s t : State) (c : ChannelId) (k : CommittedSet) (g : GoverningSet) (m : Nat) (offered taken : Bool) (lost : Nat) (f : Frame) :
    Prop where
  credits : CreditsFor m g.report (((s.ch c).started g).wantsFrame g) offered taken lost
  frame : f = { ((s.ch c).started g).startingFrame g with tag := f.tag, hold := f.hold, credit := f.credit, dropReason := f.dropReason }
  channel : ∃ caps, t.ch c = { (((s.ch c).started g).frameBegun g).withFrame f caps with lostEvents := satAddTimes lost 0 }
  untaken : taken = false → f.tag = none ∧ f.hold = .nothing ∧ f.credit = false ∧ f.dropReason = none ∧ (t.ch c).captures = ((s.ch c).started g).captures
  takenBy : taken = true → ∃ q, ((s.ch c).started g).openCapture = some q ∧ f.tag = some q.tag ∧ f.credit = true ∧ f.dropReason = some .settling
    ∧ f.hold = .nothing
    ∧ (t.ch c).captures = ((s.ch c).started g).captures.map fun j => if j.tag = q.tag then { j with inFlight := j.inFlight + 1 } else j
  pools : t.pools = s.pools
  kept : s.answerFrame t
  others : s.othersKept t c
  answered : offered = false → s.answered t .ok (some k.gen) []
  hand : t.proc.hand = none
  head : t.regs.cmdHead = (s.regs.cmdHead + 1) % s.regs.cmdSize.toNat
  disabled : s.regs.iface = .quiescing → t.regs.iface = .disabled ∧ t.proc.state = .idle
  both : offered = true → ∀ h ∈ s.proc.hand,
    s.resultAndReport t (cmdResultRecord h .ok (some k.gen)) (.genApplied c ((s.ch c).timer.run + 1) g.gen 0 true)

section
variable {offered taken : Bool} {lost : Nat}

theorem State.StartedNow.credit {m : Nat} (h : s.StartedNow t c k g m offered taken lost f) : f.credit = taken := by
  cases taken with
  | false =>
    obtain ⟨-, -, hcredit, -⟩ := h.untaken rfl
    exact hcredit
  | true =>
    obtain ⟨q, -, -, hcredit, -⟩ := h.takenBy rfl
    exact hcredit

theorem State.Starts.pools_of_started (h : v.Starts t c g offered taken lost f) (hup : (s.ch c).link.geometry ≠ none) (hch : v.ch c = (s.ch c).started g) :
    t.pools = v.pools := by
  cases taken with
  | false =>
    obtain ⟨-, -, -, -, -, hpools, -⟩ := h.untaken rfl
    exact hpools
  | true =>
    obtain ⟨q, -, -, -, -, -, -, hsettling, -⟩ := h.takenBy rfl
    refine (hsettling ?_).2.2
    rw [h.same, hch]
    exact Channel.started_settling hup g

theorem State.Starts.takenBy_of_started (h : v.Starts t c g offered taken lost f) (hup : (s.ch c).link.geometry ≠ none) (hch : v.ch c = (s.ch c).started g)
    (htaken : taken = true) : ∃ q, ((s.ch c).started g).openCapture = some q ∧ f.tag = some q.tag ∧ f.credit = true ∧ f.dropReason = some .settling
      ∧ f.hold = .nothing
      ∧ (t.ch c).captures = ((s.ch c).started g).captures.map fun j => if j.tag = q.tag then { j with inFlight := j.inFlight + 1 } else j := by
  obtain ⟨q, hq, -, htag, hcredit, -, -, hsettling, -, -, hdropped, -⟩ := h.takenBy htaken
  have settling : f.settling = true := by
    rw [h.same, hch]
    exact Channel.started_settling hup g
  obtain ⟨hreason, hhold, -⟩ := hsettling settling
  rw [hch] at hq hdropped
  exact ⟨q, hq, htag, hcredit, hreason, hhold, hdropped (by rw [hreason]; exact nofun)⟩

theorem State.Starts.untaken_of_started (h : v.Starts t c g offered taken lost f) (hch : v.ch c = (s.ch c).started g) (htaken : taken = false) :
    f.tag = none ∧ f.hold = .nothing ∧ f.credit = false ∧ f.dropReason = none ∧ (t.ch c).captures = ((s.ch c).started g).captures := by
  obtain ⟨htag, hhold, hcredit, hreason, hcaps, -, -⟩ := h.untaken htaken
  exact ⟨htag, hhold, hcredit, hreason, hcaps.trans (by rw [hch])⟩

/-- The channel of an accepted START rests, and so does the channel whose frame 0 has started. -/
theorem Channel.started_rests {ch : Channel} (hup : ch.link.geometry ≠ none) (hframes : ch.frames = []) (hend : ch.ending = none) (g : GoverningSet) :
    (ch.started g).Rests := by
  rw [Channel.started_eq hup]
  exact Channel.rests_of_empty hend hframes ChannelState.noConfusion

theorem State.Starts.rests_of_started (h : v.Starts t c g offered taken lost f) (hup : (s.ch c).link.geometry ≠ none) (hframes : (s.ch c).frames = [])
    (hend : (s.ch c).ending = none) (hch : v.ch c = (s.ch c).started g) : (t.ch c).Rests := by
  obtain ⟨caps, same⟩ := h.channel
  have frame := h.same
  rw [hch, Channel.started_eq hup] at same frame
  rw [same]
  have frames : (Channel.withFrame (Channel.frameBegun { s.ch c with
      state := .starting, standing := true, faultCause := none, lostEvents := 0, table := (s.ch c).table.started g, timer := (s.ch c).timer.started g
      link := { (s.ch c).link with endMiss := 0, stray := 0, sent := (s.ch c).link.sent ++ [.order (g.order 0)] }
      captures := openFirst (s.ch c).captures } g) f caps).frames = [f] := by
    show (s.ch c).frames ++ [f] = [f]
    rw [hframes]
    rfl
  refine ⟨hend, fun x hx => ?_, ?_, fun e => ChannelState.noConfusion e⟩
  · obtain rfl : x = f := by
      rw [show _ = [f] from frames] at hx
      exact List.mem_singleton.mp hx
    rw [frame]
    rfl
  · have reads : f.stage = .reading := by rw [frame]; rfl
    unfold Channel.headWaits
    rw [show _ = [f] from frames]
    simp only [reads]
end

/-- The state in which an accepted START stands before its answer and frame 0. -/
structure State.Accepts (s u : State) (c : ChannelId) (g : GoverningSet) : Prop where
  prepared : s.Prepares u []
  channel : u.ch c = (s.ch c).started g
  pools : u.pools = s.pools
  others : ∀ d, d ≠ c → u.ch d = s.ch d
  load : u.load = s.load

theorem Channel.started_frameStart (hup : (s.ch c).link.geometry ≠ none) (hframes : (s.ch c).frames = []) (hv : v.ch c = (s.ch c).started g) :
    ∃ offered taken lost f, CreditsFor v.load g.report (((s.ch c).started g).wantsFrame g) offered taken lost ∧ v.Starts (v.frameStart c) c g offered taken lost f := by
  have started := Channel.started_eq hup g
  have latched : (v.ch c).table.latched = some g := by
    rw [hv, started]
    rfl
  have runs : (v.ch c).state.runs = true := by
    rw [hv, started]
    rfl
  have len : (v.ch c).frames.length < 2 := by
    rw [hv, started]
    show (s.ch c).frames.length < 2
    rw [hframes]
    decide
  obtain ⟨offered, taken, lost, f, credits, starts⟩ := State.frameStart_starts latched runs len
  rw [hv, Channel.started_reportDue hup] at credits
  exact ⟨offered, taken, lost, f, credits, starts⟩

section
variable (a : s.Accepts u c g) (hup : (s.ch c).link.geometry ≠ none) (hframes : (s.ch c).frames = []) (hend : (s.ch c).ending = none)
include a hup hframes hend

/-- Frame 0 before the CMD_RESULT. -/
theorem State.Accepts.frameFirst : ∃ offered taken lost f, s.StartedNow ((u.frameStart c).finishCommand .ok (some k.gen)) c k g s.load offered taken lost f := by
  obtain ⟨offered, taken, lost, f, credits, starts⟩ := Channel.started_frameStart hup hframes a.channel
  have acts := ActsOn.frameStart c u
  have report := Channel.started_report hup c g
  have frames : s.Prepares (u.frameStart c) (if offered then [.genApplied c ((s.ch c).timer.run + 1) g.gen 0 true] else []) := by
    refine ⟨acts.regs.trans a.prepared.regs, acts.mem.trans a.prepared.mem, acts.pending.trans a.prepared.pending, acts.port.trans a.prepared.port, ?_, ?_⟩
    · rw [acts.cpl, starts.queue, a.prepared.cpl, a.channel, report, List.append_nil]
    · obtain ⟨h, j, hh, hj, hslot, hbytes⟩ := a.prepared.hand
      exact ⟨h, j, hh, by rw [acts.proc]; exact hj, hslot, hbytes⟩
  have same : ((u.frameStart c).finishCommand .ok (some k.gen)).ch c = (u.frameStart c).ch c :=
    State.finishCommand_ch_of_rests (starts.rests_of_started hup hframes hend a.channel) _ _
  have pools := starts.pools_of_started hup a.channel
  have zero : ((s.ch c).started g).lostEvents = 0 := by rw [Channel.started_eq hup]
  obtain ⟨h, hh, after, hqueue, hhead, hhand, hdisabled, hother⟩ := frames.answered (code := .ok) (gen := some k.gen)
  refine ⟨offered, taken, lost, f, { credits := by rw [← a.load]; exact credits, frame := ?_, channel := ?_, untaken := ?_, takenBy := ?_
                                     pools := (State.finishCommand_pools _ _ _).trans (pools.trans a.pools), kept := frames.answerFrame
                                     others := frames.othersKept (pools.trans a.pools) fun d hd => (acts.others d hd).trans (a.others d hd)
                                     answered := ?_, hand := hhand, head := hhead, disabled := hdisabled, both := ?_ }⟩
  · rw [← a.channel]
    exact starts.same
  · obtain ⟨caps, hcaps⟩ := starts.channel
    rw [a.channel, zero] at hcaps
    exact ⟨caps, same.trans hcaps⟩
  · rw [same]
    exact starts.untaken_of_started a.channel
  · rw [same]
    exact starts.takenBy_of_started hup a.channel
  · intro e
    rw [e] at hqueue
    exact ⟨h, hh, after, hqueue, hhead, hhand, hdisabled, hother⟩
  · intro e j hj
    obtain rfl := Option.some.inj (Option.mem_def.mp hh ▸ Option.mem_def.mp hj : some h = some j)
    rw [e] at hqueue
    refine ⟨fun hq => .inr ?_, fun _ => .inr ⟨after, ?_⟩⟩
    · obtain ⟨rfl, -⟩ := hother hq
      rw [hqueue, List.append_assoc]
      rfl
    · rw [hqueue, List.append_assoc]
      rfl

/-- The CMD_RESULT before frame 0. -/
theorem State.Accepts.resultFirst : ∃ offered taken lost f,
    s.StartedNow ((u.finishCommand .ok (some k.gen)).frameStart c) c k g (u.finishCommand .ok (some k.gen)).load offered taken lost f := by
  have hv : (u.finishCommand .ok (some k.gen)).ch c = (s.ch c).started g :=
    (State.finishCommand_ch_of_rests (by rw [a.channel]; exact Channel.started_rests hup hframes hend g) _ _).trans a.channel
  obtain ⟨offered, taken, lost, f, credits, starts⟩ := Channel.started_frameStart hup hframes hv
  have acts := ActsOn.frameStart c (u.finishCommand .ok (some k.gen))
  have report := Channel.started_report hup c g
  have pools := starts.pools_of_started hup hv
  have zero : ((s.ch c).started g).lostEvents = 0 := by rw [Channel.started_eq hup]
  have queue := starts.queue
  rw [hv, report] at queue
  obtain ⟨h, hh, after, hqueue, hhead, hhand, hdisabled, hother⟩ := a.prepared.answered (code := .ok) (gen := some k.gen)
  obtain ⟨hregs, hmem, hpending, hcpl, hport⟩ := a.prepared.answerFrame (code := .ok) (gen := some k.gen)
  refine ⟨offered, taken, lost, f, { credits := credits, frame := ?_, channel := ?_, untaken := starts.untaken_of_started hv
                                     takenBy := starts.takenBy_of_started hup hv
                                     pools := pools.trans ((State.finishCommand_pools _ _ _).trans a.pools), kept := ?_, others := ?_
                                     answered := ?_, hand := by rw [acts.proc]; exact hhand, head := by rw [acts.regs]; exact hhead
                                     disabled := by rw [acts.proc, acts.regs]; exact hdisabled, both := ?_ }⟩
  · rw [← hv]
    exact starts.same
  · obtain ⟨caps, hcaps⟩ := starts.channel
    rw [hv, zero] at hcaps
    exact ⟨caps, hcaps⟩
  · exact ⟨by rw [acts.regs]; exact hregs, acts.mem.trans hmem, acts.pending.trans hpending, by rw [acts.cpl, hcpl], acts.port.trans hport⟩
  · intro hq
    obtain ⟨-, others⟩ := a.prepared.othersKept a.pools a.others (code := .ok) (gen := some k.gen) hq
    exact ⟨pools.trans ((State.finishCommand_pools _ _ _).trans a.pools), fun d hd => (acts.others d hd).trans (others d hd)⟩
  · intro e
    rw [e] at queue
    have same := queue.trans (List.append_nil _)
    exact ⟨h, hh, after, by rw [same]; exact hqueue, by rw [acts.regs]; exact hhead, by rw [acts.proc]; exact hhand,
      by rw [acts.proc, acts.regs]; exact hdisabled, by rw [acts.proc, acts.regs]; exact hother⟩
  · intro e j hj
    obtain rfl := Option.some.inj (Option.mem_def.mp hh ▸ Option.mem_def.mp hj : some h = some j)
    rw [e] at queue
    rw [hqueue, List.append_nil] at queue
    refine ⟨fun hq => .inl ?_, fun _ => .inl ⟨after, queue⟩⟩
    obtain ⟨rfl, -⟩ := hother hq
    rw [queue, List.append_assoc]
    rfl
end

/-- The captures of an OFF channel of a sound state are all QUEUED. -/
theorem Channel.queueSound.queued_of_off {ch : Channel} (h : ch.queueSound) (hoff : ch.state = .off) (hframes : ch.frames = []) :
    ∀ q ∈ ch.captures, q.state = .queued := by
  intro q hq
  obtain ⟨-, -, hopen, hdraining, hflight, -⟩ := h
  cases hs : q.state with
  | queued => rfl
  | opened => exact absurd hs (hopen (by rw [hoff]; rfl) q hq)
  | draining =>
    obtain ⟨-, hpos⟩ := hdraining q hq hs
    rw [hflight q hq, hframes] at hpos
    exact absurd rfl hpos

/-- R83 step 4: the first capture of an accepted START is OPEN. -/
theorem Channel.started_openCapture {ch : Channel} (hup : ch.link.geometry ≠ none) (hoff : ch.state = .off) (hframes : ch.frames = []) (h : ch.queueSound)
    (g : GoverningSet) : (ch.started g).openCapture = ch.captures.head?.map fun q => { q with state := .opened } := by
  have queued := h.queued_of_off hoff hframes
  rw [Channel.started_eq hup]
  unfold Channel.openCapture
  cases hc : ch.captures with
  | nil => rfl
  | cons q rest =>
    rw [hc] at queued
    show (openFirst (q :: rest)).find? _ = _
    unfold openFirst
    rw [queued q List.mem_cons_self]
    rfl

theorem Channel.started_wantsFrame {ch : Channel} (hup : ch.link.geometry ≠ none) (hoff : ch.state = .off) (hframes : ch.frames = []) (h : ch.queueSound)
    (g : GoverningSet) : (ch.started g).wantsFrame g = true ↔ ∃ q ∈ ch.captures.head?, ∀ x ∈ q.guardGen, (g.gen - x).toNat < 32768 := by
  have opens := Channel.started_openCapture hup hoff hframes h g
  rw [Channel.wantsFrame_iff]
  unfold Channel.openCapture at opens
  rw [opens]
  cases ch.captures.head? with
  | none => simp
  | some q => simp

/-- R83: an accepted START before its answer. -/
theorem State.accepts_of_started {h : Hand} (hh : s.proc.hand = some h) (c : ChannelId) (g : GoverningSet) :
    s.Accepts (s.upd c fun ch => ch.started g).handSpends c g where
  prepared := by simpa using (State.Prepares.upd hh c fun ch => ch.started g).trans (State.Prepares.handSpends hh)
  channel := by rw [State.handSpends_ch, State.ch_upd_same]
  pools := by
    rw [State.handSpends_of_some (s := s.upd c fun ch => ch.started g) hh]
    rfl
  others d hd := by rw [State.handSpends_ch, State.ch_upd_ne _ _ hd]
  load := by
    rw [State.handSpends_of_some (s := s.upd c fun ch => ch.started g) hh]
    rfl

theorem State.Accepts.drawn (a : s.Accepts u c g) : s.Accepts u.drawn c g :=
  ⟨⟨a.prepared.regs, a.prepared.mem, a.prepared.pending, a.prepared.port, a.prepared.cpl, a.prepared.hand⟩, a.channel, a.pools, a.others, a.load⟩

/-- An accepted START before its answer keeps the books, but for the record's credit that the channel now holds. -/
theorem State.started_funded {h : Hand} (books : s.Books) (quiet : ∀ d, (s.ch d).quiet) (hh : s.proc.hand = some h) (hc : 2 ≤ h.credits)
    (hcheck : (s.ch c).startCheck = .inr g) : (s.upd c fun ch => ch.started g).handSpends.Funded
      ∧ (∀ d, ((s.upd c fun ch => ch.started g).handSpends.ch d).Accounts ∧ ((s.upd c fun ch => ch.started g).handSpends.ch d).quiet)
      ∧ (s.upd c fun ch => ch.started g).handSpends.proc.hand = some { h with credits := h.credits - 1 } := by
  obtain ⟨hoff, hup, _, set, hset, hg, _⟩ := Channel.startCheck_eq_inr hcheck
  obtain ⟨-, hend⟩ := (books.chans c).off_empty (by rw [hoff]; rfl)
  have standing := ((books.chans c).rest (by rw [hoff]; rfl)).2.2.1
  have moves : s.MovesTo true (s.upd c fun ch => ch.started g).handSpends :=
    (State.MovesTo.upd s c _ (Channel.Move.starts set g hoff hup hset hg).moves).trans (State.MovesTo.handSpends _)
  refine ⟨books.funded.updSpending (by rw [State.handCredits_of_some hh]; omega) (Channel.started_credits g standing),
    fun d => ⟨moves.accounts books.chans d, ?_⟩, by rw [State.handSpends_of_some (s := s.upd c _) hh]⟩
  rw [State.handSpends_ch]
  by_cases hd : d = c
  · subst hd
    rw [State.ch_upd_same, Channel.started_eq ((Link.up_iff _).mp hup)]
    exact Channel.quiet_of_none hend
  · rw [State.ch_upd_ne _ _ hd]
    exact quiet d

/-- R83, notes/assumptions/13.md: an accepted START with the TIMER source runs its answer and frame 0 in either order, the queue no fuller than before as frame 0 finds it. -/
theorem State.start_runs {h : Hand} (hp : s.presented = some (.start c)) (hl : s.ledger) (hh : s.proc.hand = some h) (hc : 2 ≤ h.credits)
    (hne : s.regs.iface ≠ .halted) (check : (s.ch c).startCheck = .inr g) (hgoverning : k.governing = some g) (hsource : g.fields.startSource = .timer) :
    ∃ t m offered taken lost f, exec .start s = .next t ∧ m ≤ s.load ∧ (h.credits = 2 → m = s.load) ∧ s.StartedNow t c k g m offered taken lost f := by
  obtain ⟨books, hquiet⟩ := s.ledger_iff.mp hl
  obtain ⟨hoff, hup, _⟩ := Channel.startCheck_eq_inr check
  have hup := (Link.up_iff _).mp hup
  obtain ⟨hframes, hend⟩ := (books.chans c).off_empty (by rw [hoff]; rfl)
  have accepts := State.accepts_of_started hh c g
  obtain ⟨funded, chans, hand⟩ := State.started_funded books (hquiet hne) hh hc check
  have run : exec .start s = .next (s.startAccepted c g) := by
    rw [execStart_of_presented hp, State.startCommand, check]
  have credits : 1 ≤ ({ h with credits := h.credits - 1 } : Hand).credits := by show 1 ≤ h.credits - 1; omega
  have after (v : State) (hv : v.load + (h.credits - 1 - 1) = s.load) : v.load ≤ s.load ∧ (h.credits = 2 → v.load = s.load) :=
    ⟨by omega, fun e => by omega⟩
  cases hreport : g.report with
  | false =>
    obtain ⟨offered, taken, lost, f, now⟩ := accepts.resultFirst hup hframes hend (k := k)
    obtain ⟨bound, two⟩ := after _ ((funded.finishCommand_load chans hand credits .ok (some k.gen)).trans accepts.load)
    refine ⟨_, _, offered, taken, lost, f, run.trans ?_, bound, two, now⟩
    simp only [State.startAccepted, hsource, hreport, Bool.false_eq_true, if_false, CommittedSet.governing_gen hgoverning]
  | true =>
    by_cases hfirst : Config.startResultFirst (s.upd c fun ch => ch.started g).handSpends.draws = true
    · obtain ⟨offered, taken, lost, f, now⟩ := accepts.drawn.resultFirst hup hframes hend (k := k)
      obtain ⟨bound, two⟩ := after _ ((funded.drawn.finishCommand_load chans hand credits .ok (some k.gen)).trans accepts.load)
      refine ⟨_, _, offered, taken, lost, f, run.trans ?_, bound, two, now⟩
      simp only [State.startAccepted, hsource, hreport, if_true, if_pos hfirst, CommittedSet.governing_gen hgoverning]
    · obtain ⟨offered, taken, lost, f, now⟩ := accepts.drawn.frameFirst hup hframes hend (k := k)
      refine ⟨_, _, offered, taken, lost, f, run.trans ?_, Nat.le_refl _, fun _ => rfl, now⟩
      simp only [State.startAccepted, hsource, hreport, if_true, if_neg hfirst, CommittedSet.governing_gen hgoverning]

section
variable {offered taken : Bool} {lost m : Nat}

/-- R102: frame 0 is taken by the first capture of the queue, which is OPEN then. -/
theorem State.StartedNow.takenByFirst (now : s.StartedNow t c k g m offered taken lost f) (hup : (s.ch c).link.geometry ≠ none)
    (hoff : (s.ch c).state = .off) (hframes : (s.ch c).frames = []) (hsound : (s.ch c).queueSound) (htaken : taken = true) :
    f.dropReason = some .settling ∧ ∃ q rest, (s.ch c).captures = q :: rest ∧ f.tag = some q.tag
      ∧ (t.ch c).captures = { q with state := .opened, inFlight := q.inFlight + 1 } :: rest := by
  obtain ⟨q, hq, htag, -, hreason, -, hcaps⟩ := now.takenBy htaken
  rw [Channel.started_openCapture hup hoff hframes hsound g] at hq
  rw [Channel.started_eq hup g] at hcaps
  refine ⟨hreason, ?_⟩
  cases hc : (s.ch c).captures with
  | nil =>
    rw [hc] at hq
    cases hq
  | cons q' rest =>
    rw [hc] at hq
    obtain rfl : { q' with state := .opened } = q := Option.some.inj hq
    refine ⟨q', rest, rfl, htag, hcaps.trans ?_⟩
    have queued := hsound.queued_of_off hoff hframes q' (by rw [hc]; exact List.mem_cons_self)
    obtain ⟨hunique, -⟩ := hsound
    rw [hc] at hunique
    have others : rest.map (fun j => if j.tag = q'.tag then { j with inFlight := j.inFlight + 1 } else j) = rest :=
      (List.map_congr_left fun j hj => if_neg fun e => (List.pairwise_cons.mp hunique).1 j hj e.symm).trans (List.map_id' _)
    have opens : openFirst (q' :: rest) = { q' with state := .opened } :: rest := by
      unfold openFirst
      rw [queued]
    show (openFirst (s.ch c).captures).map _ = _
    rw [hc, opens, List.map_cons, if_pos rfl]
    exact congrArg (List.cons _) others

variable {due wanted : Bool} (h : CreditsFor m due wanted offered taken lost)
include h

/-- R154: with no credit free a wanted frame counts one lost event, and its GEN_APPLIED, where it is due, another. -/
theorem CreditsFor.lost_of_wanted_full (hwanted : wanted = true) (hfull : 64 ≤ m) : lost = if due then 2 else 1 := by
  cases hdue : due with
  | true =>
    rw [h.lost_of_full hdue hfull, hwanted]
  | false => exact (h.lost_of_not_due hdue).trans (if_pos ⟨hwanted, hfull⟩)

/-- R154: without a wanted frame only a GEN_APPLIED that is due can be lost. -/
theorem CreditsFor.lost_of_unwanted (hwanted : wanted = false) : lost = if due = true ∧ 64 ≤ m then 1 else 0 := by
  cases hdue : due with
  | true =>
    rcases Nat.lt_or_ge m 64 with hfree | hfull
    · rw [(h.offers hdue (.inr ⟨hfree, hwanted⟩)).2, if_neg (by omega)]
    · rw [h.lost_of_full hdue hfull, hwanted, if_pos (c := true = true ∧ 64 ≤ m) ⟨rfl, hfull⟩]
      rfl
  | false =>
    rw [h.lost_of_not_due hdue, if_neg fun e => Bool.false_ne_true (hwanted.symm.trans e.1), if_neg fun e => Bool.false_ne_true e.1]
end

/-- Settles O27. -/
theorem startAcceptedStartsFrameZero : Obligations.StartAcceptedStartsFrameZero := by
  intro s c k g n wanted hp hl hoff hup hfault hcommitted hgoverning hok hsource hn hwanted
  obtain ⟨books, -⟩ := s.ledger_iff.mp hl
  obtain ⟨h, hh, -, -, hc, -, -, hne⟩ := books.presented hp
  have hc : 2 ≤ h.credits := hc
  have check := Channel.startCheck_of_ok hoff hup hfault hcommitted hgoverning hok
  obtain ⟨hframes, hend⟩ := (books.chans c).off_empty (by rw [hoff]; rfl)
  obtain ⟨t, m, offered, taken, lost, f, runs, bound, exact_of_two, now⟩ := State.start_runs hp hl hh hc hne check hgoverning hsource
  have load : s.load = n := hn.symm
  rw [load] at bound exact_of_two
  have started := Channel.started_eq hup g
  obtain ⟨caps, same⟩ := now.channel
  have frame := now.frame
  have hlost : (t.ch c).lostEvents = satAddTimes lost 0 := by rw [same]
  rw [started] at same frame
  have hold : f.hold = .nothing := by
    cases taken with
    | false => exact (now.untaken rfl).2.1
    | true =>
      obtain ⟨q, -, -, -, -, hhold, -⟩ := now.takenBy rfl
      exact hhold
  refine ⟨t, runs, now.kept, now.others, now.pools, by rw [same]; rfl, by rw [same]; rfl, by rw [same]; rfl, by rw [same]; rfl, ?_, ?_,
    ⟨f, ?_, ?_, by rw [frame]; rfl, by rw [frame]; rfl, by rw [frame]; rfl, by rw [frame]; rfl, hold, by rw [frame]; rfl, by rw [frame]; rfl,
      by rw [frame]; rfl, by rw [frame]; rfl, by rw [frame]; rfl, by rw [frame]; rfl, by rw [frame]; rfl, by rw [frame]; rfl, by rw [frame]; rfl,
      by rw [frame]; rfl, by rw [same, frame]; rfl, fun hsound => ?_⟩, fun hreport => ?_, fun hreport => ?_⟩
  · rw [same]
    show FrameTimer.frameStarted (FrameTimer.started (s.ch c).timer g) g = _
    rw [FrameTimer.started, hsource]
    rfl
  · rw [same]
    have up : ({ (s.ch c).link with endMiss := 0, stray := 0, sent := (s.ch c).link.sent ++ [.order (g.order 0)] } : Link).up = true :=
      (Link.up_iff (s.ch c).link).mpr hup
    refine (Link.send_up _ _ up).trans ?_
    exact congrArg (fun l => ({ (s.ch c).link with endMiss := 0, stray := 0, sent := l } : Link)) (List.append_assoc _ _ _)
  · rw [same]
    show (s.ch c).frames ++ [f] = [f]
    rw [hframes]
    rfl
  · rw [frame]
    exact Channel.freeContext_of_empty (ch := s.ch c) hframes
  · have isWanted := Channel.started_wantsFrame hup hoff hframes hsound g
    rw [← hwanted] at isWanted
    have unwanted (h : ¬wanted) : ((s.ch c).started g).wantsFrame g = false := Bool.of_not_eq_true (mt isWanted.mp h)
    have credit : f.credit = taken := now.credit
    refine ⟨fun hnone => ?_, fun hsome => ?_, fun hw hfree hboth => ?_, fun j hj htwo => ?_⟩
    · obtain ⟨htag, -, -, hreason, hcaps⟩ := now.untaken (credit.symm.trans hnone)
      exact ⟨htag, hreason, hcaps.trans (by rw [started])⟩
    · have htaken := credit.symm.trans hsome
      have hw : wanted := by
        refine Classical.byContradiction fun hw => ?_
        rw [now.credits.not_taken (.inl (unwanted hw))] at htaken
        cases htaken
      exact ⟨hw, now.takenByFirst hup hoff hframes hsound htaken⟩
    · rw [credit, hlost]
      obtain ⟨htaken, hnone⟩ := now.credits.takes (isWanted.mpr hw) (by omega) (hboth.imp id fun _ => by omega)
      exact ⟨htaken, by rw [hnone]; rfl⟩
    · obtain rfl := Option.some.inj (hh.symm.trans hj)
      obtain rfl := exact_of_two htwo
      refine ⟨fun hw hfull => ⟨credit.trans (now.credits.not_taken (.inr hfull)), ?_⟩, fun hw => ?_, fun hw hreport hone => ?_⟩
      · rw [hlost, now.credits.lost_of_wanted_full (isWanted.mpr hw) hfull]
        cases g.report <;> rfl
      · rw [hlost, now.credits.lost_of_unwanted (unwanted hw)]
        split <;> rfl
      · obtain ⟨hlast, htaken⟩ := now.credits.contested hreport (isWanted.mpr hw) hone
        refine ⟨by rw [hlost, hlast]; rfl, fun hsome => now.answered ?_, fun hnone => now.both ?_ h hh⟩
        · rw [credit, htaken] at hsome
          simpa using hsome
        · rw [credit, htaken] at hnone
          simpa using hnone
  · exact now.answered (now.credits.not_offered (.inl hreport))
  · refine ⟨now.hand, now.head, now.disabled, fun j hj => ?_⟩
    obtain rfl := Option.some.inj (hh.symm.trans hj)
    refine ⟨fun hfree => now.both ?_ h hh, fun htwo hfull => now.answered (now.credits.not_offered (.inr (by rw [exact_of_two htwo]; exact hfull)))⟩
    refine (now.credits.offers hreport (hfree.imp (fun _ => by omega) fun e => ?_)).1
    obtain ⟨hfew, hsound, hw⟩ := e
    exact ⟨by omega, Bool.of_not_eq_true fun e => hw (hwanted.mpr ((Channel.started_wantsFrame hup hoff hframes hsound g).mp e))⟩
end
end Sys2Proof.Machine
end

section
/-! O51: an accepted ROW, its gap, its group and the output row queue (R46, R47, R51, R55 to R57, R60, R62). -/

namespace Sys2Proof.Machine

/-! ## The sums of a row (R46, R47, R56) -/

theorem blockSums_eq (h n : Nat) (xs : List Nat) : blockSums h n xs = (List.range n).map fun j => ((xs.drop (h * j)).take h).sum := by
  induction n generalizing xs with
  | zero => rfl
  | succ n ih =>
    rw [blockSums, ih, List.range_succ_eq_map, List.map_cons, List.map_map]
    refine congrArg_both _ (by rw [Nat.mul_zero, List.drop_zero]) (List.map_congr_left fun j _ => ?_)
    rw [List.drop_drop, Function.comp_apply, Nat.mul_succ, Nat.add_comm]

/-- What an input row adds to the column sums, column by column of the samples themselves. -/
theorem Snapshot.rowSums_eq {p : Snapshot} (k : Nat) (samples : List Sample) (hdvd : p.mode.h ∣ p.hWidth) :
    p.rowSums k samples = if p.mode = .skip2 ∧ k % 2 = 1 then List.replicate (p.hWidth / p.mode.h) 0
      else (List.range (p.hWidth / p.mode.h)).map fun j =>
        (((samples.drop (p.hStart + p.mode.h * j)).take p.mode.h).map BitVec.toNat).sum := by
  unfold Snapshot.rowSums
  refine ite_congr rfl (fun _ => rfl) fun _ => ?_
  rw [blockSums_eq]
  refine List.map_congr_left fun j hj => ?_
  have inside : p.mode.h * j + p.mode.h ≤ p.hWidth :=
    calc p.mode.h * j + p.mode.h = p.mode.h * (j + 1) := (Nat.mul_succ _ _).symm
      _ ≤ p.mode.h * (p.hWidth / p.mode.h) := Nat.mul_le_mul_left _ (List.mem_range.mp hj)
      _ = p.hWidth := Nat.mul_div_cancel' hdvd
  rw [Snapshot.window, ← List.map_drop, ← List.map_take, List.drop_take, List.take_take, List.drop_drop, Nat.min_eq_left (by omega)]

theorem Snapshot.rowSums_length (p : Snapshot) (k : Nat) (samples : List Sample) : (p.rowSums k samples).length = p.outWidth := by
  unfold Snapshot.rowSums
  split
  · exact List.length_replicate
  · rw [blockSums_eq, List.length_map, List.length_range]

theorem zipWith_zeros (xs : List Nat) : List.zipWith (· + ·) (List.replicate xs.length 0) xs = xs := by
  induction xs with
  | nil => rfl
  | cons x xs ih => rw [List.length_cons, List.replicate_succ, List.zipWith_cons_cons, ih, Nat.zero_add]

/-! ## Output rows handed on (R55, R60, R62) -/

/-- What a frame is told of its output rows: how many more are lost and produced, and which of its flags are set. -/
structure RowTally where
  lost : Nat
  produced : Nat
  gap : Bool
  overflow : Bool

/-- Nothing told. -/
def RowTally.nothing : RowTally := ⟨0, 0, false, false⟩

def Frame.tallied (f : Frame) (a : RowTally) : Frame :=
  { f with lost := f.lost + a.lost, produced := f.produced + a.produced
           flags := { f.flags with gap := f.flags.gap || a.gap, overflow := f.flags.overflow || a.overflow } }

/-- The channel with the frame of context `k` told `a` and the rows `more` queued. -/
def Channel.handing (ch : Channel) (k : ContextId) (a : RowTally) (more : List OutputRow) : Channel :=
  { ch.onFrame k (fun x => x.tallied a) with rows := ch.rows ++ more }

/-- What a frame is told of one finished output row: `room` in the queue, and whether the row is valid. -/
def RowTally.finished (hasBuffer room valid : Bool) : RowTally :=
  { lost := bitNat (hasBuffer && !room && valid), produced := bitNat (!hasBuffer && valid), gap := false, overflow := hasBuffer && !room }

@[simp] theorem Frame.tallied_nothing (f : Frame) : f.tallied .nothing = f := by
  simp [Frame.tallied, RowTally.nothing]

theorem Channel.onFrame_eq_self {ch : Channel} {k : ContextId} {g : Frame → Frame} (h : ∀ x, g x = x) : ch.onFrame k g = ch := by
  rw [Channel.onFrame, show (fun x : Frame => if x.ctx = k then g x else x) = id from funext fun x => by rw [h x]; exact ite_self _, List.map_id]

theorem Channel.onFrame_onFrame (ch : Channel) (k : ContextId) {g : Frame → Frame} (hg : ∀ x, (g x).ctx = x.ctx) (g' : Frame → Frame) :
    (ch.onFrame k g).onFrame k g' = ch.onFrame k fun x => g' (g x) := by
  rw [Channel.onFrame, Channel.onFrame, Channel.onFrame, List.map_map]
  refine congrArg (fun l => { ch with frames := l }) (List.map_congr_left fun x _ => ?_)
  by_cases hx : x.ctx = k
  · simp only [Function.comp_apply, if_pos hx, hg]
  · simp only [Function.comp_apply, if_neg hx]

theorem Channel.handing_nothing (ch : Channel) (k : ContextId) : ch.handing k .nothing [] = ch := by
  rw [Channel.handing, Channel.onFrame_eq_self Frame.tallied_nothing, List.append_nil]

theorem Channel.handOn_eq (ch : Channel) (hasBuffer : Bool) (r : OutputRow) :
    ch.handOn hasBuffer r = ch.handing r.ctx (.finished hasBuffer (decide (ch.rows.length < 8)) r.words.isSome)
      (if hasBuffer = true ∧ ch.rows.length < 8 then [r] else []) := by
  unfold Channel.handOn
  cases hasBuffer with
  | true =>
    by_cases hroom : ch.rows.length < 8
    · rw [if_pos rfl, if_pos hroom, if_pos ⟨rfl, hroom⟩, Channel.handing, Channel.onFrame_eq_self fun x => ?_]
      simp [Frame.tallied, RowTally.finished, hroom, bitNat]
    · rw [if_pos rfl, if_neg hroom, if_neg (c := true = true ∧ _) fun h => hroom h.2, Channel.handing, List.append_nil]
      refine congrArg (ch.onFrame r.ctx) (funext fun x => ?_)
      cases r.words <;> simp [Frame.tallied, RowTally.finished, hroom, bitNat, Frame.overflowValid, Frame.overflowInvalid]
  | false =>
    rw [if_neg Bool.false_ne_true, if_neg (c := false = true ∧ _) fun h => Bool.false_ne_true h.1, Channel.handing, List.append_nil]
    cases r.words with
    | none => exact (Channel.onFrame_eq_self fun x => by simp [Frame.tallied, RowTally.finished, bitNat]).symm
    | some w =>
      refine congrArg (ch.onFrame r.ctx) (funext fun x => ?_)
      simp [Frame.tallied, RowTally.finished, bitNat, Frame.oneProduced]

/-- The `n` invalid rows of context `k` from number `i` on. -/
def invalidRows (k : ContextId) (i n : Nat) : List OutputRow :=
  (List.range n).map fun j => ⟨k, i + j, none⟩

theorem invalidRows_succ (k : ContextId) (i n : Nat) : invalidRows k i (n + 1) = ⟨k, i, none⟩ :: invalidRows k (i + 1) n := by
  rw [invalidRows, List.range_succ_eq_map, List.map_cons, List.map_map]
  refine congrArg _ (List.map_congr_left fun j _ => ?_)
  rw [Function.comp_apply, Nat.add_succ, Nat.succ_add]

/-- Invalid rows of a frame with a buffer: the queue takes as many as it has room for, and the rest set OVERFLOW. -/
theorem Channel.handOnInvalid_buffer (ch : Channel) (k : ContextId) (i n : Nat) :
    ch.handOnInvalid true k i n = ch.handing k { RowTally.nothing with overflow := decide (0 < n ∧ 8 < ch.rows.length + n) }
      ((invalidRows k i n).take (8 - ch.rows.length)) := by
  induction n generalizing ch i with
  | zero => exact (ch.handing_nothing k).symm.trans (by simp [invalidRows, RowTally.nothing])
  | succ n ih =>
    rw [Channel.handOnInvalid, ih, Channel.handOn_eq, invalidRows_succ]
    have twice (a b : RowTally) (m m' : List OutputRow) : (ch.handing k a m).handing k b m'
        = { ch.onFrame k (fun x => (x.tallied a).tallied b) with rows := ch.rows ++ (m ++ m') } := by
      rw [← List.append_assoc]
      exact congrArg (fun d : Channel => { d with rows := ch.rows ++ m ++ m' }) (ch.onFrame_onFrame k (g := fun x => x.tallied a) (fun _ => rfl) fun x => x.tallied b)
    rw [twice]
    by_cases hroom : ch.rows.length < 8
    · rw [if_pos ⟨rfl, hroom⟩]
      obtain ⟨room, hr⟩ := Nat.exists_eq_add_of_lt hroom
      refine congrArg_both (fun (g : Frame → Frame) (l : List OutputRow) => { ch.onFrame k g with rows := l }) (funext fun x => ?_) ?_
      · have same : (0 < n ∧ 8 < ch.rows.length + 1 + n) ↔ (0 < n + 1 ∧ 8 < ch.rows.length + (n + 1)) := by omega
        simp [Frame.tallied, RowTally.finished, RowTally.nothing, Channel.handing, hroom, bitNat, same]
      · rw [show 8 - ch.rows.length = room + 1 by omega, List.take_succ_cons]
        refine congrArg (fun m => ch.rows ++ (_ :: (invalidRows k (i + 1) n).take m)) ?_
        rw [Channel.handing, List.length_append, List.length_singleton]
        omega
    · rw [if_neg fun h => hroom h.2]
      refine congrArg_both (fun (g : Frame → Frame) (l : List OutputRow) => { ch.onFrame k g with rows := l }) (funext fun x => ?_) ?_
      · have beyond : 0 < n + 1 ∧ 8 < ch.rows.length + (n + 1) := by omega
        simp [Frame.tallied, RowTally.finished, RowTally.nothing, hroom, bitNat, beyond]
      · have none : 8 - ch.rows.length = 0 := by omega
        rw [Channel.handing, List.append_nil, none, List.take_zero, List.take_zero, List.append_nil]

/-- Invalid rows of a frame without a buffer are discarded, with nothing to count. -/
theorem Channel.handOnInvalid_discards (ch : Channel) (k : ContextId) (i n : Nat) : ch.handOnInvalid false k i n = ch := by
  induction n generalizing i with
  | zero => rfl
  | succ n ih => exact ih (i + 1)

/-! ## The gap before a row (R55) -/

/-- The output rows that a gap before row `k` marks and counts lost. -/
def Channel.markedRows (ch : Channel) (f : Frame) (k : Nat) : Nat :=
  if f.nextRow < k then (k - 1) / f.snapshot.mode.v + 1 - f.nextRow / f.snapshot.mode.v - (if ch.combiner.invalid then 1 else 0) else 0

/-- The groups that row `k` has passed. -/
def Frame.passedGroups (f : Frame) (k : Nat) : Nat :=
  k / f.snapshot.mode.v - f.nextRow / f.snapshot.mode.v

/-- What the gap before row `k` tells the frame. -/
def Channel.gapTally (ch : Channel) (f : Frame) (k : Nat) : RowTally :=
  { lost := ch.markedRows f k, produced := 0, gap := decide (f.nextRow < k)
    overflow := f.hold.isBuffer && decide (0 < f.passedGroups k ∧ 8 < ch.rows.length + f.passedGroups k) }

/-- The rows that the gap before row `k` puts in the queue. -/
def Channel.gapRows (ch : Channel) (f : Frame) (k : Nat) : List OutputRow :=
  if f.hold.isBuffer then (invalidRows f.ctx (f.nextRow / f.snapshot.mode.v) (f.passedGroups k)).take (8 - ch.rows.length) else []

/-- The combiner as row `k` finds it. -/
def Channel.gapCombiner (ch : Channel) (f : Frame) (k : Nat) : Combiner :=
  if f.passedGroups k = 0 then { ch.combiner with invalid := ch.combiner.invalid || decide (f.nextRow < k) }
  else { Combiner.fresh f.ctx (k / f.snapshot.mode.v) f.snapshot.outWidth with invalid := k % f.snapshot.mode.v != 0 }

theorem Channel.handOnInvalid_eq (ch : Channel) (hasBuffer : Bool) (k : ContextId) (i n : Nat) :
    ch.handOnInvalid hasBuffer k i n = ch.handing k { RowTally.nothing with overflow := hasBuffer && decide (0 < n ∧ 8 < ch.rows.length + n) }
      (if hasBuffer then (invalidRows k i n).take (8 - ch.rows.length) else []) := by
  cases hasBuffer with
  | true => exact ch.handOnInvalid_buffer k i n
  | false => exact (ch.handOnInvalid_discards k i n).trans (ch.handing_nothing k).symm

theorem Channel.gap_eq {ch : Channel} {f : Frame} {k : Nat} (hlt : f.nextRow < k) :
    ch.gap f k = { ch.handing f.ctx (ch.gapTally f k) (ch.gapRows f k) with combiner := ch.gapCombiner f k } := by
  have handed : (ch.onFrame f.ctx fun x => { x with flags := { x.flags with gap := true }, lost := x.lost + ch.markedRows f k }).handOnInvalid
      f.hold.isBuffer f.ctx (f.nextRow / f.snapshot.mode.v) (f.passedGroups k) = ch.handing f.ctx (ch.gapTally f k) (ch.gapRows f k) := by
    rw [Channel.handOnInvalid_eq, Channel.handing,
      Channel.onFrame_onFrame ch f.ctx (g := fun x => { x with flags := { x.flags with gap := true }, lost := x.lost + ch.markedRows f k }) fun _ => rfl]
    refine congrArg (fun g : Frame → Frame => { ch.onFrame f.ctx g with rows := ch.rows ++ ch.gapRows f k }) (funext fun x => ?_)
    simp [Frame.tallied, RowTally.nothing, Channel.gapTally, Channel.onFrame, hlt]
  unfold Channel.gap
  rw [Channel.markedRows, if_pos hlt] at handed
  dsimp only
  by_cases hpassed : f.passedGroups k = 0
  · rw [if_pos (c := _ - _ = 0) hpassed, Channel.gapCombiner, if_pos hpassed, decide_eq_true hlt, Bool.or_true]
    exact congrArg (fun d : Channel => { d with combiner := { d.combiner with invalid := true } }) handed
  · rw [if_neg (c := _ - _ = 0) hpassed, Channel.gapCombiner, if_neg hpassed]
    exact congrArg (fun d : Channel => { d with
      combiner := { Combiner.fresh f.ctx (k / f.snapshot.mode.v) f.snapshot.outWidth with invalid := k % f.snapshot.mode.v != 0 } }) handed

/-- A row that comes in its order finds no gap. -/
theorem Channel.no_gap_eq {ch : Channel} {f : Frame} {k : Nat} (he : f.nextRow = k) :
    ch = { ch.handing f.ctx (ch.gapTally f k) (ch.gapRows f k) with combiner := ch.gapCombiner f k } := by
  have none : f.passedGroups k = 0 := by rw [Frame.passedGroups, he, Nat.sub_self]
  have tally : ch.gapTally f k = .nothing := by simp [Channel.gapTally, Channel.markedRows, none, he, RowTally.nothing]
  have rows : ch.gapRows f k = [] := by simp [Channel.gapRows, none, invalidRows]
  have comb : ch.gapCombiner f k = ch.combiner := by simp [Channel.gapCombiner, none, he]
  rw [tally, rows, comb, Channel.handing_nothing]

/-! ## An accepted row (R56) -/

/-- The output row that row `k` finishes as the last of its group, found open as `r`. -/
def Combiner.finishedRow (r : Combiner) (f : Frame) (k : Nat) (samples : List Sample) : OutputRow :=
  { ctx := f.ctx, index := k / f.snapshot.mode.v
    words := if !r.invalid && r.rowsInGroup + 1 == f.snapshot.mode.v then
      some ((List.zipWith (· + ·) r.sums (f.snapshot.rowSums k samples)).map f.snapshot.mode.word) else none }

/-- The combiner behind row `k`, its group found open as `r`. -/
def Combiner.behind (r : Combiner) (f : Frame) (k : Nat) (samples : List Sample) : Combiner :=
  if (k + 1) % f.snapshot.mode.v = 0 then Combiner.fresh f.ctx (k / f.snapshot.mode.v + 1) f.snapshot.outWidth
  else { r with rowsInGroup := r.rowsInGroup + 1, sums := List.zipWith (· + ·) r.sums (f.snapshot.rowSums k samples) }

/-- What row `k` tells its frame of the group it may finish, with `queued` rows in the queue. -/
def Combiner.rowTally (r : Combiner) (f : Frame) (k : Nat) (samples : List Sample) (queued : Nat) : RowTally :=
  if (k + 1) % f.snapshot.mode.v = 0 then
    .finished f.hold.isBuffer (decide (queued < 8)) (r.finishedRow f k samples).words.isSome
  else .nothing

/-- The row that row `k` puts in a queue of `queued`, if any. -/
def Combiner.rowQueued (r : Combiner) (f : Frame) (k : Nat) (samples : List Sample) (queued : Nat) : List OutputRow :=
  if (k + 1) % f.snapshot.mode.v = 0 ∧ f.hold.isBuffer = true ∧ queued < 8 then [r.finishedRow f k samples] else []

theorem Combiner.rowTally_gap (r : Combiner) (f : Frame) (k : Nat) (samples : List Sample) (queued : Nat) :
    (r.rowTally f k samples queued).gap = false := by
  unfold Combiner.rowTally
  split <;> rfl

theorem Channel.takeRow_eq (ch : Channel) (f : Frame) (k : Nat) (samples : List Sample) :
    ch.takeRow f k samples
      = { (ch.onFrame f.ctx fun x => { x with nextRow := k + 1 }).handing f.ctx (ch.combiner.rowTally f k samples ch.rows.length)
            (ch.combiner.rowQueued f k samples ch.rows.length) with combiner := ch.combiner.behind f k samples } := by
  unfold Channel.takeRow Combiner.rowTally Combiner.rowQueued Combiner.behind
  dsimp only
  by_cases hlast : (k + 1) % f.snapshot.mode.v = 0
  · rw [if_pos hlast, if_pos hlast, if_pos hlast, Channel.handOn_eq]
    simp only [and_iff_right hlast]
    rfl
  · rw [if_neg hlast, if_neg hlast, if_neg hlast, if_neg fun h => hlast h.1, Channel.handing_nothing]
    rfl

/-- The frame behind the accepted row `k`. -/
def Channel.rowTaken (ch : Channel) (f : Frame) (k : Nat) (samples : List Sample) : Frame :=
  { f.tallied (ch.gapTally f k) with nextRow := k + 1 }.tallied
    ((ch.gapCombiner f k).rowTally f k samples (ch.rows ++ ch.gapRows f k).length)

/-- What an accepted row makes of the channel. -/
theorem Channel.combine_eq {ch : Channel} {f : Frame} {k : Nat} (samples : List Sample) (hle : f.nextRow ≤ k)
    (honly : ∀ x ∈ ch.frames, x.ctx = f.ctx → x = f) :
    ch.combine f k samples
      = { ch with frames := ch.frames.map fun x => if x.ctx = f.ctx then ch.rowTaken f k samples else x
                  rows := ch.rows ++ ch.gapRows f k ++ (ch.gapCombiner f k).rowQueued f k samples (ch.rows ++ ch.gapRows f k).length
                  combiner := (ch.gapCombiner f k).behind f k samples } := by
  have found : (if f.nextRow < k then ch.gap f k else ch)
      = { ch.handing f.ctx (ch.gapTally f k) (ch.gapRows f k) with combiner := ch.gapCombiner f k } := by
    split
    next hlt => exact Channel.gap_eq hlt
    next hge => exact Channel.no_gap_eq (by omega)
  rw [Channel.combine, found, Channel.takeRow_eq]
  refine congrArg (fun l => { ch with
    frames := l, combiner := (ch.gapCombiner f k).behind f k samples
    rows := ch.rows ++ ch.gapRows f k ++ (ch.gapCombiner f k).rowQueued f k samples (ch.rows ++ ch.gapRows f k).length }) ?_
  show ((ch.frames.map _).map _).map _ = _
  rw [List.map_map, List.map_map]
  refine List.map_congr_left fun x hx => ?_
  by_cases hc : x.ctx = f.ctx
  · rw [honly x hx hc]
    simp only [Function.comp_apply, if_true, Frame.tallied, Channel.rowTaken]
    rfl
  · simp only [Function.comp_apply, if_neg hc]

theorem Channel.gapCombiner_sums {ch : Channel} {f : Frame} {k : Nat} (samples : List Sample) :
    List.zipWith (· + ·) (ch.gapCombiner f k).sums (f.snapshot.rowSums k samples)
      = if f.passedGroups k = 0 then List.zipWith (· + ·) ch.combiner.sums (f.snapshot.rowSums k samples) else f.snapshot.rowSums k samples := by
  unfold Channel.gapCombiner
  split
  next => rfl
  next => exact (congrArg (fun n => List.zipWith (· + ·) (List.replicate n 0) (f.snapshot.rowSums k samples))
      (f.snapshot.rowSums_length k samples).symm).trans (zipWith_zeros _)

/-- A row that has passed no group, but other rows, is not the first of its group. -/
theorem mod_ne_zero_of_passed {v e k : Nat} (hlt : e < k) (h : k / v - e / v = 0) : k % v ≠ 0 := fun hmod => by
  have whole : v * (k / v) = k := by have := Nat.div_add_mod k v; omega
  have early : v * (e / v) ≤ e := Nat.mul_div_le e v
  have same : v * (k / v) ≤ v * (e / v) := Nat.mul_le_mul_left _ (by omega)
  omega

/-- In the group of row `e`, a later row that is the last of it is not alone in it. -/
theorem mod_of_last {v k : Nat} (hv : 0 < v) (hlast : (k + 1) % v = 0) : k % v + 1 = v := by
  have hlt := Nat.mod_lt k hv
  refine Classical.byContradiction fun hne => ?_
  have small : (k % v + 1) % v = k % v + 1 := Nat.mod_eq_of_lt (by omega)
  rw [← Nat.mod_add_mod, small] at hlast
  omega

/-- A group whose last row has come is whole exactly if it was whole before the row and the row came in its order, or is the group's only row. -/
theorem Channel.gapCombiner_whole {ch : Channel} {f : Frame} {k : Nat} (hle : f.nextRow ≤ k) (hv : 0 < f.snapshot.mode.v)
    (hlast : (k + 1) % f.snapshot.mode.v = 0) (hstands : ch.combiner.Stands f.snapshot.mode.v f.nextRow) :
    (!(ch.gapCombiner f k).invalid && (ch.gapCombiner f k).rowsInGroup + 1 == f.snapshot.mode.v)
      = (!ch.combiner.invalid && (k == f.nextRow || f.snapshot.mode.v == 1)) := by
  have hmod := mod_of_last hv hlast
  rw [Bool.eq_iff_iff]
  simp only [Bool.and_eq_true, Bool.or_eq_true, Bool.not_eq_true', beq_iff_eq]
  unfold Channel.gapCombiner
  by_cases hpassed : f.passedGroups k = 0
  · rw [if_pos hpassed]
    dsimp only
    simp only [Bool.or_eq_false_iff, decide_eq_false_iff_not]
    constructor
    · rintro ⟨⟨hvalid, hge⟩, -⟩
      exact ⟨hvalid, .inl (by omega)⟩
    · rintro ⟨hvalid, hk⟩
      have same : f.nextRow = k := by
        refine Classical.byContradiction fun hne => ?_
        have := mod_ne_zero_of_passed (v := f.snapshot.mode.v) (e := f.nextRow) (by omega) hpassed
        omega
      exact ⟨⟨hvalid, by omega⟩, by rw [hstands.complete hvalid, same]; exact hmod⟩
  · have later : k ≠ f.nextRow := fun e => hpassed (by rw [Frame.passedGroups, e, Nat.sub_self])
    rw [if_neg hpassed]
    dsimp only [Combiner.fresh]
    simp only [bne_eq_false_iff_eq]
    constructor
    · rintro ⟨hfirst, hone⟩
      have one : f.snapshot.mode.v = 1 := by omega
      refine ⟨Bool.eq_false_iff.mpr fun hi => hstands.missing hi ?_, .inr one⟩
      rw [one, Nat.mod_one]
    · rintro ⟨-, hk⟩
      have one : f.snapshot.mode.v = 1 := hk.resolve_left later
      exact ⟨by rw [one, Nat.mod_one], by omega⟩

/-- The output row that an accepted row `k` finishes as the last of its group: whole, or the mark of an invalid one. -/
def Channel.finishedRow (ch : Channel) (f : Frame) (k : Nat) (samples : List Sample) : OutputRow :=
  { ctx := f.ctx, index := k / f.snapshot.mode.v
    words := if !ch.combiner.invalid && (k == f.nextRow || f.snapshot.mode.v == 1) then
        some ((if f.nextRow < k then f.snapshot.rowSums k samples
          else List.zipWith (· + ·) ch.combiner.sums (f.snapshot.rowSums k samples)).map f.snapshot.mode.word) else none }

theorem Channel.gapCombiner_finishedRow {ch : Channel} {f : Frame} {k : Nat} (samples : List Sample) (hle : f.nextRow ≤ k) (hv : 0 < f.snapshot.mode.v)
    (hlast : (k + 1) % f.snapshot.mode.v = 0) (hstands : ch.combiner.Stands f.snapshot.mode.v f.nextRow) :
    (ch.gapCombiner f k).finishedRow f k samples = ch.finishedRow f k samples := by
  unfold Combiner.finishedRow Channel.finishedRow
  rw [Channel.gapCombiner_whole hle hv hlast hstands, Channel.gapCombiner_sums]
  refine congrArg (fun w => OutputRow.mk f.ctx (k / f.snapshot.mode.v) w) ?_
  by_cases hwhole : (!ch.combiner.invalid && (k == f.nextRow || f.snapshot.mode.v == 1)) = true
  · rw [if_pos hwhole, if_pos hwhole]
    refine congrArg (fun sums : List Nat => some (sums.map f.snapshot.mode.word)) ?_
    by_cases hlt : f.nextRow < k
    · rw [if_pos hlt, if_neg]
      intro hpassed
      have first := mod_ne_zero_of_passed hlt hpassed
      simp only [Bool.and_eq_true, Bool.or_eq_true, beq_iff_eq] at hwhole
      obtain e | e := hwhole.2
      · omega
      · rw [e, Nat.mod_one] at first; exact first rfl
    · rw [if_neg hlt, if_pos]
      rw [Frame.passedGroups, show k = f.nextRow by omega, Nat.sub_self]
  · rw [if_neg hwhole, if_neg hwhole]

/-! ## O51 -/

theorem State.upd_congr (s : State) (c : ChannelId) {f g : Channel → Channel} (h : f (s.ch c) = g (s.ch c)) : s.upd c f = s.upd c g := by
  rw [State.upd_eq_emit, State.upd_eq_emit, h]

theorem execRow_of_accepted {s : State} {c : ChannelId} {f : Frame} {g : Geometry} {k : Nat} {samples : List Sample}
    (hcarrier : (s.ch c).link.carrier = true) (hgeo : (s.ch c).link.geometry = some g) (hreading : (s.ch c).reading = some f)
    (hwidth : samples.length = g.width) (hle : f.nextRow ≤ k) (hlt : k < f.snapshot.vRows) :
    exec (.row c f.seq k samples) s = .next (s.upd c fun ch => ch.combine f k samples) := by
  have accepts : f.accepts g.width f.seq k samples.length = true := by
    simp [Frame.accepts, (Channel.reading_some hreading).2, hwidth, hle, hlt]
  have found : (s.ch c).rowAccepted f.seq k samples.length = some f := by
    unfold Channel.rowAccepted
    rw [hgeo, hreading]
    exact if_pos accepts
  show execRow c f.seq k samples s = _
  rw [execRow, if_pos hcarrier, found]

/-- The combiner behind a row that is not the last of its group. -/
theorem Channel.behind_of_inside {ch : Channel} {f : Frame} {k : Nat} (samples : List Sample) (hle : f.nextRow ≤ k)
    (hlast : (k + 1) % f.snapshot.mode.v ≠ 0) {r : Combiner} (hr : r = (ch.gapCombiner f k).behind f k samples) :
    r.rowsInGroup = (if f.nextRow / f.snapshot.mode.v = k / f.snapshot.mode.v then ch.combiner.rowsInGroup + 1 else 1)
      ∧ r.invalid = ((f.passedGroups k == 0 && ch.combiner.invalid) || decide (f.nextRow < k ∧ k % f.snapshot.mode.v ≠ 0))
      ∧ (f.passedGroups k = 0 → r.sums = List.zipWith (· + ·) ch.combiner.sums (f.snapshot.rowSums k samples)
        ∧ r.group = ch.combiner.group ∧ r.serving = ch.combiner.serving)
      ∧ (0 < f.passedGroups k → r.sums = f.snapshot.rowSums k samples ∧ r.group = k / f.snapshot.mode.v ∧ r.serving = some f.ctx) := by
  have sums := Channel.gapCombiner_sums (ch := ch) (f := f) (k := k) samples
  have same : f.passedGroups k = 0 ↔ f.nextRow / f.snapshot.mode.v = k / f.snapshot.mode.v := by
    have := Nat.div_le_div_right (c := f.snapshot.mode.v) hle
    unfold Frame.passedGroups
    omega
  rw [Combiner.behind, if_neg hlast, sums] at hr
  subst hr
  by_cases hpassed : f.passedGroups k = 0
  · rw [if_pos (same.mp hpassed), if_pos hpassed]
    simp only [Channel.gapCombiner, if_pos hpassed]
    refine ⟨trivial, ?_, fun _ => ⟨trivial, trivial, trivial⟩, fun e => absurd hpassed (by omega)⟩
    have first : decide (f.nextRow < k ∧ k % f.snapshot.mode.v ≠ 0) = decide (f.nextRow < k) :=
      decide_eq_decide.mpr (and_iff_left_of_imp fun hlt => mod_ne_zero_of_passed hlt hpassed)
    rw [first, hpassed, beq_self_eq_true, Bool.true_and]
  · have hlt : f.nextRow < k := Nat.lt_of_le_of_ne hle fun e => hpassed (by rw [Frame.passedGroups, e, Nat.sub_self])
    rw [if_neg fun e => hpassed (same.mpr e), if_neg hpassed]
    simp only [Channel.gapCombiner, if_neg hpassed]
    refine ⟨rfl, ?_, fun e => absurd e hpassed, fun _ => ⟨trivial, rfl, rfl⟩⟩
    rw [beq_false_of_ne hpassed, Bool.false_and, Bool.false_or]
    exact Bool.eq_iff_iff.mpr (by simp [hlt])


/-- An output row of a frame without a buffer is discarded, and counted if it is valid. -/
theorem Channel.rowTaken_unbuffered {ch : Channel} {f : Frame} {k : Nat} (samples : List Sample) (hbuffer : f.hold.isBuffer = false)
    (hrow : (k + 1) % f.snapshot.mode.v = 0 → (ch.gapCombiner f k).finishedRow f k samples = ch.finishedRow f k samples) :
    (ch.rowTaken f k samples).flags.overflow = f.flags.overflow ∧ (ch.rowTaken f k samples).lost = f.lost + ch.markedRows f k
      ∧ (ch.rowTaken f k samples).produced = f.produced
        + if (k + 1) % f.snapshot.mode.v = 0 ∧ (ch.finishedRow f k samples).words.isSome = true then 1 else 0 := by
  unfold Channel.rowTaken Combiner.rowTally
  by_cases hlast : (k + 1) % f.snapshot.mode.v = 0
  · rw [if_pos hlast, hrow hlast]
    simp [Frame.tallied, Channel.gapTally, RowTally.finished, hbuffer, hlast, bitNat]
  · rw [if_neg hlast]
    simp [Frame.tallied, Channel.gapTally, RowTally.nothing, hbuffer, hlast]

/-- With a buffer and room for every group passed, the row itself finds room. -/
theorem Channel.rowTaken_room {ch : Channel} {f : Frame} {k : Nat} (samples : List Sample) (hbuffer : f.hold.isBuffer = true)
    (hroom : ch.rows.length + f.passedGroups k < 8)
    (hrow : (k + 1) % f.snapshot.mode.v = 0 → (ch.gapCombiner f k).finishedRow f k samples = ch.finishedRow f k samples) :
    ch.gapRows f k = invalidRows f.ctx (f.nextRow / f.snapshot.mode.v) (f.passedGroups k)
      ∧ (ch.gapCombiner f k).rowQueued f k samples (ch.rows ++ ch.gapRows f k).length
        = (if (k + 1) % f.snapshot.mode.v = 0 then [ch.finishedRow f k samples] else [])
      ∧ (ch.rowTaken f k samples).lost = f.lost + ch.markedRows f k ∧ (ch.rowTaken f k samples).produced = f.produced
      ∧ (ch.rowTaken f k samples).flags.overflow = f.flags.overflow := by
  have rows : ch.gapRows f k = invalidRows f.ctx (f.nextRow / f.snapshot.mode.v) (f.passedGroups k) := by
    rw [Channel.gapRows, if_pos hbuffer, List.take_of_length_le]
    rw [invalidRows, List.length_map, List.length_range]; omega
  have queued : (ch.rows ++ ch.gapRows f k).length < 8 := by
    rw [rows, List.length_append, invalidRows, List.length_map, List.length_range]; exact hroom
  have fits : ¬ (0 < f.passedGroups k ∧ 8 < ch.rows.length + f.passedGroups k) := by omega
  refine ⟨rows, ?_, ?_⟩
  · unfold Combiner.rowQueued
    by_cases hlast : (k + 1) % f.snapshot.mode.v = 0
    · rw [if_pos ⟨hlast, hbuffer, queued⟩, if_pos hlast, hrow hlast]
    · rw [if_neg fun e => hlast e.1, if_neg hlast]
  · unfold Channel.rowTaken Combiner.rowTally
    rw [decide_eq_true queued]
    split <;> simp [Frame.tallied, Channel.gapTally, RowTally.finished, RowTally.nothing, hbuffer, fits, bitNat]

/-- With a buffer and the queue full behind the groups passed, the row itself is lost. -/
theorem Channel.rowTaken_full {ch : Channel} {f : Frame} {k : Nat} (samples : List Sample) (hbuffer : f.hold.isBuffer = true)
    (hfull : 8 ≤ ch.rows.length + f.passedGroups k)
    (hrow : (k + 1) % f.snapshot.mode.v = 0 → (ch.gapCombiner f k).finishedRow f k samples = ch.finishedRow f k samples) :
    ch.gapRows f k = (invalidRows f.ctx (f.nextRow / f.snapshot.mode.v) (f.passedGroups k)).take (8 - ch.rows.length)
      ∧ (ch.gapCombiner f k).rowQueued f k samples (ch.rows ++ ch.gapRows f k).length = []
      ∧ (ch.rowTaken f k samples).lost = f.lost + ch.markedRows f k
        + (if (k + 1) % f.snapshot.mode.v = 0 ∧ (ch.finishedRow f k samples).words.isSome = true then 1 else 0)
      ∧ (ch.rowTaken f k samples).produced = f.produced
      ∧ (ch.rowTaken f k samples).flags.overflow = (f.flags.overflow || decide ((k + 1) % f.snapshot.mode.v = 0)
          || decide (0 < f.passedGroups k ∧ 8 < ch.rows.length + f.passedGroups k)) := by
  have rows : ch.gapRows f k = (invalidRows f.ctx (f.nextRow / f.snapshot.mode.v) (f.passedGroups k)).take (8 - ch.rows.length) := by
    rw [Channel.gapRows, if_pos hbuffer]
  have queued : ¬ (ch.rows ++ ch.gapRows f k).length < 8 := by
    rw [rows, List.length_append, List.length_take, invalidRows, List.length_map, List.length_range]; omega
  refine ⟨rows, if_neg fun e => queued e.2.2, ?_⟩
  unfold Channel.rowTaken Combiner.rowTally
  by_cases hlast : (k + 1) % f.snapshot.mode.v = 0
  · rw [if_pos hlast, hrow hlast, decide_eq_false queued]
    simp [Frame.tallied, Channel.gapTally, RowTally.finished, hbuffer, hlast, bitNat]
  · rw [if_neg hlast]
    simp [Frame.tallied, Channel.gapTally, RowTally.nothing, hbuffer, hlast]

/-- Settles O51. -/
theorem acceptedRowsBuildOutputRows : Obligations.AcceptedRowsBuildOutputRows := by
  unfold Obligations.AcceptedRowsBuildOutputRows
  intro s c f g k samples v marked passed added whole hcarrier hgeo hreading hwidth hle hlt hsound hv hmarked hpassed hadded _ hdvd hwhole
  subst hv hwhole
  obtain rfl : marked = (s.ch c).markedRows f k := hmarked
  obtain rfl : passed = f.passedGroups k := hpassed
  obtain rfl : added = f.snapshot.rowSums k samples := hadded.trans (Snapshot.rowSums_eq k samples hdvd).symm
  obtain ⟨hmem, hstage⟩ := Channel.reading_some hreading
  obtain ⟨-, hcontexts, -, -, -, -, -, hframes⟩ := hsound
  have hstands := (((s.ch c).frameSound_iff f).mp (hframes f hmem)).reading hstage |>.2.2
  have honly : ∀ x ∈ (s.ch c).frames, x.ctx = f.ctx → x = f := fun x hx e =>
    eq_of_nodup_map (List.pairwise_map.mpr hcontexts) hx hmem e
  have hv : 0 < f.snapshot.mode.v := f.snapshot.mode.v_le.1
  have hrow (hlast : (k + 1) % f.snapshot.mode.v = 0) := Channel.gapCombiner_finishedRow samples hle hv hlast hstands
  have whole : ((s.ch c).finishedRow f k samples).words.isSome
      = (!(s.ch c).combiner.invalid && (k == f.nextRow || f.snapshot.mode.v == 1)) := by
    unfold Channel.finishedRow
    dsimp only
    split
    next h => exact h.symm
    next h => exact (Bool.eq_false_iff.mpr h).symm
  have comb := Channel.combine_eq (ch := s.ch c) samples hle honly
  have same : (s.upd c fun ch => ch.combine f k samples).ch c = (s.ch c).combine f k samples := State.ch_upd_same s c _
  refine ⟨s.upd c fun ch => ch.combine f k samples, (s.ch c).rowTaken f k samples, (s.ch c).finishedRow f k samples,
    execRow_of_accepted hcarrier hgeo hreading hwidth hle hlt, ?_⟩
  rw [same, comb]
  refine ⟨?_, rfl, rfl, rfl, ?_, rfl, ⟨rfl, rfl, fun e => if_neg (by rw [e]; decide), fun e => if_pos e⟩,
    fun hin => Channel.behind_of_inside samples hle hin rfl, fun hlast => if_pos hlast, fun hb hroom => ?_, fun hb hfull => ?_, fun hb => ?_⟩
  · exact State.upd_congr s c (by rw [comb])
  · show (f.flags.gap || decide (f.nextRow < k) || (Combiner.rowTally _ f k samples _).gap) = _
    rw [Combiner.rowTally_gap, Bool.or_false]
  · obtain ⟨rows, queued, lost, produced, overflow⟩ := Channel.rowTaken_room samples hb hroom hrow
    refine ⟨?_, lost, produced, overflow⟩
    dsimp only
    rw [queued, rows]; rfl
  · obtain ⟨rows, queued, lost, produced, overflow⟩ := Channel.rowTaken_full samples hb hfull hrow
    refine ⟨?_, ?_, produced, overflow⟩
    · dsimp only
      rw [queued, rows, List.append_nil]; rfl
    · rw [lost, whole]
  · obtain ⟨overflow, lost, produced⟩ := Channel.rowTaken_unbuffered samples hb hrow
    refine ⟨?_, overflow, lost, ?_⟩
    · have nothing : (s.ch c).gapRows f k = [] := if_neg (by rw [hb]; decide)
      dsimp only
      rw [nothing, Combiner.rowQueued, if_neg fun e => by rw [hb] at e; exact Bool.false_ne_true e.2.1, List.append_nil, List.append_nil]
    · rw [produced, whole]

end Sys2Proof.Machine
end

section
/-! Frames, captures and runs that close, in the words of the statements (R87, R105, R111, R112, R125, R128, R129). -/

namespace Sys2Proof.Machine

/-! ## The captures of a frame that closes (R105) -/

section
variable {ch : Channel} {c : ChannelId} {f : Frame}

/-- R105: no DRAINING capture stands without a frame in flight. -/
def Channel.drainsInFlight (ch : Channel) : Prop := ∀ k ∈ ch.captures, k.state = .draining → k.inFlight ≠ 0

theorem CountsFlight.drainsInFlight {tags : List (Option Tag)} (h : CountsFlight ch.captures tags) : ch.drainsInFlight :=
  fun k hk hd => (h.draining k hk hd).2

/-- A capture closes with a posted frame exactly if it was DRAINING with this last frame. -/
theorem Capture.closesWith_posted {k : Capture} {tag : Tag} (whole : Bool) (h : k.state = .draining → k.inFlight ≠ 0) :
    (k.posted tag whole).closesWith tag = (k.tag == tag && k.state == .draining && k.inFlight == 1) := by
  rw [Bool.eq_iff_iff, Capture.closesWith_iff]
  simp only [Capture.posted_tag, Capture.posted_state, Capture.posted_inFlight, Bool.and_eq_true, beq_iff_eq]
  constructor
  · rintro ⟨ht, hd, hn⟩
    rw [if_pos ht] at hn
    exact ⟨⟨ht, hd⟩, by have := h hd; omega⟩
  · rintro ⟨⟨ht, hd⟩, hn⟩
    exact ⟨ht, hd, by rw [if_pos ht, hn]⟩

theorem Channel.capturesLeft_tagged (h : ch.drainsInFlight) {tag : Tag} (ht : f.tag = some tag) (whole : Bool) :
    ch.capturesLeft f whole = ch.capturesAfter tag whole := by
  unfold Channel.capturesLeft Channel.capturesAfter
  rw [ht]
  show ((ch.captures.map fun k => k.posted tag whole).filter fun k => !k.closesWith tag) = _
  rw [List.filter_map]
  exact congrArg (List.map _) (List.filter_congr fun k hk => congrArg _ (Capture.closesWith_posted whole (h k hk)))

theorem Channel.releaseRecords_tagged (h : ch.drainsInFlight) {tag : Tag} (ht : f.tag = some tag) (whole : Bool) :
    ch.releaseRecords c f whole = ch.closedAfter c tag whole := by
  unfold Channel.releaseRecords Channel.closedAfter
  rw [ht]
  show ((ch.captures.map fun k => k.posted tag whole).filter fun k => k.closesWith tag).map _ = _
  have closing : ch.captures.filter ((fun k => k.closesWith tag) ∘ fun k => k.posted tag whole)
      = ch.captures.filter fun k => k.tag == tag && k.state == .draining && k.inFlight == 1 :=
    List.filter_congr fun k hk => Capture.closesWith_posted whole (h k hk)
  rw [List.filter_map, List.map_map, closing]
  refine List.map_congr_left fun k hk => ?_
  have htag : k.tag = tag := by
    have closes := (List.mem_filter.mp hk).2
    simp only [Bool.and_eq_true, beq_iff_eq] at closes
    exact closes.1.1
  rw [Function.comp_apply, closedRecord, Capture.posted, if_pos htag]
  show Completion.captureClosed _ = _
  rw [htag]
  rfl

theorem Channel.capturesLeft_untagged (ht : f.tag = none) (whole : Bool) : ch.capturesLeft f whole = ch.captures := by
  rw [Channel.capturesLeft, ht]

theorem Channel.releaseRecords_untagged (ht : f.tag = none) (whole : Bool) : ch.releaseRecords c f whole = [] := by
  rw [Channel.releaseRecords, ht]

theorem Channel.capturesLeft_eq_abortCaptures (h : ch.drainsInFlight) : ch.capturesLeft f false = ch.abortCaptures f := by
  unfold Channel.abortCaptures
  split
  next ht => exact Channel.capturesLeft_untagged ht false
  next tag ht => exact Channel.capturesLeft_tagged h ht false

/-- What a frame that closes without a header posts. -/
theorem Channel.unwrittenRecords_eq_drop (h : ch.drainsInFlight) (hcredit : f.tag.isSome = f.credit) : ch.unwrittenRecords c f = ch.dropRecords c f := by
  unfold Channel.unwrittenRecords Channel.dropRecords
  rw [← hcredit]
  cases ht : f.tag with
  | none => rw [Channel.releaseRecords_untagged ht]; rfl
  | some tag =>
    rw [Channel.releaseRecords_tagged h ht, frameDroppedRecord, ht]
    rfl

theorem Channel.dropRecords_aborted (haborted : f.flags.aborted = true) : ch.dropRecords c f = ch.abortRecords c f := by
  unfold Channel.dropRecords Channel.abortRecords Frame.droppedAborted
  rw [haborted]
  rfl

/-! ## The captures of a run that ends (R111, R112) -/

theorem CountsFlight.none_in_flight (h : CountsFlight ch.captures []) : ∀ k ∈ ch.captures, k.inFlight = 0 := fun k hk => h.flight k hk

/-- With no frame in flight every capture closes, in queue order. -/
theorem Channel.finishRecords_eq (h : ∀ k ∈ ch.captures, k.inFlight = 0) (event : ChannelEvent) :
    ch.finishRecords c event = ch.endRecords c ch.captures event := by
  unfold Channel.finishRecords Channel.endRecords
  refine congrArg_both _ ?_ rfl
  rw [List.filter_eq_self.mpr, List.map_map]
  · refine List.map_congr_left fun k _ => ?_
    rw [Function.comp_apply, closedRecord]
    unfold Capture.drain
    by_cases hd : k.state = .draining
    · rw [if_pos hd, if_pos hd]
    · rw [if_neg hd, if_neg hd]
      cases event <;> rfl
  · intro k hk
    obtain ⟨j, hj, rfl⟩ := List.mem_map.mp hk
    rw [Capture.drained_drain, h j hj]; rfl

theorem Channel.finished_captures (h : ∀ k ∈ ch.captures, k.inFlight = 0) (e : Ending) : (ch.finished e).captures = [] := by
  show (ch.captures.map _).filter _ = []
  rw [List.filter_eq_nil_iff]
  intro k hk
  obtain ⟨j, hj, rfl⟩ := List.mem_map.mp hk
  rw [Capture.drained_drain, h j hj]
  exact nofun

/-- The records of a run's end name the run and its next sequence number, and nothing else of the channel. -/
theorem Channel.endRecords_congr {a b : Channel} (hrun : b.timer.run = a.timer.run) (hseq : b.timer.nextSeq = a.timer.nextSeq) (caps : List Capture)
    (event : ChannelEvent) : b.endRecords c caps event = a.endRecords c caps event := by
  unfold Channel.endRecords
  rw [hrun, hseq]

theorem Channel.closedAfter_congr {a b : Channel} (hrun : b.timer.run = a.timer.run) (hcaps : b.captures = a.captures) (tag : Tag) (whole : Bool) :
    b.closedAfter c tag whole = a.closedAfter c tag whole := by
  unfold Channel.closedAfter
  rw [hrun, hcaps]

/-! ## How the earliest frame goes on -/

variable {rest : List Frame} {n : Nat}

theorem Channel.advance_drops (hf : ch.frames = f :: rest) (hd : ch.drops f = true) : ch.advance (n + 1) = (ch.released f false).advance n := by
  rw [Channel.advance, hf]
  exact if_pos hd

theorem Channel.advanceRecords_drops (hf : ch.frames = f :: rest) (hd : ch.drops f = true) :
    ch.advanceRecords c (n + 1) = ch.unwrittenRecords c f ++ (ch.released f false).advanceRecords c n := by
  rw [Channel.advanceRecords, hf]
  exact if_pos hd

theorem Channel.drops_of_entersClosing (h : ch.entersClosing f = true) : ch.drops f = false := by
  obtain ⟨hs, _, hb, hn⟩ := Channel.entersClosing_iff.mp h
  rw [Channel.drops, hs, hb, hn]
  simp

theorem Channel.advance_enters (hf : ch.frames = f :: rest) (he : ch.entersClosing f = true) :
    ch.advance (n + 1) = { ch with frames := f.closingAt ch.lostEvents :: rest } := by
  rw [Channel.advance, hf]
  show (if _ then _ else if _ then _ else _) = _
  rw [if_neg (by rw [Channel.drops_of_entersClosing he]; exact Bool.false_ne_true), if_pos he, Channel.withHead, hf]
  rfl

theorem Channel.advanceRecords_stays (hf : ch.frames = f :: rest) (hd : ch.drops f = false) : ch.advanceRecords c n = [] := by
  cases n with
  | zero => rfl
  | succ n =>
    rw [Channel.advanceRecords, hf]
    exact if_neg (by rw [hd]; exact Bool.false_ne_true)

theorem Channel.advance_nil (hf : ch.frames = []) : ch.advance n = ch := by
  cases n with
  | zero => rfl
  | succ n => rw [Channel.advance, hf]

theorem Channel.advanceRecords_nil (hf : ch.frames = []) : ch.advanceRecords c n = [] := by
  cases n with
  | zero => rfl
  | succ n => rw [Channel.advanceRecords, hf]

/-- Rows done and no header to write: the frame closes at once. -/
theorem Channel.drops_of_draining (hs : f.stage = .draining) (hrows : ch.rowsRemain f.ctx = false) (hheader : f.hold.isBuffer = false ∨ f.noHeader = true) :
    ch.drops f = true := by
  rw [Channel.drops, hs]
  obtain h | h := hheader <;> simp [hrows, h]

theorem Channel.drops_of_closing (hs : f.stage = .closing) (hheader : f.noHeader = true) : ch.drops f = true := by
  rw [Channel.drops, hs]
  exact hheader
end

end Sys2Proof.Machine
end

section
/-! O52: the end of a frame's READING, and FRAME_END (R58, R76, R78, R105, R123, R124). -/

namespace Sys2Proof.Machine

/-! ## A run that goes on -/

section
variable {ch : Channel} {c : ChannelId} {f : Frame}

/-- With nothing ending the run, and no STOPPING channel's timer IDLE, the run goes on. -/
structure Channel.GoesOn (ch : Channel) : Prop where
  free : ch.ending = none
  runs : ¬(ch.state = .stopping ∧ ch.timer.state = .idle)

theorem Channel.GoesOn.ended (h : ch.GoesOn) : ch.ended = ch := by
  unfold Channel.ended
  rw [h.free]
  split
  next he => cases he
  next => exact if_neg h.runs
  next => rfl

theorem Channel.GoesOn.endedRecords (h : ch.GoesOn) : ch.endedRecords c = [] := by
  unfold Channel.endedRecords
  rw [h.free]
  split
  next he => cases he
  next => exact if_neg h.runs
  next => rfl

theorem Channel.haltsNow_of_free (h : ch.ending = none) : ch.haltsNow = false := by
  unfold Channel.haltsNow
  rw [h]
  split
  next he => cases he
  next => rfl

theorem Channel.GoesOn.advanced (h : ch.GoesOn) (writes : Bool) : (ch.advanced writes).GoesOn where
  free := by rw [Channel.advanced_ending]; exact h.free
  runs := by rw [Channel.advanced_state, Channel.advanced_timer]; exact h.runs

theorem Channel.GoesOn.settled (h : ch.GoesOn) (writes : Bool) : ch.settled writes = ch.advanced writes := (h.advanced writes).ended

theorem Channel.GoesOn.settledRecords (h : ch.GoesOn) (writes : Bool) :
    ch.settledRecords c writes = (ch.decided writes).advanceRecords c ch.frames.length := by
  rw [Channel.settledRecords, (h.advanced writes).endedRecords, List.append_nil]

/-- With no frame aborted no header is given up. -/
theorem Channel.decided_of_unaborted (h : ∀ f ∈ ch.frames, f.flags.aborted = false) (writes : Bool) : ch.decided writes = ch := by
  cases writes with
  | true => rfl
  | false =>
    have kept : ch.frames.map (fun f => f.giveUpHeader ch.headerWrite.isSome) = ch.frames := by
      refine List.map_congr_left (g := id) (fun f hf => ?_) |>.trans (List.map_id _)
      exact if_neg (by simp [h f hf])
    show { ch with frames := _ } = ch
    rw [kept]

theorem State.settle_of_goesOn {s : State} (h : (s.ch c).GoesOn) :
    s.settle c = s.emit c ((s.ch c).settled s.regs.iface.busWrites) ((s.ch c).settledRecords c s.regs.iface.busWrites) :=
  State.settle_eq_emit_of_not_halts (Channel.haltsNow_of_free (h.advanced _).free)

/-! ## The reading ends (R58) -/

theorem Channel.flush_frames (hctx : ∀ x ∈ ch.frames, x.ctx = f.ctx → x = f) (missed : Bool) :
    (ch.flush f missed).frames = ch.frames.map fun x => if x.ctx = f.ctx then f.flushed ch.combiner.invalid missed else x := by
  refine List.map_congr_left fun x hx => ?_
  split
  next hc => rw [hctx x hx hc]; rfl
  next => rfl

/-- The channel whose READING frame `f` has stopped reading, with its link and its timer as they are then. -/
def Channel.readingEnded (ch : Channel) (f : Frame) (missed : Bool) (link : Link) (timer : FrameTimer) : Channel :=
  { ch.flush f missed with link := link, timer := timer }

section
variable {link : Link} {timer : FrameTimer} {missed : Bool}

theorem Channel.readingEnded_goesOn (hend : ch.ending = none) (htimer : timer.state = .period) : (ch.readingEnded f missed link timer).GoesOn where
  free := hend
  runs h := by
    have := h.2
    rw [show (ch.readingEnded f missed link timer).timer.state = .period from htimer] at this
    cases this

/-- Behind the end of its reading no frame of the channel is READING. -/
theorem Channel.flush_none_reading (hctx : ∀ x ∈ ch.frames, x.ctx = f.ctx → x = f) (honly : ∀ x ∈ ch.frames, x.ctx ≠ f.ctx → x.stage ≠ .reading) :
    ∀ x ∈ (ch.flush f missed).frames, x.stage ≠ .reading := by
  rw [Channel.flush_frames hctx]
  intro x hx
  obtain ⟨y, hy, rfl⟩ := List.mem_map.mp hx
  split
  next => exact nofun
  next hc => exact honly y hy hc

/-- Frames that go on do not start reading. -/
theorem Channel.settled_none_reading (h : ∀ x ∈ ch.frames, x.stage ≠ .reading) (writes : Bool) : ∀ x ∈ (ch.settled writes).frames, x.stage ≠ .reading := by
  refine Channel.settled_induct (P := fun ch => ∀ x ∈ ch.frames, x.stage ≠ .reading) (fun ch h x hx => ?_) (fun ch f rest hf _ h x hx => ?_)
    (fun ch f rest hf _ h x hx => ?_) (fun _ _ _ _ h => h) (fun _ _ _ _ _ h => h) writes h
  · obtain ⟨y, hy, rfl⟩ := List.mem_map.mp hx
    rw [Frame.giveUpHeader_stage]
    exact h y hy
  · exact h x (List.mem_of_mem_tail hx)
  · obtain rfl | hx := List.mem_cons.mp hx
    · exact nofun
    · exact h x (List.mem_of_mem_tail hx)

theorem Channel.reading_eq_none (h : ∀ x ∈ ch.frames, x.stage ≠ .reading) : ch.reading = none :=
  List.find?_eq_none.mpr fun x hx => by simpa using h x hx

/-! ## How the frame goes on -/

/-- A sound channel with a READING frame, as the end of its reading finds it. -/
structure Channel.Reads (ch : Channel) (f : Frame) : Prop where
  accounts : ch.Accounts
  rows : ch.RowAccounts
  reading : ch.reading = some f

variable (h : ch.Reads f)
include h

theorem Channel.Reads.mem : f ∈ ch.frames := (Channel.reading_some h.reading).1

theorem Channel.Reads.stage : f.stage = .reading := (Channel.reading_some h.reading).2

theorem Channel.Reads.period : ch.timer.state = .period := (h.rows.inPeriod h.mem h.stage).1

theorem Channel.Reads.free : ch.ending = none := (h.accounts.toRunFits.of_timer (by rw [h.period]; decide)).2

theorem Channel.Reads.unaborted : ∀ x ∈ ch.frames, x.flags.aborted = false := (h.accounts.rests h.rows h.free).unaborted

theorem Channel.Reads.only : ∀ x ∈ ch.frames, x.ctx = f.ctx → x = f := fun _ hx hc => h.rows.eq_of_ctx hx h.mem hc

theorem Channel.Reads.decided (writes : Bool) : (ch.readingEnded f missed link timer).decided writes = ch.readingEnded f missed link timer := by
  refine Channel.decided_of_unaborted (fun x hx => ?_) writes
  change x ∈ (ch.flush f missed).frames at hx
  rw [Channel.flush_frames h.only] at hx
  obtain ⟨y, hy, rfl⟩ := List.mem_map.mp hx
  split
  next => exact h.unaborted f h.mem
  next => exact h.unaborted y hy

theorem Channel.Reads.settled (htimer : timer.state = .period) (writes : Bool) :
    (ch.readingEnded f missed link timer).settled writes = (ch.readingEnded f missed link timer).advance ch.frames.length := by
  rw [(Channel.readingEnded_goesOn h.free htimer).settled, Channel.advanced, h.decided]
  exact congrArg _ (List.length_map _)

theorem Channel.Reads.settledRecords (htimer : timer.state = .period) (writes : Bool) :
    (ch.readingEnded f missed link timer).settledRecords c writes = (ch.readingEnded f missed link timer).advanceRecords c ch.frames.length := by
  rw [(Channel.readingEnded_goesOn h.free htimer).settledRecords, h.decided]
  exact congrArg _ (List.length_map _)

/-- Behind an earlier frame the frame waits. -/
theorem Channel.Reads.behind {g : Frame} (hf : ch.frames = [g, f]) : (ch.readingEnded f missed link timer).headWaits = true
    ∧ (ch.readingEnded f missed link timer).frames = [g, f.flushed ch.combiner.invalid missed] := by
  have apart : g.ctx ≠ f.ctx := by
    have := h.rows.contexts
    rw [hf] at this
    exact List.rel_of_pairwise_cons this List.mem_cons_self
  have frames : (ch.readingEnded f missed link timer).frames = [g, f.flushed ch.combiner.invalid missed] := by
    rw [Channel.readingEnded]
    show (ch.flush f missed).frames = _
    rw [Channel.flush_frames h.only, hf, List.map_cons, List.map_cons, if_neg apart, if_pos rfl]
    rfl
  refine ⟨?_, frames⟩
  have waits := Channel.headWaits_iff.mp h.rows.waits g (by rw [hf]; rfl)
  refine Channel.headWaits_iff.mpr fun x hx => ?_
  rw [frames] at hx
  obtain rfl := Option.some.inj hx
  exact waits

theorem Channel.Reads.alone (hf : ch.frames = [f]) : (ch.readingEnded f missed link timer).frames = [f.flushed ch.combiner.invalid missed] := by
  show (ch.flush f missed).frames = _
  rw [Channel.flush_frames h.only, hf, List.map_singleton, if_pos rfl]

theorem Channel.Reads.keepsHeader : f.noHeader = false :=
  Bool.of_not_eq_true fun e => by
    have := (h.rows.frames f h.mem).given e
    rw [h.unaborted f h.mem] at this
    cases this

/-- With its rows done and a buffer the frame enters CLOSING. -/
theorem Channel.Reads.enters (hrows : ∀ r ∈ ch.rows, r.ctx ≠ f.ctx) (hb : f.hold.isBuffer = true) :
    (ch.readingEnded f missed link timer).entersClosing (f.flushed ch.combiner.invalid missed) = true :=
  Channel.entersClosing_iff.mpr ⟨rfl, Channel.rowsRemain_eq_false.mpr hrows, hb, h.keepsHeader⟩

/-- With its rows done and no buffer the frame, alone in use, closes at once. -/
theorem Channel.Reads.drops (hf : ch.frames = [f]) (hrows : ∀ r ∈ ch.rows, r.ctx ≠ f.ctx) (hhold : f.hold.isBuffer = false) :
    (ch.readingEnded f missed link timer).advanceRecords c ch.frames.length
        = (ch.readingEnded f missed link timer).unwrittenRecords c (f.flushed ch.combiner.invalid missed)
      ∧ ((ch.readingEnded f missed link timer).advance ch.frames.length).frames = []
      ∧ ((ch.readingEnded f missed link timer).advance ch.frames.length).lastFreed = some f.ctx
      ∧ ((ch.readingEnded f missed link timer).advance ch.frames.length).captures
        = (ch.readingEnded f missed link timer).capturesLeft (f.flushed ch.combiner.invalid missed) false := by
  have frames := h.alone (link := link) (timer := timer) (missed := missed) hf
  have dropped : (ch.readingEnded f missed link timer).drops (f.flushed ch.combiner.invalid missed) = true :=
    Channel.drops_of_draining rfl (Channel.rowsRemain_eq_false.mpr hrows) (.inl hhold)
  have one : ch.frames.length = 0 + 1 := by rw [hf]; rfl
  rw [one, Channel.advance_drops frames dropped, Channel.advanceRecords_drops frames dropped]
  refine ⟨List.append_nil _, ?_, rfl, rfl⟩
  show (ch.readingEnded f missed link timer).frames.tail = []
  rw [frames]; rfl

/-- While rows of its own are queued the frame, alone in use, waits for them. -/
theorem Channel.Reads.waitsForRows (hf : ch.frames = [f]) (hrows : ∃ r ∈ ch.rows, r.ctx = f.ctx) : (ch.readingEnded f missed link timer).headWaits = true := by
  refine Channel.headWaits_iff.mpr fun x hx => ?_
  rw [h.alone hf] at hx
  obtain rfl := Option.some.inj hx
  refine ⟨fun _ => ?_, nofun⟩
  obtain ⟨r, hr, hc⟩ := hrows
  exact List.any_eq_true.mpr ⟨r, hr, beq_iff_eq.mpr hc⟩

/-- A frame with a buffer, alone in use, stays in use. -/
theorem Channel.Reads.buffered (hf : ch.frames = [f]) (hb : f.hold.isBuffer = true) (htimer : timer.state = .period) (writes : Bool) :
    ∃ y, ((ch.readingEnded f missed link timer).settled writes).frames = [y]
      ∧ ((ch.readingEnded f missed link timer).settled writes).captures = ch.captures
      ∧ (ch.readingEnded f missed link timer).settledRecords c writes = []
      ∧ (y = f.flushed ch.combiner.invalid missed ∨ y = (f.flushed ch.combiner.invalid missed).closingAt ch.lostEvents) := by
  have frames := h.alone (link := link) (timer := timer) (missed := missed) hf
  have one : ch.frames.length = 0 + 1 := by rw [hf]; rfl
  rw [h.settled htimer, h.settledRecords htimer, one]
  by_cases hrows : ∃ r ∈ ch.rows, r.ctx = f.ctx
  · have waits := h.waitsForRows (link := link) (timer := timer) (missed := missed) hf hrows
    rw [Channel.advance_of_waits waits, Channel.advanceRecords_of_waits waits]
    exact ⟨_, frames, rfl, rfl, .inl rfl⟩
  · have enters := h.enters (link := link) (timer := timer) (missed := missed) (fun r hr e => hrows ⟨r, hr, e⟩) hb
    rw [Channel.advance_enters frames enters, Channel.advanceRecords_stays frames (Channel.drops_of_entersClosing enters)]
    exact ⟨_, rfl, rfl, rfl, .inr rfl⟩
end

/-- What the end of its reading does with the READING frame while the run goes on. -/
theorem State.frameEnded_of {s t : State} {ended : Frame} {link : Link} {timer : FrameTimer} {missed writes : Bool} (h : (s.ch c).Reads f)
    (hsound : (s.ch c).queueSound) (htimer : timer.state = .period) (hrun : timer.run = (s.ch c).timer.run) (hended : ended = f.flushed (s.ch c).combiner.invalid missed)
    (hcpl : t.cpl = (s.emit c (s.ch c) (((s.ch c).readingEnded f missed link timer).settledRecords c writes)).cpl)
    (hframes : (t.ch c).frames = (((s.ch c).readingEnded f missed link timer).settled writes).frames)
    (hlast : (t.ch c).lastFreed = (((s.ch c).readingEnded f missed link timer).settled writes).lastFreed)
    (hcaps : (t.ch c).captures = (((s.ch c).readingEnded f missed link timer).settled writes).captures) : s.frameEnded t c f ended := by
  subst hended
  rw [h.settledRecords htimer] at hcpl
  rw [h.settled htimer] at hframes hlast hcaps
  have silent (e : ((s.ch c).readingEnded f missed link timer).advanceRecords c (s.ch c).frames.length = []) : t.cpl = s.cpl := by
    rw [hcpl, e, State.emit_self]
  have waits (hw : ((s.ch c).readingEnded f missed link timer).headWaits = true) : t.cpl = s.cpl
      ∧ (t.ch c).frames = ((s.ch c).readingEnded f missed link timer).frames ∧ (t.ch c).captures = (s.ch c).captures := by
    rw [Channel.advance_of_waits hw] at hframes hcaps
    exact ⟨silent (Channel.advanceRecords_of_waits hw c _), hframes, hcaps⟩
  have drops (hf : (s.ch c).frames = [f]) (hrows : ∀ r ∈ (s.ch c).rows, r.ctx ≠ f.ctx) (hhold : f.hold.isBuffer = false) :=
    h.drops (c := c) (link := link) (timer := timer) (missed := missed) hf hrows hhold
  refine ⟨fun g hf => ?_, fun hf hrows => ?_, fun d hf hrows hhold => ?_, fun hf hrows hhold hcredit htag => ?_,
    fun tag reason hf hrows hhold hcredit htag hreason => ?_⟩
  · obtain ⟨hw, frames⟩ := h.behind (link := link) (timer := timer) (missed := missed) hf
    rw [← frames]
    exact waits hw
  · rw [← h.alone (link := link) (timer := timer) (missed := missed) hf]
    exact waits (h.waitsForRows hf hrows)
  · have frames := h.alone (link := link) (timer := timer) (missed := missed) hf
    have enters := h.enters (link := link) (timer := timer) (missed := missed) hrows (congrArg Hold.isBuffer hhold)
    have one : (s.ch c).frames.length = 0 + 1 := by rw [hf]; rfl
    rw [one, Channel.advance_enters frames enters] at hframes hcaps
    exact ⟨silent (Channel.advanceRecords_stays frames (Channel.drops_of_entersClosing enters)), hframes, hcaps⟩
  · have frames := h.alone (link := link) (timer := timer) (missed := missed) hf
    obtain ⟨records, dropped, last, caps⟩ := drops hf hrows hhold
    refine ⟨?_, hframes.trans dropped, hlast.trans last, hcaps.trans (caps.trans (Channel.capturesLeft_untagged (f := f.flushed _ missed) htag false))⟩
    refine silent (records.trans ?_)
    rw [Channel.unwrittenRecords, show (f.flushed _ missed).credit = false from hcredit,
      Channel.releaseRecords_untagged (f := f.flushed _ missed) htag]
    rfl
  · have inFlight : ((s.ch c).readingEnded f missed link timer).drainsInFlight := ((s.ch c).queueSound_iff.mp hsound).2.drainsInFlight (ch := s.ch c)
    obtain ⟨records, dropped, last, caps⟩ := drops hf hrows hhold
    refine ⟨hframes.trans dropped, hlast.trans last, hcaps.trans (caps.trans (Channel.capturesLeft_tagged inFlight htag false)), ?_⟩
    rw [hcpl, records]
    refine congrArg (s.cpl.queue ++ ·) ?_
    rw [Channel.unwrittenRecords, show (f.flushed _ missed).credit = true from hcredit,
      Channel.releaseRecords_tagged (f := f.flushed _ missed) inFlight htag, frameDroppedRecord]
    rw [show (f.flushed _ missed).flags.aborted = false from h.unaborted f h.mem, show (f.flushed _ missed).tag = some tag from htag,
      show (f.flushed _ missed).dropReason = some reason from hreason, Channel.closedAfter_congr (a := s.ch c) (b := (s.ch c).readingEnded f missed link timer) hrun rfl]
    rfl
end

/-! ## O52 -/

theorem Channel.frameEnded_of {ch : Channel} {f : Frame} {n : Nat} (hf : ch.reading = some f) (hn : n ≤ f.snapshot.vRows) :
    ch.frameEnded f.seq n = some f := by
  rw [Channel.frameEnded, hf]
  exact if_pos ⟨rfl, hn⟩

/-- A sound state's channel with a READING frame. -/
theorem State.reads {s : State} {c : ChannelId} {f : Frame} (hl : s.ledger) (hr : s.rowsSound) (hf : (s.ch c).reading = some f) : (s.ch c).Reads f where
  accounts := (s.ledger_iff.mp hl).1.chans c
  rows := (s.rowsSound_iff.mp hr).1 c
  reading := hf

/-- What the end of its reading leaves of the channel. -/
theorem Channel.Reads.settled_kept {ch : Channel} {f : Frame} (h : ch.Reads f) {link : Link} {timer : FrameTimer} {missed : Bool}
    (htimer : timer.state = .period) (writes : Bool) {b : Channel} (hb : b = (ch.readingEnded f missed link timer).settled writes) :
    b.link = link ∧ b.combiner.serving = none ∧ b.reading = none ∧ b.state = ch.state ∧ b.timer = timer ∧ b.table = ch.table ∧ b.rows = ch.rows := by
  have quiet : b.reading = none := by
    rw [hb]
    exact Channel.reading_eq_none (Channel.settled_none_reading (ch := ch.readingEnded f missed link timer)
      (Channel.flush_none_reading (missed := missed) h.only fun x hx hc => h.rows.reading_alone h.mem h.stage hx hc) writes)
  rw [(Channel.readingEnded_goesOn (link := link) (timer := timer) (missed := missed) (f := f) h.free htimer).settled] at hb
  refine ⟨?_, ?_, ?_, ?_, ?_, ?_, ?_⟩
  · rw [hb, Channel.advanced_link]; rfl
  · rw [hb, Channel.advanced_combiner]; rfl
  · exact quiet
  · rw [hb, Channel.advanced_state]; rfl
  · rw [hb, Channel.advanced_timer]; rfl
  · rw [hb, Channel.advanced_table]; rfl
  · rw [hb, Channel.advanced_rows]; rfl

/-- The channel behind a FRAME_END on time, before its frames go on. -/
def Channel.frameEndTaken (ch : Channel) (f : Frame) : Channel :=
  ch.readingEnded f false { ch.link with endMiss := 0 } ch.timer

theorem execFrameEnd_of_ended {s : State} {c : ChannelId} {f : Frame} {n : Nat} (h : (s.ch c).Reads f) (hcarrier : (s.ch c).link.carrier = true)
    (hup : (s.ch c).link.geometry.isSome = true) (hn : n ≤ f.snapshot.vRows) :
    exec (.frameEnd c f.seq n) s = .next (s.emit c (((s.ch c).frameEndTaken f).settled s.regs.iface.busWrites)
      (((s.ch c).frameEndTaken f).settledRecords c s.regs.iface.busWrites)) := by
  show execFrameEnd c f.seq n s = _
  rw [execFrameEnd, if_pos ⟨hcarrier, hup⟩, Channel.frameEnded_of h.reading hn]
  show Host.Outcome.next ((s.upd c fun ch => ch.frameEndTaken f).settle c) = _
  have taken : (s.upd c fun ch => ch.frameEndTaken f).ch c = (s.ch c).frameEndTaken f := State.ch_upd_same s c _
  rw [State.settle_of_goesOn (by rw [taken]; exact Channel.readingEnded_goesOn h.free h.period), taken, State.upd_eq_emit, State.emit_emit]
  rfl

/-- Settles O52. -/
theorem frameEndFlushesTheFrame : Obligations.FrameEndFlushesTheFrame := by
  unfold Obligations.FrameEndFlushesTheFrame
  refine fun s c seq rowsSent => ⟨fun hnot => ?_, ?_⟩
  · show execFrameEnd c seq rowsSent s = _
    unfold execFrameEnd
    split
    next hup =>
      split
      next f hf =>
        obtain ⟨hr, hseq, hrows⟩ := Channel.frameEnded_eq_some hf
        exact absurd ⟨hup.1, hup.2, f, hr, hseq, hrows⟩ hnot
      next => rfl
    next => rfl
  · intro f ended hcarrier hup hf hseq hrows hl hr hsound hended
    subst hseq
    have h := State.reads hl hr hf
    have flushed : ended = f.flushed (s.ch c).combiner.invalid false := by
      rw [hended, Frame.flushed, Bool.or_false]
      rfl
    refine ⟨_, execFrameEnd_of_ended h hcarrier hup hrows, rfl, rfl, rfl, rfl, rfl, fun d hd => State.emit_ch_ne _ _ _ _ hd, ?_⟩
    obtain ⟨link, combiner, reading, state, timer, table, rows⟩ := h.settled_kept (link := { (s.ch c).link with endMiss := 0 }) (missed := false) h.period
      s.regs.iface.busWrites (State.emit_ch_same s c _ (((s.ch c).frameEndTaken f).settledRecords c s.regs.iface.busWrites))
    refine ⟨link, combiner, reading, state, timer, table, rows, ?_⟩
    exact State.frameEnded_of (writes := s.regs.iface.busWrites) h hsound h.period rfl flushed rfl (by rw [State.emit_ch_same]; rfl)
      (by rw [State.emit_ch_same]; rfl) (by rw [State.emit_ch_same]; rfl)

end Sys2Proof.Machine
end

section
/-! The end of a run: what its frames, its captures and the channel come to (R88, R91, R95, R111, R112, R128, R129). -/

namespace Sys2Proof.Machine

section
variable {ch : Channel} {c : ChannelId} {f g : Frame}

/-! ## What going on keeps -/

theorem Channel.queueSound_advanced (writes : Bool) (h : ch.queueSound) : (ch.advanced writes).queueSound := by
  refine Channel.advanced_induct (P := Channel.queueSound) (fun ch h => ?_) (fun ch f rest hf _ h => Channel.queueSound_released false hf h)
    (fun ch f rest hf _ h => ?_) writes h
  · refine Channel.queueSound_congr (b := ch.givenUp) h rfl rfl (map_tag_map fun f => ?_)
    unfold Frame.giveUpHeader
    split <;> rfl
  · refine Channel.queueSound_congr (b := ch.withHead _) h rfl rfl ?_
    rw [Channel.withHead, hf]; rfl

/-- A change that keeps tags and states keeps the standing captures' tags, whatever DRAINING ones it closes. -/
theorem standingTags_mapFilter (caps : List Capture) {g : Capture → Capture} {p : Capture → Bool} (htag : ∀ k, (g k).tag = k.tag)
    (hstate : ∀ k, (g k).state = k.state) (hp : ∀ k, (g k).state ≠ .draining → p (g k) = true) :
    (((caps.map g).filter p).filter fun k => k.state != .draining).map Capture.tag = (caps.filter fun k => k.state != .draining).map Capture.tag := by
  induction caps with
  | nil => rfl
  | cons k rest ih =>
    by_cases hk : (g k).state = .draining
    · have hk' := (hstate k).symm.trans hk
      cases hpk : p (g k) <;> simp only [List.map_cons, List.filter_cons, hpk, if_true, if_neg Bool.false_ne_true] <;> simpa [hk, hk'] using ih
    · have hk' : k.state ≠ .draining := fun e => hk ((hstate k).trans e)
      simp only [List.map_cons, List.filter_cons, hp k hk, if_true]
      simpa [hk, hk', htag] using ih

theorem Channel.standingTags_capturesLeft (whole : Bool) :
    ((ch.capturesLeft f whole).filter fun k => k.state != .draining).map Capture.tag = ch.standingCaptures.map Capture.tag := by
  unfold Channel.capturesLeft
  cases f.tag with
  | none => rfl
  | some tag =>
    refine standingTags_mapFilter ch.captures (fun k => k.posted_tag tag whole) (fun k => k.posted_state tag whole) fun k hk => ?_
    rw [Bool.not_eq_true', ← Bool.not_eq_true, Capture.closesWith_iff]
    exact fun h => hk h.2.1

/-- The captures that do not drain stay while frames go on. -/
theorem Channel.advanced_standingTags (writes : Bool) :
    (ch.advanced writes).standingCaptures.map Capture.tag = ch.standingCaptures.map Capture.tag :=
  Channel.advanced_induct (P := fun b => b.standingCaptures.map Capture.tag = ch.standingCaptures.map Capture.tag) (fun _ h => h)
    (fun _ _ _ _ _ h => (Channel.standingTags_capturesLeft false).trans h) (fun _ _ _ _ _ h => h) writes rfl

/-- Every frame in use is aborted or has its header handed. -/
def Channel.allAborted (ch : Channel) : Prop :=
  ∀ f ∈ ch.frames, f.flags.aborted = true ∨ f.stage = .closing ∧ ch.headerWrite.isSome = true

theorem Channel.allAborted_settled (writes : Bool) (h : ch.allAborted) : (ch.settled writes).allAborted := by
  refine Channel.settled_induct (P := Channel.allAborted) (fun ch h x hx => ?_) (fun ch f rest hf _ h x hx => h x (List.mem_of_mem_tail hx))
    (fun ch f rest hf he h x hx => ?_) (fun _ _ _ _ h => h) (fun _ _ _ _ _ h => h) writes h
  · obtain ⟨y, hy, rfl⟩ := List.mem_map.mp hx
    obtain e | ⟨haborted, _, e⟩ := y.giveUpHeader_cases ch.headerWrite.isSome
    · rw [e]; exact h y hy
    · rw [e]; exact .inl haborted
  · obtain rfl | hx := List.mem_cons.mp hx
    · obtain e | e := h f (by rw [hf]; exact List.mem_cons_self)
      · exact .inl e
      · exact absurd e.1 (by rw [(Channel.entersClosing_iff.mp he).1]; exact nofun)
    · exact h x (List.mem_of_mem_tail hx)

/-! ## The last frame has closed, or has not -/

theorem Channel.ended_of_frames_ne (h : ch.frames ≠ []) : ch.ended = ch ∧ ch.endedRecords c = [] := by
  unfold Channel.ended Channel.endedRecords
  split
  next hf _ => exact absurd hf h
  next hf _ => exact absurd hf h
  next => exact ⟨rfl, rfl⟩

theorem Channel.ended_of_ending {e : Ending} (hf : ch.frames = []) (he : ch.ending = some e) :
    ch.ended = ch.finished e ∧ ch.endedRecords c = ch.finishRecords c e.event := by
  unfold Channel.ended Channel.endedRecords
  rw [hf, he]
  exact ⟨rfl, rfl⟩

/-- A run that something ends: with frames left it waits, and with the last frame it ends, its captures closed. -/
theorem Channel.settled_of_ending {e : Ending} (he : ch.ending = some e) (writes : Bool) {b : Channel} (hb : b = ch.settled writes) :
    (b.frames ≠ [] → b = ch.advanced writes ∧ ch.settledRecords c writes = (ch.decided writes).advanceRecords c ch.frames.length)
    ∧ (b.frames = [] → b = (ch.advanced writes).finished e
      ∧ ch.settledRecords c writes = (ch.decided writes).advanceRecords c ch.frames.length ++ (ch.advanced writes).finishRecords c e.event) := by
  have frames : b.frames = (ch.advanced writes).frames := by rw [hb, Channel.settled, Channel.ended_frames]
  rw [frames]
  refine ⟨fun h => ?_, fun h => ?_⟩
  · obtain ⟨same, none⟩ := Channel.ended_of_frames_ne (c := c) h
    rw [hb, Channel.settled, same, Channel.settledRecords, none, List.append_nil]
    exact ⟨rfl, rfl⟩
  · obtain ⟨same, records⟩ := Channel.ended_of_ending (c := c) h ((Channel.advanced_ending ch writes).trans he)
    rw [hb, Channel.settled, same, Channel.settledRecords, records]
    exact ⟨rfl, rfl⟩

/-- What the end of a run leaves of the channel. -/
theorem Channel.settled_of_ending_kept {e : Ending} (he : ch.ending = some e) (hsound : ch.queueSound) (writes : Bool) {b : Channel}
    (hb : b = ch.settled writes) :
    b.timer = ch.timer ∧ b.link = ch.link ∧ b.faultCause = ch.faultCause ∧ b.combiner = ch.combiner ∧ b.rows = ch.rows
      ∧ b.headerWrite = ch.headerWrite ∧ b.rowWrite = ch.rowWrite
      ∧ (b.frames = [] → b.state = e.event.endState ∧ b.standing = false ∧ b.ending = none ∧ b.captures = [] ∧ b.table = ch.table.cleared
        ∧ (ch.settledRecords c writes).getLast? = some (.channelEvent c ch.timer.run e.event ch.timer.nextSeq))
      ∧ (b.frames ≠ [] → b.state = ch.state ∧ b.standing = ch.standing ∧ b.ending = some e ∧ b.table = ch.table
        ∧ b.standingCaptures.map Capture.tag = ch.standingCaptures.map Capture.tag) := by
  obtain ⟨waits, ends⟩ := Channel.settled_of_ending (c := c) he writes hb
  refine ⟨by simp [hb], by simp [hb], ?_, by simp [hb], by simp [hb], by simp [hb], by simp [hb], fun h => ?_, fun h => ?_⟩
  · by_cases h : b.frames = []
    · rw [(ends h).1]
      exact Channel.advanced_faultCause ch writes
    · rw [(waits h).1]
      exact Channel.advanced_faultCause ch writes
  · obtain ⟨hfin, records⟩ := ends h
    have frames : (ch.advanced writes).frames = [] := by rw [hfin] at h; exact h
    have flight := ((ch.advanced writes).queueSound_iff.mp (Channel.queueSound_advanced writes hsound)).2
    rw [frames] at flight
    refine ⟨by rw [hfin]; rfl, by rw [hfin]; rfl, by rw [hfin]; rfl, ?_, ?_, ?_⟩
    · rw [hfin, Channel.finished_captures flight.none_in_flight]
    · rw [hfin]
      exact congrArg SettingsTable.cleared (Channel.advanced_table ch writes)
    · rw [records, Channel.finishRecords, ← List.append_assoc, List.getLast?_concat, channelEventRecord, Channel.advanced_timer]
  · obtain ⟨same, _⟩ := waits h
    rw [same]
    exact ⟨Channel.advanced_state ch writes, Channel.advanced_standing ch writes, (Channel.advanced_ending ch writes).trans he,
      Channel.advanced_table ch writes, Channel.advanced_standingTags writes⟩

/-! ## One or two frames in use -/

/-- The channel behind the close of frame `f` without a header. -/
theorem Channel.released_eq (hsound : ch.queueSound) (hf : ch.frames = f :: rest) :
    ch.released f false = { ch with frames := rest, lastFreed := some f.ctx, captures := ch.abortCaptures f } := by
  rw [Channel.released, Channel.capturesLeft_eq_abortCaptures (ch.queueSound_iff.mp hsound).2.drainsInFlight, hf]
  rfl

theorem Channel.dropRecords_eq (hsound : ch.queueSound) (hcredit : f.tag.isSome = f.credit) : ch.unwrittenRecords c f = ch.dropRecords c f :=
  Channel.unwrittenRecords_eq_drop (ch.queueSound_iff.mp hsound).2.drainsInFlight hcredit

/-- The last frame closes without a header. -/
theorem Channel.advance_last (hsound : ch.queueSound) (hf : ch.frames = [f]) (hd : ch.drops f = true) :
    ch.advance 1 = { ch with frames := [], lastFreed := some f.ctx, captures := ch.abortCaptures f } := by
  rw [Channel.advance_drops hf hd, Channel.released_eq hsound hf]
  rfl

theorem Channel.advanceRecords_last (hsound : ch.queueSound) (hf : ch.frames = [f]) (hd : ch.drops f = true) (hcredit : f.tag.isSome = f.credit) :
    ch.advanceRecords c 1 = ch.dropRecords c f := by
  rw [Channel.advanceRecords_drops hf hd, Channel.dropRecords_eq hsound hcredit]
  exact List.append_nil _

/-- The channel behind the close of the earlier of two frames without a header. -/
def Channel.behindFirst (ch : Channel) (f g : Frame) : Channel :=
  { ch with frames := [g], lastFreed := some f.ctx, captures := ch.abortCaptures f }

theorem Channel.behindFirst_sound (hsound : ch.queueSound) (hf : ch.frames = [f, g]) : (ch.behindFirst f g).queueSound := by
  have := Channel.queueSound_released false hf hsound
  rwa [Channel.released_eq hsound hf] at this

theorem Channel.advance_first (hsound : ch.queueSound) (hf : ch.frames = [f, g]) (hd : ch.drops f = true) :
    ch.advance 2 = (ch.behindFirst f g).advance 1 := by
  rw [Channel.advance_drops hf hd, Channel.released_eq hsound hf]
  rfl

theorem Channel.advanceRecords_first (hsound : ch.queueSound) (hf : ch.frames = [f, g]) (hd : ch.drops f = true) (hcredit : f.tag.isSome = f.credit) :
    ch.advanceRecords c 2 = ch.dropRecords c f ++ (ch.behindFirst f g).advanceRecords c 1 := by
  rw [Channel.advanceRecords_drops hf hd, Channel.dropRecords_eq hsound hcredit, Channel.released_eq hsound hf]
  rfl

end

/-! ## The abort of the frames in use (R128, R129) -/

/-- What an abort, and the giving up of headers where the interface does not write, make of a frame: one whose header is handed is left alone. -/
def Frame.cutOff (f : Frame) (handed writes : Bool) (now : Nat) : Frame :=
  if f.stage = .closing ∧ handed = true then f
  else { f with
    stage := if f.stage = .closing then .closing else .draining
    flags := { f.flags with aborted := true }
    lostEvents := if f.stage = .closing then some now else f.lostEvents
    noHeader := f.noHeader || !writes }

theorem Frame.abort_cutOff (f : Frame) (handed writes : Bool) (now : Nat) :
    (if writes then f.abort handed now else (f.abort handed now).giveUpHeader handed) = f.cutOff handed writes now := by
  unfold Frame.cutOff Frame.giveUpHeader Frame.abort
  cases hs : f.stage <;> cases handed <;> cases writes <;> simp [hs]

theorem Frame.cutOff_closing {f : Frame} (hs : f.stage = .closing) (writes : Bool) (now : Nat) :
    f.cutOff false writes now = { f.abortedClosing now with noHeader := f.noHeader || !writes } := by
  rw [Frame.cutOff, if_neg fun e => Bool.false_ne_true e.2, if_pos hs, if_pos hs, Frame.abortedClosing]

theorem Frame.cutOff_open {f : Frame} (hs : f.stage ≠ .closing) (handed writes : Bool) (now : Nat) :
    f.cutOff handed writes now = f.abortedBehind writes := by
  rw [Frame.cutOff, if_neg fun e => hs e.1, if_neg hs, if_neg hs, Frame.abortedBehind]

/-- The channel whose run `event` ends, with its link and its fault cause as they are then. -/
def Channel.cut (ch : Channel) (event : ChannelEvent) (link : Link) (cause : Option FaultCause) : Channel :=
  { ch.aborted event with link := link, faultCause := cause }

section
variable {ch : Channel} {c : ChannelId} {event : ChannelEvent} {link : Link} {cause : Option FaultCause}

theorem Channel.cut_decided_frames (writes : Bool) :
    ((ch.cut event link cause).decided writes).frames = ch.frames.map fun f => f.cutOff ch.headerWrite.isSome writes ch.lostEvents := by
  have aborted : (ch.cut event link cause).frames = ch.frames.map fun f => f.abort ch.headerWrite.isSome ch.lostEvents := rfl
  cases writes with
  | true =>
    show (ch.cut event link cause).frames = _
    rw [aborted]
    exact List.map_congr_left fun f _ => f.abort_cutOff _ true _
  | false =>
    show ((ch.cut event link cause).frames.map _) = _
    rw [aborted, List.map_map]
    exact List.map_congr_left fun f _ => f.abort_cutOff _ false _

theorem Channel.cut_sound (hsound : ch.queueSound) : (ch.cut event link cause).queueSound :=
  Channel.queueSound_congr (b := ch.cut event link cause) hsound rfl rfl (map_tag_map fun f => by
    unfold Frame.abort
    split
    · split <;> rfl
    · rfl
    · rfl)

theorem Channel.cut_allAborted : (ch.cut event link cause).allAborted := by
  intro x hx
  obtain ⟨f, hf, rfl⟩ := List.mem_map.mp hx
  obtain ⟨e, _⟩ | ⟨hs, hh, e⟩ := f.abort_cases ch.headerWrite.isSome ch.lostEvents
  · exact .inl e
  · rw [e]; exact .inr ⟨hs, hh⟩

theorem Channel.decided_sound (writes : Bool) (hsound : ch.queueSound) : (ch.decided writes).queueSound := by
  cases writes with
  | true => exact hsound
  | false =>
    refine Channel.queueSound_congr (b := ch.givenUp) hsound rfl rfl (map_tag_map fun f => ?_)
    unfold Frame.giveUpHeader
    split <;> rfl

/-! ## Frames and captures seen from the channel before -/

theorem Channel.abortCaptures_congr {a b : Channel} {f f' : Frame} (hcaps : b.captures = a.captures) (htag : f'.tag = f.tag) :
    b.abortCaptures f' = a.abortCaptures f := by
  unfold Channel.abortCaptures Channel.capturesAfter
  rw [htag, hcaps]

theorem Channel.abortRecords_congr {a b : Channel} {f f' : Frame} (hrun : b.timer.run = a.timer.run) (hcaps : b.captures = a.captures)
    (hkept : f'.run = f.run ∧ f'.seq = f.seq ∧ f'.tag = f.tag ∧ f'.hold = f.hold) : b.abortRecords c f' = a.abortRecords c f := by
  obtain ⟨hfrun, hseq, htag, hhold⟩ := hkept
  unfold Channel.abortRecords Frame.droppedAborted
  rw [htag]
  cases f.tag with
  | none => rfl
  | some tag =>
    dsimp only
    rw [hfrun, hseq, hhold, Channel.closedAfter_congr hrun hcaps]

theorem Frame.cutOff_kept (f : Frame) (handed writes : Bool) (now : Nat) :
    ((f.cutOff handed writes now).run = f.run ∧ (f.cutOff handed writes now).seq = f.seq ∧ (f.cutOff handed writes now).tag = f.tag
      ∧ (f.cutOff handed writes now).hold = f.hold) ∧ (f.cutOff handed writes now).ctx = f.ctx ∧ (f.cutOff handed writes now).credit = f.credit := by
  unfold Frame.cutOff
  split <;> exact ⟨⟨rfl, rfl, rfl, rfl⟩, rfl, rfl⟩

/-! ## The records of a run that is ended at once -/

/-- The records of the abort of a run: those of its frames that close, and those of the run's end if none is left. -/
theorem Channel.cut_records (hsound : ch.queueSound) (writes : Bool) :
    (((ch.cut event link cause).advanced writes).frames = [] → (ch.cut event link cause).settledRecords c writes
        = ((ch.cut event link cause).decided writes).advanceRecords c ch.frames.length
          ++ ch.endRecords c ((ch.cut event link cause).advanced writes).captures event)
      ∧ (((ch.cut event link cause).advanced writes).frames ≠ [] → (ch.cut event link cause).settledRecords c writes
        = ((ch.cut event link cause).decided writes).advanceRecords c ch.frames.length) := by
  have frames : ((ch.cut event link cause).settled writes).frames = ((ch.cut event link cause).advanced writes).frames := Channel.ended_frames _
  have count : (ch.cut event link cause).frames.length = ch.frames.length := List.length_map _
  obtain ⟨waits, ends⟩ := Channel.settled_of_ending (c := c) (e := ⟨event, false⟩) (ch := ch.cut event link cause) rfl writes rfl
  rw [frames, count] at waits ends
  refine ⟨fun h => ?_, fun h => (waits h).2⟩
  have flight := ((ch.cut event link cause).advanced writes).queueSound_iff.mp (Channel.queueSound_advanced writes (Channel.cut_sound hsound)) |>.2
  rw [h] at flight
  rw [(ends h).2, Channel.finishRecords_eq flight.none_in_flight]
  exact congrArg _ (Channel.endRecords_congr (by rw [Channel.advanced_timer]; rfl) (by rw [Channel.advanced_timer]; rfl) _ _)

theorem Channel.cut_handed_stays {d : Channel} {f : Frame} {rest : List Frame} (hs : f.stage = .closing) (hheader : f.noHeader = false)
    (hf : d.frames = f :: rest) (n : Nat) : d.advance n = d ∧ d.advanceRecords c n = [] := by
  have waits : d.drops f = false := by rw [Channel.drops, hs]; exact hheader
  refine ⟨?_, Channel.advanceRecords_stays hf waits⟩
  cases n with
  | zero => rfl
  | succ n =>
    rw [Channel.advance, hf]
    show (if _ then _ else if _ then _ else _) = _
    rw [if_neg (by rw [waits]; exact Bool.false_ne_true), if_neg fun e => by rw [(Channel.entersClosing_iff.mp e).1] at hs; cases hs]

/-- A frame that is cut off with its rows done closes at once where it has no header to write, or the interface does not write. -/
theorem Frame.cutOff_drops {d : Channel} {f : Frame} {handed writes : Bool} {now : Nat} (hrows : d.rows = [])
    (hclosing : f.stage = .closing → handed = false ∧ f.hold.isBuffer = true) (h : f.hold.isBuffer = false ∨ writes = false) :
    d.drops (f.cutOff handed writes now) = true ∧ (f.cutOff handed writes now).flags.aborted = true := by
  by_cases hs : f.stage = .closing
  · obtain ⟨rfl, hb⟩ := hclosing hs
    obtain rfl : writes = false := h.resolve_left (by rw [hb]; exact nofun)
    rw [Frame.cutOff_closing hs]
    exact ⟨Channel.drops_of_closing rfl (Bool.or_true _), rfl⟩
  · rw [Frame.cutOff_open hs]
    refine ⟨Channel.drops_of_draining rfl (Channel.rowsRemain_eq_false.mpr fun r hr => by rw [hrows] at hr; cases hr) (h.imp id fun e => ?_), rfl⟩
    rw [e]
    exact Bool.or_true _

/-- A frame with a header to write that is cut off with its rows done is CLOSING, where the interface writes. -/
theorem Frame.cutOff_enters {d : Channel} {f : Frame} {rest : List Frame} {handed : Bool} (hrows : d.rows = [])
    (hclosing : f.stage = .closing → handed = false) (hb : f.hold.isBuffer = true) (hheader : f.noHeader = false)
    (hf : d.frames = f.cutOff handed true d.lostEvents :: rest) (n : Nat) :
    (d.advance (n + 1)).frames = f.abortedClosing d.lostEvents :: rest ∧ d.advanceRecords c (n + 1) = [] := by
  by_cases hs : f.stage = .closing
  · obtain rfl := hclosing hs
    rw [Frame.cutOff_closing hs] at hf
    obtain ⟨stays, none⟩ := Channel.cut_handed_stays (c := c) rfl (by rw [hheader]; rfl) hf (n + 1)
    refine ⟨?_, none⟩
    rw [stays, hf, Bool.not_true, Bool.or_false]
    rfl
  · rw [Frame.cutOff_open hs] at hf
    have enters : d.entersClosing (f.abortedBehind true) = true :=
      Channel.entersClosing_iff.mpr ⟨rfl, Channel.rowsRemain_eq_false.mpr fun r hr => (by rw [hrows] at hr; cases hr), hb, by
        show (f.noHeader || !true) = false
        rw [hheader]; rfl⟩
    rw [Channel.advance_enters hf enters]
    refine ⟨?_, Channel.advanceRecords_stays hf (Channel.drops_of_entersClosing enters)⟩
    refine congrArg (· :: rest) ?_
    rw [Frame.closingAt, Frame.abortedBehind, Frame.abortedClosing, Bool.not_true, Bool.or_false]

/-! ## What the abort of a run posts (R88, R91, R124, R128, R129) -/

/-- A sound channel in a run that nothing is ending yet. -/
structure Channel.Cuttable (ch : Channel) : Prop where
  rows : ch.RowAccounts
  free : ch.ending = none
  queue : ch.queueSound

theorem Channel.Cuttable.keepsHeader (h : ch.Cuttable) {f : Frame} (hf : f ∈ ch.frames) : f.noHeader = false :=
  Bool.of_not_eq_true fun e => by
    have ends := (h.rows.frames f hf).ends ((h.rows.frames f hf).given e)
    rw [h.free] at ends
    cases ends

/-- The channel whose frames are cut off, before they go on. -/
theorem Channel.Cuttable.decided (h : ch.Cuttable) (hrow : ch.rowWrite = none) (writes : Bool) {d : Channel}
    (hd : d = (ch.cut event link cause).decided writes) :
    d.rows = [] ∧ d.captures = ch.captures ∧ d.timer.run = ch.timer.run ∧ d.lostEvents = ch.lostEvents ∧ d.queueSound
      ∧ d.frames = ch.frames.map fun f => f.cutOff ch.headerWrite.isSome writes ch.lostEvents := by
  subst hd
  refine ⟨?_, Channel.decided_captures _ _, by rw [Channel.decided_timer]; rfl, Channel.decided_lostEvents _ _,
    Channel.decided_sound writes (Channel.cut_sound h.queue), Channel.cut_decided_frames writes⟩
  rw [Channel.decided_rows]
  show (if ch.rowWrite.isSome then _ else _) = _
  rw [hrow]
  rfl

theorem Channel.abortPosts_one (h : ch.Cuttable) {f : Frame} (hf : ch.frames = [f]) (hrow : ch.rowWrite = none)
    (hhead : ¬(f.stage = .closing ∧ ch.headerWrite.isSome = true)) (writes : Bool) :
    (f.hold.isBuffer = true → writes = true →
        ((ch.cut event link cause).advanced writes).frames = [f.abortedClosing ch.lostEvents] ∧ (ch.cut event link cause).settledRecords c writes = [])
      ∧ (f.hold.isBuffer = false ∨ writes = false → ((ch.cut event link cause).advanced writes).frames = []
        ∧ (f.tag.isSome = f.credit →
          (ch.cut event link cause).settledRecords c writes = ch.abortRecords c f ++ ch.endRecords c (ch.abortCaptures f) event)) := by
  obtain ⟨drows, dcaps, drun, dlost, dsound, dframes⟩ := h.decided (event := event) (link := link) (cause := cause) hrow writes rfl
  obtain ⟨ends, waits⟩ := Channel.cut_records (c := c) (event := event) (link := link) (cause := cause) h.queue writes
  have advanced : (ch.cut event link cause).advanced writes = ((ch.cut event link cause).decided writes).advance 1 := by
    rw [Channel.advanced]
    exact congrArg _ ((List.length_map _).trans (by rw [hf]; rfl))
  have one : ch.frames.length = 1 := by rw [hf]; rfl
  have closing (hs : f.stage = .closing) : ch.headerWrite.isSome = false := Bool.of_not_eq_true fun e => hhead ⟨hs, e⟩
  rw [advanced, one] at ends waits
  rw [advanced]
  rw [hf, List.map_singleton] at dframes
  constructor
  · intro hb hw
    subst hw
    rw [← dlost] at dframes
    obtain ⟨frames, none⟩ := Frame.cutOff_enters (c := c) drows closing hb (h.keepsHeader (by rw [hf]; exact List.mem_cons_self)) dframes 0
    rw [dlost] at frames
    exact ⟨frames, (waits (by rw [frames]; exact nofun)).trans none⟩
  · intro hor
    have buffered (hs : f.stage = .closing) : ch.headerWrite.isSome = false ∧ f.hold.isBuffer = true :=
      ⟨closing hs, (h.rows.closing f (by rw [hf]; rfl) hs).2.1⟩
    obtain ⟨drops, aborted⟩ := Frame.cutOff_drops (now := ch.lostEvents) drows buffered hor
    obtain ⟨kept, _, credit⟩ := f.cutOff_kept ch.headerWrite.isSome writes ch.lostEvents
    have frames := Channel.advance_last dsound dframes drops
    have records (hcredit : f.tag.isSome = f.credit) :=
      Channel.advanceRecords_last (c := c) dsound dframes drops (by rw [kept.2.2.1, credit]; exact hcredit)
    rw [Channel.dropRecords_aborted aborted, Channel.abortRecords_congr drun dcaps kept] at records
    have caps := Channel.abortCaptures_congr (f := f) dcaps kept.2.2.1
    rw [frames] at ends ⊢
    refine ⟨rfl, fun hcredit => (ends rfl).trans ?_⟩
    rw [records hcredit]
    exact congrArg (fun l => _ ++ ch.endRecords c l event) caps

/-- A later frame is cut off behind an earlier one. -/
theorem Channel.Cuttable.behind (h : ch.Cuttable) {f g : Frame} (hf : ch.frames = [f, g]) (writes : Bool) :
    g.cutOff ch.headerWrite.isSome writes ch.lostEvents = g.abortedBehind writes :=
  Frame.cutOff_open (h.rows.later g (by rw [hf]; exact List.mem_cons_self)) _ _ _

theorem Channel.cut_advanced_two {f g : Frame} (hf : ch.frames = [f, g]) (writes : Bool) :
    (ch.cut event link cause).advanced writes = ((ch.cut event link cause).decided writes).advance 2 := by
  rw [Channel.advanced]
  exact congrArg _ ((List.length_map _).trans (by rw [hf]; rfl))

/-- The earlier of two frames has its header handed: both wait for it. -/
theorem Channel.abortPosts_two_handed (h : ch.Cuttable) {f g : Frame} (hf : ch.frames = [f, g]) (hs : f.stage = .closing)
    (hh : ch.headerWrite.isSome = true) (writes : Bool) :
    ((ch.cut event link cause).advanced writes).frames = [f, g.abortedBehind writes] ∧ (ch.cut event link cause).settledRecords c writes = [] := by
  have dframes : ((ch.cut event link cause).decided writes).frames = [f, g.abortedBehind writes] := by
    rw [Channel.cut_decided_frames, hf, List.map_cons, List.map_singleton, h.behind hf, Frame.cutOff, if_pos ⟨hs, hh⟩]
  obtain ⟨stays, none⟩ := Channel.cut_handed_stays (c := c) hs (h.keepsHeader (by rw [hf]; exact List.mem_cons_self)) dframes 2
  obtain ⟨_, waits⟩ := Channel.cut_records (c := c) (event := event) (link := link) (cause := cause) h.queue writes
  have two : ch.frames.length = 2 := by rw [hf]; rfl
  rw [Channel.cut_advanced_two hf, stays, two] at waits
  rw [Channel.cut_advanced_two hf, stays]
  exact ⟨dframes, (waits (by rw [dframes]; exact nofun)).trans none⟩

theorem Channel.abortPosts_two (h : ch.Cuttable) {f g : Frame} (hf : ch.frames = [f, g]) (hrow : ch.rowWrite = none)
    (hhead : ¬(f.stage = .closing ∧ ch.headerWrite.isSome = true)) (hfcredit : f.tag.isSome = f.credit) (hgcredit : g.tag.isSome = g.credit)
    (writes : Bool) {first : Channel} (hfirst : first = { ch with captures := ch.abortCaptures f }) :
    (f.hold.isBuffer = true → writes = true → ((ch.cut event link cause).advanced writes).frames = [f.abortedClosing ch.lostEvents, g.abortedBehind writes]
        ∧ (ch.cut event link cause).settledRecords c writes = [])
      ∧ (f.hold.isBuffer = false ∨ writes = false →
        (g.hold.isBuffer = true → writes = true → ((ch.cut event link cause).advanced writes).frames = [g.abortedClosing ch.lostEvents]
          ∧ (ch.cut event link cause).settledRecords c writes = ch.abortRecords c f)
        ∧ (g.hold.isBuffer = false ∨ writes = false → ((ch.cut event link cause).advanced writes).frames = []
          ∧ (ch.cut event link cause).settledRecords c writes
            = ch.abortRecords c f ++ first.abortRecords c g ++ ch.endRecords c (first.abortCaptures g) event)) := by
  obtain ⟨drows, dcaps, drun, dlost, dsound, dframes⟩ := h.decided (event := event) (link := link) (cause := cause) hrow writes rfl
  obtain ⟨ends, waits⟩ := Channel.cut_records (c := c) (event := event) (link := link) (cause := cause) h.queue writes
  have two : ch.frames.length = 2 := by rw [hf]; rfl
  have closing (hs : f.stage = .closing) : ch.headerWrite.isSome = false := Bool.of_not_eq_true fun e => hhead ⟨hs, e⟩
  have open' : g.stage ≠ .closing := h.rows.later g (by rw [hf]; exact List.mem_cons_self)
  rw [Channel.cut_advanced_two hf, two] at ends waits
  rw [Channel.cut_advanced_two hf]
  rw [hf, List.map_cons, List.map_singleton] at dframes
  constructor
  · intro hb hw
    subst hw
    rw [h.behind hf, ← dlost] at dframes
    obtain ⟨frames, none⟩ := Frame.cutOff_enters (c := c) drows closing hb (h.keepsHeader (by rw [hf]; exact List.mem_cons_self)) dframes 1
    rw [dlost] at frames
    exact ⟨frames, (waits (by rw [frames]; exact nofun)).trans none⟩
  · intro hor
    have buffered (hs : f.stage = .closing) : ch.headerWrite.isSome = false ∧ f.hold.isBuffer = true :=
      ⟨closing hs, (h.rows.closing f (by rw [hf]; rfl) hs).2.1⟩
    obtain ⟨drops, aborted⟩ := Frame.cutOff_drops (now := ch.lostEvents) drows buffered hor
    obtain ⟨kept, _, credit⟩ := f.cutOff_kept ch.headerWrite.isSome writes ch.lostEvents
    obtain ⟨gkept, _, gcredit⟩ := g.cutOff_kept ch.headerWrite.isSome writes ch.lostEvents
    have caps := Channel.abortCaptures_congr (f := f) dcaps kept.2.2.1
    have records := Channel.advanceRecords_first (c := c) dsound dframes drops (by rw [kept.2.2.1, credit]; exact hfcredit)
    have behind := Channel.behindFirst_sound dsound dframes
    rw [Channel.dropRecords_aborted aborted, Channel.abortRecords_congr drun dcaps kept] at records
    rw [Channel.advance_first dsound dframes drops] at ends waits ⊢
    constructor
    · intro hb hw
      subst hw
      have next : ((((ch.cut event link cause).decided true).behindFirst (f.cutOff ch.headerWrite.isSome true ch.lostEvents)
          (g.cutOff ch.headerWrite.isSome true ch.lostEvents)).frames)
          = g.cutOff ch.headerWrite.isSome true ((ch.cut event link cause).decided true).lostEvents :: [] := by
        rw [dlost]; rfl
      obtain ⟨frames, none⟩ := Frame.cutOff_enters (c := c) (d := ((ch.cut event link cause).decided true).behindFirst _ _) drows
        (fun hs => absurd hs open') hb (h.keepsHeader (by rw [hf]; exact List.mem_cons_of_mem _ List.mem_cons_self)) next 0
      rw [none, List.append_nil] at records
      refine ⟨?_, (waits (by rw [frames]; exact nofun)).trans records⟩
      rw [frames]
      exact congrArg (fun n => [g.abortedClosing n]) dlost
    · intro hgor
      have gdrops := Frame.cutOff_drops (d := ((ch.cut event link cause).decided writes).behindFirst
        (f.cutOff ch.headerWrite.isSome writes ch.lostEvents) (g.cutOff ch.headerWrite.isSome writes ch.lostEvents)) (now := ch.lostEvents)
        (handed := ch.headerWrite.isSome) drows (fun hs => absurd hs open') hgor
      have grecords := Channel.advanceRecords_last (c := c) behind rfl gdrops.1 (by rw [gkept.2.2.1, gcredit]; exact hgcredit)
      have firstCaps : (((ch.cut event link cause).decided writes).behindFirst (f.cutOff ch.headerWrite.isSome writes ch.lostEvents)
          (g.cutOff ch.headerWrite.isSome writes ch.lostEvents)).captures = first.captures := by rw [hfirst]; exact caps
      have firstRun : (((ch.cut event link cause).decided writes).behindFirst (f.cutOff ch.headerWrite.isSome writes ch.lostEvents)
          (g.cutOff ch.headerWrite.isSome writes ch.lostEvents)).timer.run = first.timer.run := by rw [hfirst]; exact drun
      rw [Channel.dropRecords_aborted gdrops.2, Channel.abortRecords_congr firstRun firstCaps gkept] at grecords
      rw [Channel.advance_last behind rfl gdrops.1] at ends ⊢
      refine ⟨rfl, (ends rfl).trans ?_⟩
      rw [records, grecords]
      exact congrArg (fun l => _ ++ ch.endRecords c l event) (Channel.abortCaptures_congr firstCaps gkept.2.2.1)

/-- With no frame in use the run ends at once. -/
theorem Channel.abortPosts_none (h : ch.Cuttable) (hf : ch.frames = []) (writes : Bool) :
    ((ch.cut event link cause).advanced writes).frames = []
      ∧ (ch.cut event link cause).settledRecords c writes = ch.endRecords c ch.captures event := by
  have none : ((ch.cut event link cause).decided writes).frames = [] := by rw [Channel.cut_decided_frames, hf]; rfl
  have stays : (ch.cut event link cause).advanced writes = (ch.cut event link cause).decided writes := Channel.advance_nil none
  obtain ⟨ends, _⟩ := Channel.cut_records (c := c) (event := event) (link := link) (cause := cause) h.queue writes
  rw [stays] at ends ⊢
  refine ⟨none, ?_⟩
  rw [ends none, Channel.advanceRecords_nil none]
  exact congrArg (fun l => ch.endRecords c l event) (Channel.decided_captures _ _)

/-- What a run that is ended at once posts, in the words of the statements. -/
theorem State.abortPosts_of {s t : State} {writes : Bool} {r : List Completion} (h : (s.ch c).Cuttable)
    (hframes : (t.ch c).frames = (((s.ch c).cut event link cause).settled writes).frames)
    (hr : r = ((s.ch c).cut event link cause).settledRecords c writes) : s.abortPosts t c writes event r := by
  have frames : (t.ch c).frames = (((s.ch c).cut event link cause).advanced writes).frames := hframes.trans (Channel.ended_frames _)
  refine ⟨fun hf => ?_, fun f hf hrow hhead => ?_, fun f g first hf hrow hfcredit hgcredit hfirst => ⟨fun hh => ?_, fun hhead => ?_⟩⟩
  · rw [frames, hr]
    exact Channel.abortPosts_none h hf writes
  · obtain ⟨writesHeader, drops⟩ := Channel.abortPosts_one (c := c) (event := event) (link := link) (cause := cause) h hf hrow hhead writes
    rw [frames, hr]
    refine ⟨writesHeader, fun hor => ⟨(drops hor).1, fun tag htag hcredit => ?_, fun htag hcredit => ?_⟩⟩
    · rw [(drops hor).2 (by rw [htag, hcredit]; rfl), Channel.abortRecords, Channel.abortCaptures, htag]
    · rw [(drops hor).2 (by rw [htag, hcredit]; rfl), Channel.abortRecords, Channel.abortCaptures, htag]
      rfl
  · rw [frames, hr]
    exact Channel.abortPosts_two_handed h hf hh.1 hh.2 writes
  · rw [frames, hr]
    exact Channel.abortPosts_two h hf hrow hhead hfcredit hgcredit writes hfirst
end

end Sys2Proof.Machine
end

section
/-! O48, O30: a fault and a STOP with ABORT end the run of a channel (R88, R90, R91). -/

namespace Sys2Proof.Machine

section
variable {s : State} {c : ChannelId}

/-! ## The end of a run at once -/

/-- R88, R91, R95: the end of a run at once is one emission of its channel. -/
theorem State.abortRun_eq_emit (s : State) (c : ChannelId) (event : ChannelEvent) :
    s.abortRun c event = s.emit c (((s.ch c).cut event ((s.ch c).link.send .halt) (s.ch c).faultCause).settled s.regs.iface.busWrites)
      (((s.ch c).cut event ((s.ch c).link.send .halt) (s.ch c).faultCause).settledRecords c s.regs.iface.busWrites) := by
  have cut : ((s.upd c fun ch => { ch.abortFrames with timer := ch.timer.idled, ending := some ⟨event, false⟩ }).send c .halt)
      = s.emit c ((s.ch c).cut event ((s.ch c).link.send .halt) (s.ch c).faultCause) [] := by
    rw [State.send_eq_emit, State.upd_eq_emit, State.emit_emit, State.emit_ch_same]
    rfl
  have quiet : ((s.ch c).cut event ((s.ch c).link.send .halt) (s.ch c).faultCause).quiet := fun e he => by
    obtain rfl := Option.some.inj he
    rfl
  rw [State.abortRun, cut, State.settle_eq_emit_of_not_halts (by rw [State.emit_ch_same]; exact quiet.not_halts _), State.emit_ch_same, State.emit_emit]
  rfl

/-- R90, R91: a fault in a run that nothing is ending. -/
theorem State.faultChannel_eq_emit (hfree : (s.ch c).inFreeRun = true) (cause : FaultCause) :
    s.faultChannel c cause
      = s.emit c (((s.ch c).cut (.faulted cause) ((s.ch c).link.send .halt) (some cause)).settled s.regs.iface.busWrites)
        (((s.ch c).cut (.faulted cause) ((s.ch c).link.send .halt) (some cause)).settledRecords c s.regs.iface.busWrites) := by
  rw [State.faultChannel, if_pos hfree, State.abortRun_eq_emit, State.upd_eq_emit, State.emit_ch_same, State.emit_emit]
  rfl


/-- What the end of a run at once makes of the channel, whatever of its frames is left. -/
theorem Channel.cut_concludes {ch : Channel} (h : ch.Cuttable) (event : ChannelEvent) (link : Link) (cause : Option FaultCause) (writes : Bool)
    {b : Channel} (hb : b = (ch.cut event link cause).settled writes) :
    b.link = link ∧ b.faultCause = cause ∧ b.timer = { ch.timer with state := .idle, line := 0, lineTime := 0, pending := none }
      ∧ b.combiner.serving = none ∧ b.rows.length ≤ 1 ∧ (ch.rowWrite = none → b.rows = []) ∧ b.allAborted
      ∧ (b.frames = [] → b.state = event.endState ∧ b.standing = false ∧ b.ending = none ∧ b.captures = [] ∧ b.table = ch.table.cleared
        ∧ ((ch.cut event link cause).settledRecords c writes).getLast? = some (.channelEvent c ch.timer.run event ch.timer.nextSeq))
      ∧ (b.frames ≠ [] → b.state = ch.state ∧ b.standing = ch.standing ∧ b.ending = some ⟨event, false⟩ ∧ b.table = ch.table
        ∧ b.standingCaptures.map Capture.tag = ch.standingCaptures.map Capture.tag) := by
  obtain ⟨timer, link, cause, combiner, rows, _, _, ends, waits⟩ :=
    Channel.settled_of_ending_kept (c := c) (e := ⟨event, false⟩) (ch := ch.cut event link cause) rfl (Channel.cut_sound h.queue) writes hb
  refine ⟨link, cause, timer, congrArg Combiner.serving combiner, ?_, fun hrow => ?_, ?_, ends, waits⟩
  · rw [rows]
    show (if ch.rowWrite.isSome then ch.rows.take 1 else []).length ≤ 1
    split
    next => exact List.length_take_le 1 _
    next => exact Nat.zero_le 1
  · rw [rows]
    show (if ch.rowWrite.isSome then ch.rows.take 1 else []) = []
    rw [hrow]
    rfl
  · rw [hb]
    exact Channel.allAborted_settled writes Channel.cut_allAborted

/-! ## O48 -/

theorem State.linkDown_eq_emit (hfree : (s.ch c).inFreeRun = true) :
    s.linkDown c = s.emit c (((s.ch c).cut (.faulted .linkLost) { (s.ch c).link with geometry := none, headFault := none } (some .linkLost)).settled
        s.regs.iface.busWrites)
      (((s.ch c).cut (.faulted .linkLost) { (s.ch c).link with geometry := none, headFault := none } (some .linkLost)).settledRecords c
        s.regs.iface.busWrites) := by
  have down : (s.upd c fun ch => { ch with link := { ch.link with geometry := none, headFault := none } }).ch c
      = { s.ch c with link := { (s.ch c).link with geometry := none, headFault := none } } := State.ch_upd_same s c _
  rw [State.linkDown, State.faultChannel_eq_emit (by rw [down]; exact hfree), down, Link.send_of_down rfl, State.upd_eq_emit, State.emit_emit]
  rfl

theorem Channel.withLink_self {b : Channel} {l : Link} (h : b.link = l) : { b with link := l } = b := by
  subst h
  rfl

/-- An end of run with the link that it leaves named. -/
theorem exec_emit_withLink {a : Channel} {l : Link} {writes : Bool} {r : List Completion} (h : a.link = l) :
    (Host.Outcome.next (s.emit c (a.settled writes) r) : Host.Outcome State Fault Refusal)
      = .next (s.emit c { a.settled writes with link := l } r) := by
  rw [Channel.withLink_self ((Channel.settled_link a writes).trans h)]

theorem Link.hello_sent (l : Link) (m : HelloMsg) : (l.hello m).sent = l.sent := by
  unfold Link.hello
  split <;> rfl

/-- The three reports of a head's failure are one end of the run (R66, R68, R70, R90). -/
theorem exec_headFailure {i : Instr} {cause : FaultCause} {code : Byte} {m : HelloMsg} (hfree : (s.ch c).inFreeRun = true)
    (hup : (s.ch c).link.up = true) (hcarrier : (s.ch c).link.carrier = true)
    (hi : i = .carrierLost c ∧ cause = .linkLost ∨ i = .hello c m ∧ cause = .linkLost
      ∨ i = .headStatus c (.fault code) ∧ code ≠ 0 ∧ cause = .headFault code) :
    ∃ (l l' : Link), l'.sent = (s.ch c).link.sent ++ (if cause = .linkLost then [] else [.halt])
      ∧ exec i s = .next (s.emit c { ((s.ch c).cut (.faulted cause) l (some cause)).settled s.regs.iface.busWrites with link := l' }
        (((s.ch c).cut (.faulted cause) l (some cause)).settledRecords c s.regs.iface.busWrites)) := by
  obtain ⟨rfl, rfl⟩ | ⟨rfl, rfl⟩ | ⟨rfl, hcode, rfl⟩ := hi
  · refine ⟨{ (s.ch c).link with carrier := false, geometry := none, headFault := none },
      { (s.ch c).link with carrier := false, geometry := none, headFault := none }, (List.append_nil _).symm, ?_⟩
    have dark : (s.upd c fun ch => { ch with link := { ch.link with carrier := false } }).ch c
        = { s.ch c with link := { (s.ch c).link with carrier := false } } := State.ch_upd_same s c _
    show execCarrierLost c s = _
    rw [execCarrierLost, if_pos hup, State.linkDown_eq_emit (by rw [dark]; exact hfree), dark, State.upd_eq_emit, State.emit_emit]
    exact exec_emit_withLink rfl
  · refine ⟨{ (s.ch c).link with geometry := none, headFault := none },
      Link.hello { (s.ch c).link with geometry := none, headFault := none } m, ?_, ?_⟩
    · rw [Link.hello_sent, if_pos rfl, List.append_nil]
    · show execHello c m s = _
      rw [execHello, if_pos hcarrier, if_pos hup, State.linkDown_eq_emit hfree]
      show Host.Outcome.next ((s.emit c _ _).upd c _) = _
      rw [State.emit_upd, Channel.settled_link]
      rfl
  · refine ⟨Link.send { (s.ch c).link with headFault := some code } .halt, Link.send { (s.ch c).link with headFault := some code } .halt, ?_, ?_⟩
    · rw [if_neg nofun]
      exact congrArg Link.sent (if_pos hup)
    · have flagged : (s.setHeadFault c (some code)).ch c = { s.ch c with link := { (s.ch c).link with headFault := some code } } := State.ch_upd_same s c _
      show execHeadStatus c (.fault code) s = _
      rw [execHeadStatus, if_pos ⟨hcarrier, hup⟩]
      show (if code = 0 then _ else _) = _
      rw [if_neg hcode, State.faultChannel_eq_emit (by rw [flagged]; exact hfree), flagged, State.setHeadFault, State.upd_eq_emit, State.emit_emit]
      exact exec_emit_withLink rfl

/-- Settles O48. -/
theorem headFailureFaultsTheChannel : Obligations.HeadFailureFaultsTheChannel := by
  unfold Obligations.HeadFailureFaultsTheChannel
  intro s c i cause code m hl hr hsound hrun hend hcarrier hi
  have accounts := (s.ledger_iff.mp hl).1.chans c
  have hfree : (s.ch c).inFreeRun = true := Channel.inFreeRun_iff.mpr ⟨hrun, hend⟩
  have hcut : (s.ch c).Cuttable := ⟨(s.rowsSound_iff.mp hr).1 c, hend, hsound⟩
  obtain ⟨l, l', hsent, hexec⟩ := exec_headFailure hfree (accounts.free hfree).1 hcarrier hi
  obtain ⟨_, faulted, timer, combiner, few, none, aborted, ends, waits⟩ :=
    Channel.cut_concludes (c := c) hcut (.faulted cause) l (some cause) s.regs.iface.busWrites rfl
  refine ⟨_, ((s.ch c).cut (.faulted cause) l (some cause)).settledRecords c s.regs.iface.busWrites, hexec, rfl, rfl, rfl, rfl, rfl, fun d hd => State.emit_ch_ne _ _ _ _ hd, ?_⟩
  refine ⟨?_, rfl, ?_, ?_, ?_, ?_, ?_, ?_, State.abortPosts_of hcut (by rw [State.emit_ch_same]) rfl, ?_, ?_⟩ <;> rw [State.emit_ch_same]
  · exact faulted
  · exact timer
  · exact hsent
  · exact combiner
  · exact few
  · exact none
  · exact aborted
  · exact ends
  · exact fun h => ⟨(waits h).1, (waits h).2.1.trans (accounts.run hrun).1, (waits h).2.2⟩

/-! ## O30 -/

theorem execStop_of_abort (hp : s.presented = some (.stop c true)) (hrun : (s.ch c).state.inRun = true) (hend : (s.ch c).ending = none) :
    exec .stop s = .next (s.stopWithAbort c) := by
  rw [execStop_of_presented hp, if_neg (by rw [hend]; exact nofun), State.stopCommand]
  cases hs : (s.ch c).state with
  | off => rw [hs] at hrun; cases hrun
  | faulted => rw [hs] at hrun; cases hrun
  | starting => rfl
  | running => rfl
  | stopping => rfl

/-- The channel that a STOP with ABORT leaves. -/
def Channel.stopAborted (ch : Channel) (writes : Bool) : Channel :=
  (ch.cut (.stopped .abort) (ch.link.send .halt) ch.faultCause).settled writes

/-- The records of a STOP with ABORT before its CMD_RESULT. -/
def Channel.stopAbortRecords (ch : Channel) (c : ChannelId) (writes : Bool) : List Completion :=
  (ch.cut (.stopped .abort) (ch.link.send .halt) ch.faultCause).settledRecords c writes

/-- A STOP with ABORT is answered at once where no frame is left in use, and else stays in hand, taken (R128). -/
theorem State.stopWithAbort_cases (hp : s.presented = some (.stop c true)) (hcut : (s.ch c).Cuttable) :
    s.answerFrame (s.stopWithAbort c) ∧ s.othersKept (s.stopWithAbort c) c
      ∧ (s.stopWithAbort c).ch c = (s.ch c).stopAborted s.regs.iface.busWrites
      ∧ (((s.ch c).stopAborted s.regs.iface.busWrites).frames = [] →
        s.answered (s.stopWithAbort c) .ok none ((s.ch c).stopAbortRecords c s.regs.iface.busWrites))
      ∧ (((s.ch c).stopAborted s.regs.iface.busWrites).frames ≠ [] →
        (s.stopWithAbort c).cpl.queue = s.cpl.queue ++ (s.ch c).stopAbortRecords c s.regs.iface.busWrites ∧ (s.stopWithAbort c).regs = s.regs
          ∧ ∀ h ∈ s.proc.hand, (s.stopWithAbort c).proc = { s.proc with hand := some { h with taken := true } }) := by
  obtain ⟨_, k, hk, _, hcmd⟩ := State.presented_some s _ hp
  have aborted : s.handTaken.abortRun c (.stopped .abort)
      = s.handTaken.emit c ((s.ch c).stopAborted s.regs.iface.busWrites) ((s.ch c).stopAbortRecords c s.regs.iface.busWrites) := by
    rw [State.handTaken_of_some hk, State.abortRun_eq_emit]
    rfl
  have taken : s.handTaken.proc = { s.proc with hand := some { k with taken := true } } := by rw [State.handTaken_of_some hk]
  have prepares : s.Prepares (s.handTaken.abortRun c (.stopped .abort)) ((s.ch c).stopAbortRecords c s.regs.iface.busWrites) := by
    rw [aborted, State.handTaken_of_some hk]
    exact ⟨rfl, rfl, rfl, rfl, rfl, k, _, hk, rfl, rfl, rfl⟩
  have here : (s.handTaken.abortRun c (.stopped .abort)).ch c = (s.ch c).stopAborted s.regs.iface.busWrites := by
    rw [aborted, State.emit_ch_same]
  have others (d : ChannelId) (hd : d ≠ c) : (s.handTaken.abortRun c (.stopped .abort)).ch d = s.ch d := by
    rw [aborted, State.emit_ch_ne _ _ _ _ hd, State.handTaken_of_some hk]
    rfl
  have hpools : (s.handTaken.abortRun c (.stopped .abort)).pools = s.pools := by
    rw [aborted, State.handTaken_of_some hk]
    rfl
  have waiting : (s.handTaken.abortRun c (.stopped .abort)).waitingStop = some c := by
    rw [aborted]
    unfold State.waitingStop
    rw [State.emit_proc, taken]
    show (if true = true then (match commandOf k.bytes with | .stop c _ => some c | _ => none) else none) = some c
    rw [if_pos rfl, hcmd]
  obtain ⟨-, -, -, -, -, -, -, ends, waits⟩ := Channel.cut_concludes (c := c) hcut (.stopped .abort) ((s.ch c).link.send .halt) (s.ch c).faultCause
    s.regs.iface.busWrites (b := (s.ch c).stopAborted s.regs.iface.busWrites) rfl
  rw [State.stopWithAbort, State.finishWaitingStop_of_some waiting, here]
  by_cases hf : ((s.ch c).stopAborted s.regs.iface.busWrites).frames = []
  · obtain ⟨off, _, free, _⟩ := ends hf
    rw [free, if_pos (c := Option.isNone _ = true) rfl]
    refine ⟨prepares.answerFrame, prepares.othersKept hpools others, ?_, fun _ => prepares.answered, fun e => absurd hf e⟩
    rw [State.finishCommand_ch_of_rests, here]
    rw [here]
    exact Channel.rests_of_empty free hf (by rw [off]; exact nofun)
  · obtain ⟨_, _, ending, _⟩ := waits hf
    rw [ending, if_neg nofun]
    refine ⟨⟨by rw [prepares.regs], prepares.mem, prepares.pending, by rw [prepares.cpl], prepares.port⟩, fun _ => ⟨hpools, others⟩, here,
      fun e => absurd e hf, fun _ => ⟨?_, prepares.regs, fun h hh => ?_⟩⟩
    · exact congrArg CompletionWriter.queue prepares.cpl
    · obtain rfl := Option.some.inj (hk.symm.trans hh)
      rw [aborted]
      exact taken

/-- Settles O30. -/
theorem stopWithAbortEndsTheRun : Obligations.StopWithAbortEndsTheRun := by
  unfold Obligations.StopWithAbortEndsTheRun
  intro s c hp hl hr hsound hrun hend
  have accounts := (s.ledger_iff.mp hl).1.chans c
  have hfree : (s.ch c).inFreeRun = true := Channel.inFreeRun_iff.mpr ⟨hrun, hend⟩
  have hcut : (s.ch c).Cuttable := ⟨(s.rowsSound_iff.mp hr).1 c, hend, hsound⟩
  obtain ⟨frame, others, here, answers, stays⟩ := State.stopWithAbort_cases hp hcut
  obtain ⟨link, _, timer, combiner, few, none, aborted, ends, waits⟩ :=
    Channel.cut_concludes (c := c) hcut (.stopped .abort) ((s.ch c).link.send .halt) (s.ch c).faultCause s.regs.iface.busWrites
      (b := (s.ch c).stopAborted s.regs.iface.busWrites) rfl
  have posts : s.abortPosts (s.stopWithAbort c) c s.regs.iface.busWrites (.stopped .abort) ((s.ch c).stopAbortRecords c s.regs.iface.busWrites) :=
    State.abortPosts_of hcut (congrArg Channel.frames here) rfl
  refine ⟨s.stopWithAbort c, (s.ch c).stopAbortRecords c s.regs.iface.busWrites, execStop_of_abort hp hrun hend, frame, others, ?_⟩
  rw [here]
  refine ⟨timer, ?_, combiner, few, none, aborted, posts, fun h => ?_, fun h => ?_⟩
  · rw [link, Link.send, if_pos (accounts.free hfree).1]
  · obtain ⟨state, standing, ending, caps, table, last⟩ := ends h
    exact ⟨answers h, state, ending, standing, caps, table, last⟩
  · obtain ⟨state, standing, ending, table, tags⟩ := waits h
    obtain ⟨queue, regs, proc⟩ := stays h
    exact ⟨queue, regs, proc, ending, standing.trans (accounts.run hrun).1, state, table, tags⟩
end

end Sys2Proof.Machine
end

section
/-! O46: the latch point (R3, R4, R32, R58, R73, R77, R78). -/

namespace Sys2Proof.Machine

section
variable {s : State} {ch : Channel} {c : ChannelId} {f : Frame} {g : GoverningSet}

/-! ## What holds of every frame while frames go on -/

/-- What neither the giving up of a header nor the entry to CLOSING touches holds of every frame that is left. -/
theorem Channel.settled_all {P : Frame → Prop} (hgive : ∀ f, P f → P { f with noHeader := true }) (hclose : ∀ f n, P f → P (f.closingAt n))
    (h : ∀ x ∈ ch.frames, P x) (writes : Bool) : ∀ x ∈ (ch.settled writes).frames, P x := by
  refine Channel.settled_induct (P := fun ch => ∀ x ∈ ch.frames, P x) (fun ch h x hx => ?_)
    (fun ch f rest hf _ h x hx => h x (List.mem_of_mem_tail hx)) (fun ch f rest hf _ h x hx => ?_) (fun _ _ _ _ h => h) (fun _ _ _ _ _ h => h) writes h
  · obtain ⟨y, hy, rfl⟩ := List.mem_map.mp hx
    unfold Frame.giveUpHeader
    split
    · exact hgive y (h y hy)
    · exact h y hy
  · obtain rfl | hx := List.mem_cons.mp hx
    · exact hclose f _ (h f (by rw [hf]; exact List.mem_cons_self))
    · exact h x (List.mem_of_mem_tail hx)

/-- A frame in the context of the one whose reading was cut short has its output rows accounted and SHORT set (R58, R77). -/
def Frame.shortIn (k : ContextId) (lost : Nat) (x : Frame) : Prop := x.ctx = k → x.lost = lost ∧ x.flags.short = true

theorem Channel.settled_shortIn {k : ContextId} {lost : Nat} (h : ∀ x ∈ ch.frames, x.shortIn k lost) (writes : Bool) :
    ∀ x ∈ (ch.settled writes).frames, x.shortIn k lost :=
  Channel.settled_all (fun _ h => h) (fun _ _ h => h) h writes

theorem Channel.cut_shortIn {k : ContextId} {lost : Nat} {event : ChannelEvent} {link : Link} {cause : Option FaultCause}
    (h : ∀ x ∈ ch.frames, x.shortIn k lost) : ∀ x ∈ (ch.cut event link cause).frames, x.shortIn k lost := by
  intro x hx
  obtain ⟨y, hy, rfl⟩ := List.mem_map.mp hx
  have same := h y hy
  unfold Frame.abort
  split
  · split <;> exact same
  · exact same
  · exact same

/-! ## The READING frame of a channel -/

/-- Only the latest frame is READING. -/
theorem Channel.reading_only (hearly : ∀ x ∈ ch.frames.dropLast, x.stage ≠ .reading) (hf : f ∈ ch.frames) (hs : f.stage = .reading) :
    ∀ x ∈ ch.frames, x.ctx ≠ f.ctx → x.stage ≠ .reading := by
  have split := (List.dropLast_concat_getLast (List.ne_nil_of_mem hf)).symm
  rw [split] at hf
  obtain hf | hf := List.mem_append.mp hf
  · exact absurd hs (hearly f hf)
  · intro x hx hc
    rw [split] at hx
    obtain hx | hx := List.mem_append.mp hx
    · exact hearly x hx
    · exact absurd (congrArg Frame.ctx ((List.mem_singleton.mp hx).trans (List.mem_singleton.mp hf).symm)) hc

/-! ## The latch (R3, R32, R73) -/

/-- The channel whose committed set has been latched, with its ORDER sent; outside a run that goes on it stays. -/
def Channel.latchedBy (ch : Channel) (g : GoverningSet) : Channel :=
  if ch.state.runs then
    { ch with
      table := { ch.table with latched := some g }, timer := { ch.timer with pending := some g.fields.startSource }
      link := ch.link.send (.order (g.order ch.timer.nextSeq)) }
  else ch

theorem State.latch_eq {k : CommittedSet} (hk : (s.ch c).table.committed = some k) (hg : k.governing = some g) :
    s.latch c = s.emit c ((s.ch c).latchedBy g) [] := by
  unfold State.latch Channel.latchedBy
  by_cases hruns : (s.ch c).state.runs = true
  · rw [if_pos hruns, if_pos hruns]
    simp only [hk, hg]
    rw [State.upd_eq_emit, State.send_eq_emit, State.emit_emit, State.emit_ch_same]
    simp only [hk]
    rfl
  · rw [if_neg hruns, if_neg hruns]
    exact (State.emit_self s c).symm

/-! ## The missed frame end (R58, R77, R78) -/

/-- The channel at its latch point with frame `f` still READING, before its frames go on. -/
def Channel.missed (ch : Channel) (f : Frame) : Channel :=
  ch.readingEnded f true { ch.link with endMiss := min (ch.link.endMiss + 1) 2 } ch.timer.atLatch

theorem State.frameEndMissed_eq (hend : (s.ch c).ending = none) (hperiod : (s.ch c).timer.state = .period) :
    (s.upd c fun ch => { ch with timer := ch.timer.atLatch }).frameEndMissed c f
      = s.emit c (((s.ch c).missed f).settled s.regs.iface.busWrites) (((s.ch c).missed f).settledRecords c s.regs.iface.busWrites) := by
  have missed : ((s.upd c fun ch => { ch with timer := ch.timer.atLatch }).upd c fun ch =>
      { ch.flush f true with link := { ch.link with endMiss := min (ch.link.endMiss + 1) 2 } }) = s.emit c ((s.ch c).missed f) [] := by
    rw [State.upd_eq_emit s, State.emit_upd]
    rfl
  have goesOn : ((s.ch c).missed f).GoesOn := Channel.readingEnded_goesOn hend hperiod
  rw [State.frameEndMissed, missed, State.settle_of_goesOn (by rw [State.emit_ch_same]; exact goesOn), State.emit_ch_same, State.emit_emit]
  rfl

/-- What the missed frame end leaves of the channel. -/
theorem Channel.missed_kept (hend : ch.ending = none) (hperiod : ch.timer.state = .period) (writes : Bool) {b : Channel}
    (hb : b = (ch.missed f).settled writes) :
    b.link = { ch.link with endMiss := min (ch.link.endMiss + 1) 2 } ∧ b.combiner.serving = none ∧ b.state = ch.state ∧ b.timer = ch.timer.atLatch
      ∧ b.table = ch.table ∧ b.ending = none ∧ b.standing = ch.standing ∧ b.rowWrite = ch.rowWrite ∧ b.headerWrite = ch.headerWrite
      ∧ b.lostEvents = ch.lostEvents := by
  have goesOn : (ch.missed f).GoesOn := Channel.readingEnded_goesOn hend hperiod
  have link : ((ch.missed f).settled writes).link = _ := Channel.settled_link _ _
  have combiner : ((ch.missed f).settled writes).combiner = _ := Channel.settled_combiner _ _
  have timer : ((ch.missed f).settled writes).timer = _ := Channel.settled_timer _ _
  have row : ((ch.missed f).settled writes).rowWrite = _ := Channel.settled_rowWrite _ _
  have header : ((ch.missed f).settled writes).headerWrite = _ := Channel.settled_headerWrite _ _
  have lost : ((ch.missed f).settled writes).lostEvents = _ := Channel.settled_lostEvents _ _
  subst hb
  refine ⟨link, congrArg Combiner.serving combiner, ?_, timer, ?_, ?_, ?_, row, header, lost⟩ <;> rw [goesOn.settled]
  · exact Channel.advanced_state _ _
  · exact Channel.advanced_table _ _
  · exact (Channel.advanced_ending _ _).trans hend
  · exact Channel.advanced_standing _ _

/-! ## HEAD_SILENT (R77, R90) -/

/-- The channel faulted by HEAD_SILENT. -/
def Channel.silenced (ch : Channel) (writes : Bool) : Channel :=
  (ch.cut (.faulted .headSilent) (ch.link.send .halt) (some .headSilent)).settled writes

/-- The records of a fault by HEAD_SILENT. -/
def Channel.silencedRecords (ch : Channel) (c : ChannelId) (writes : Bool) : List Completion :=
  (ch.cut (.faulted .headSilent) (ch.link.send .halt) (some .headSilent)).settledRecords c writes

/-- R77: the latch is taken before the fault, or not at all. -/
theorem State.headSilent_cases {k : CommittedSet} (hk : (s.ch c).table.committed = some k) (hg : k.governing = some g)
    (hfree : (s.ch c).inFreeRun = true) :
    ∃ x, (x = s.ch c ∨ x = (s.ch c).latchedBy g)
      ∧ s.headSilent c = s.drawn.emit c (x.silenced s.regs.iface.busWrites) (x.silencedRecords c s.regs.iface.busWrites) := by
  unfold State.headSilent
  split
  · refine ⟨_, .inr rfl, ?_⟩
    have latched : s.drawn.latch c = s.drawn.emit c ((s.ch c).latchedBy g) [] := State.latch_eq (s := s.drawn) hk hg
    have free : ((s.ch c).latchedBy g).inFreeRun = true := by
      unfold Channel.latchedBy
      split <;> exact hfree
    rw [latched, State.faultChannel_eq_emit (by rw [State.emit_ch_same]; exact free), State.emit_ch_same, State.emit_emit]
    rfl
  · exact ⟨_, .inl rfl, State.faultChannel_eq_emit (s := s.drawn) hfree .headSilent⟩


/-! ## The latch point taken -/

/-- A channel whose latch point is due: in a run that nothing is ending, its period's latch point still before it, its sets committed. -/
structure Channel.LatchDue (ch : Channel) (k : CommittedSet) (g : GoverningSet) : Prop where
  period : ch.timer.state = .period
  run : ch.state.inRun = true
  free : ch.ending = none
  up : ch.link.up = true
  standing : ch.standing = true
  committed : ch.table.committed = some k
  governing : k.governing = some g

theorem Channel.latchDue_of_agrees {k : CommittedSet} (h : ch.agrees) (hperiod : ch.timer.state = .period) (hk : ch.table.committed = some k)
    (hg : k.governing = some g) : ch.LatchDue k g := by
  obtain ⟨run, rest, free, _, ending, _⟩ := h
  have hrun : ch.state.inRun = true := by
    refine Classical.byContradiction fun hnot => ?_
    have := (rest (Bool.of_not_eq_true hnot)).1
    rw [hperiod] at this
    cases this
  have hend : ch.ending = none := Option.eq_none_of_isSome_ne fun e => by
    have := ending e
    rw [hperiod] at this
    cases this
  exact ⟨hperiod, hrun, hend, (free (Channel.inFreeRun_iff.mpr ⟨hrun, hend⟩)).1, (run hrun).1, hk, hg⟩

theorem execLatchPoint_of_due {k : CommittedSet} (h : (s.ch c).LatchDue k g) (hline : (s.ch c).timer.line + 16 < (s.ch c).timer.periodLength) :
    exec (.latchPoint c) s = .next (s.latchPoint c) := by
  have before : (s.ch c).timer.latchTaken = false := by
    unfold FrameTimer.latchTaken
    exact decide_eq_false (by omega)
  exact if_pos ⟨h.period, before⟩

/-- With no frame READING the latch point is the latch alone. -/
theorem State.latchPoint_of_none {k : CommittedSet} (h : (s.ch c).LatchDue k g) (hf : (s.ch c).reading = none) :
    s.latchPoint c = s.emit c (Channel.latchedBy { s.ch c with timer := (s.ch c).timer.atLatch } g) [] := by
  have here : (s.upd c fun ch => { ch with timer := ch.timer.atLatch }).ch c = { s.ch c with timer := (s.ch c).timer.atLatch } := State.ch_upd_same s c _
  have none : ((s.upd c fun ch => { ch with timer := ch.timer.atLatch }).ch c).reading = none := by rw [here]; exact hf
  unfold State.latchPoint
  dsimp only
  rw [none, State.latch_eq (g := g) (k := k) (by rw [here]; exact h.committed) h.governing, here, State.upd_eq_emit, State.emit_emit]
  rfl

theorem State.latchPoint_of_some {k : CommittedSet} (h : (s.ch c).LatchDue k g) (hf : (s.ch c).reading = some f) {m : State}
    (hm : m = s.emit c (((s.ch c).missed f).settled s.regs.iface.busWrites) (((s.ch c).missed f).settledRecords c s.regs.iface.busWrites)) :
    s.latchPoint c = if (m.ch c).link.endMiss = 2 then m.headSilent c else m.latch c := by
  have here : (s.upd c fun ch => { ch with timer := ch.timer.atLatch }).ch c = { s.ch c with timer := (s.ch c).timer.atLatch } := State.ch_upd_same s c _
  have some : ((s.upd c fun ch => { ch with timer := ch.timer.atLatch }).ch c).reading = some f := by rw [here]; exact hf
  unfold State.latchPoint
  dsimp only
  rw [some]
  dsimp only
  rw [State.frameEndMissed_eq h.free h.period, ← hm]


/-! ## The frames behind a missed frame end -/

theorem Channel.missed_frames (hsound : ch.rowsSound) (hf : ch.reading = some f) (writes : Bool) :
    ((ch.missed f).settled writes).reading = none
      ∧ ∀ x ∈ ((ch.missed f).settled writes).frames, x.shortIn f.ctx (f.flushed ch.combiner.invalid true).lost := by
  obtain ⟨hmem, hstage⟩ := Channel.reading_some hf
  obtain ⟨_, hcontexts, hearly, _⟩ := hsound
  have honly : ∀ x ∈ ch.frames, x.ctx = f.ctx → x = f := fun x hx e =>
    eq_of_nodup_map (List.pairwise_map.mpr hcontexts) hx hmem e
  refine ⟨Channel.reading_eq_none (Channel.settled_none_reading (ch := ch.missed f)
    (Channel.flush_none_reading (missed := true) honly (Channel.reading_only hearly hmem hstage)) writes), Channel.settled_shortIn ?_ writes⟩
  have frames : (ch.missed f).frames = _ := Channel.flush_frames honly true
  rw [frames]
  intro x hx hc
  obtain ⟨y, hy, rfl⟩ := List.mem_map.mp hx
  by_cases hy' : y.ctx = f.ctx
  · rw [if_pos hy']
    exact ⟨rfl, by rw [Frame.flushed, Bool.or_true, Bool.true_or]⟩
  · rw [if_neg hy'] at hc
    exact absurd hc hy'

/-- What the latch leaves of the channel. -/
theorem Channel.latchedBy_kept (ch : Channel) (g : GoverningSet) : (ch.latchedBy g).frames = ch.frames ∧ (ch.latchedBy g).captures = ch.captures
    ∧ (ch.latchedBy g).lastFreed = ch.lastFreed ∧ (ch.latchedBy g).combiner = ch.combiner ∧ (ch.latchedBy g).state = ch.state
    ∧ (ch.latchedBy g).link.endMiss = ch.link.endMiss ∧ (ch.latchedBy g).timer.nextSeq = ch.timer.nextSeq
    ∧ (ch.latchedBy g).timer.run = ch.timer.run ∧ (ch.latchedBy g).ending = ch.ending ∧ (ch.latchedBy g).standing = ch.standing
    ∧ (ch.latchedBy g).rowWrite = ch.rowWrite ∧ (ch.latchedBy g).headerWrite = ch.headerWrite ∧ (ch.latchedBy g).lostEvents = ch.lostEvents
    ∧ (ch.latchedBy g).rows = ch.rows ∧ (ch.latchedBy g).link.up = ch.link.up := by
  unfold Channel.latchedBy
  split
  · refine ⟨rfl, rfl, rfl, rfl, rfl, Link.send_endMiss _ _, rfl, rfl, rfl, rfl, rfl, rfl, rfl, rfl, ?_⟩
    exact Link.send_isUp _ _
  · exact ⟨rfl, rfl, rfl, rfl, rfl, rfl, rfl, rfl, rfl, rfl, rfl, rfl, rfl, rfl, rfl⟩

theorem Channel.latchedBy_of_runs (hruns : ch.state.runs = true) (hup : ch.link.up = true) : ch.latchedBy g = { ch with
    table := { ch.table with latched := some g }, timer := { ch.timer with pending := some g.fields.startSource }
    link := { ch.link with sent := ch.link.sent ++ [.order (g.order ch.timer.nextSeq)] } } := by
  rw [Channel.latchedBy, if_pos hruns, Link.send, if_pos hup]

theorem Channel.latchedBy_of_stopping (hstop : ch.state = .stopping) : ch.latchedBy g = ch :=
  if_neg (by rw [hstop]; exact nofun)

/-- The ORDER of R73, field by field. -/
theorem GoverningSet.order_eq (g : GoverningSet) (seq : Seq) : g.order seq =
    { seq := seq, depth := g.fields.depth, flip := g.fields.flip, vStart := g.fields.vStart, vRows := g.fields.vRows, vFactor := g.fields.mode.v
      rowUse := match g.fields.mode with
        | .full => .all
        | .skip2 => .oneInTwo
        | _ => .combined
      gain := g.fields.gain.getD 0, lp := g.fields.lp, exposure := g.fields.exposure, startSource := g.fields.startSource } := by
  unfold GoverningSet.order Mode.rowUse FullSettings.gainUsed
  cases g.fields.mode <;> rfl


/-! ## The fault by HEAD_SILENT -/

/-- What a fault by HEAD_SILENT makes of the channel, sound or not. -/
theorem Channel.silenced_kept (ch : Channel) (writes : Bool) {b : Channel} (hb : b = ch.silenced writes) :
    b.link = ch.link.send .halt ∧ b.faultCause = some .headSilent ∧ b.timer = ch.timer.idled
      ∧ (b.frames = [] → b.state = .faulted ∧ b.table.idle ∧ b.standing = false ∧ b.ending = none)
      ∧ (b.frames ≠ [] → b.state = ch.state ∧ b.standing = ch.standing ∧ b.ending = some ⟨.faulted .headSilent, false⟩) := by
  obtain ⟨waits, ends⟩ := Channel.settled_of_ending (c := 0) (e := ⟨.faulted .headSilent, false⟩)
    (ch := ch.cut (.faulted .headSilent) (ch.link.send .halt) (some .headSilent)) rfl writes hb
  refine ⟨?_, ?_, ?_, fun h => ?_, fun h => ?_⟩
  · rw [hb]; exact Channel.settled_link _ _
  · rw [hb]; exact Channel.settled_faultCause _ _
  · rw [hb]; exact Channel.settled_timer _ _
  · rw [(ends h).1]
    exact ⟨rfl, SettingsTable.cleared_idle _, rfl, rfl⟩
  · rw [(waits h).1]
    exact ⟨Channel.advanced_state _ _, Channel.advanced_standing _ _, Channel.advanced_ending _ _⟩

/-- The records and frames of the two ends that a second miss brings: that of the frame's reading, and that of the run. -/
theorem Channel.silenced_posts (h : ch.Reads f) (hone : ch.frames = [f]) (hrow : ch.rowWrite = none) (writes : Bool)
    {x : Channel} (hkept : x.frames = ((ch.missed f).settled writes).frames ∧ x.captures = ((ch.missed f).settled writes).captures
      ∧ x.rowWrite = ch.rowWrite ∧ x.headerWrite = ch.headerWrite ∧ x.lostEvents = ch.lostEvents)
    (hcut : x.Cuttable) (hrun : x.timer.run = ch.timer.run) (hseq : x.timer.nextSeq = ch.timer.nextSeq) {ended : Frame}
    (hended : ended = f.flushed ch.combiner.invalid true) :
    (f.hold.isBuffer = true → (ch.missed f).settledRecords c writes = []
      ∧ (writes = true → (x.silenced writes).frames = [ended.abortedClosing ch.lostEvents] ∧ x.silencedRecords c writes = [])
      ∧ (writes = false → ∀ tag, f.tag = some tag → f.credit = true → x.silencedRecords c writes
          = f.droppedAborted c tag :: ch.closedAfter c tag false ++ ch.endRecords c (ch.capturesAfter tag false) (.faulted .headSilent)))
    ∧ (f.hold.isBuffer = false → (∀ r ∈ ch.rows, r.ctx ≠ f.ctx) → x.silencedRecords c writes = ch.endRecords c x.captures (.faulted .headSilent)) := by
  subst hended
  obtain ⟨hframes, hcaps, hxrow, hheader, hlost⟩ := hkept
  constructor
  · intro hb
    obtain ⟨y, frames, caps, none, hy⟩ := h.buffered (c := c) (link := { ch.link with endMiss := min (ch.link.endMiss + 1) 2 }) (missed := true) hone hb
      (timer := ch.timer.atLatch) h.period writes
    have fate : (∀ n, y.abortedClosing n = (f.flushed ch.combiner.invalid true).abortedClosing n) ∧ y.hold = f.hold
        ∧ y.run = f.run ∧ y.seq = f.seq ∧ y.tag = f.tag ∧ y.credit = f.credit := by
      obtain rfl | rfl := hy <;> exact ⟨fun _ => rfl, rfl, rfl, rfl, rfl, rfl⟩
    obtain ⟨closing, hold, run, seq, tag, credit⟩ := fate
    have xframes : x.frames = [y] := hframes.trans frames
    have noHeader : x.headerWrite.isSome = false := by
      rw [hheader]
      exact Bool.of_not_eq_true fun e => by
        obtain ⟨z, hz, hs⟩ := h.rows.handed e
        rw [hone] at hz
        obtain rfl := Option.some.inj hz
        rw [h.stage] at hs
        cases hs
    obtain ⟨writesHeader, drops⟩ := Channel.abortPosts_one (c := c) (event := .faulted .headSilent) (link := x.link.send .halt)
      (cause := some .headSilent) hcut xframes (hxrow.trans hrow) (fun e => by rw [noHeader] at e; exact Bool.false_ne_true e.2) writes
    refine ⟨none, fun hw => ?_, fun hw t ht hc => ?_⟩
    · obtain ⟨left, silent⟩ := writesHeader (by rw [hold]; exact hb) hw
      refine ⟨?_, silent⟩
      rw [Channel.silenced, Channel.settled_frames, left, closing, hlost]
    · have records := (drops (.inr hw)).2 (by rw [tag, credit, ht, hc]; rfl)
      rw [Channel.abortRecords_congr (a := ch) hrun (hcaps.trans caps) ⟨run, seq, tag, hold⟩,
        Channel.abortCaptures_congr (a := ch) (f := f) (hcaps.trans caps) tag, Channel.endRecords_congr hrun hseq, Channel.abortRecords,
        Channel.abortCaptures, ht] at records
      exact records
  · intro hb hrows
    have gone : x.frames = [] := by
      rw [hframes]
      refine (congrArg Channel.frames (h.settled (missed := true) (link := { ch.link with endMiss := min (ch.link.endMiss + 1) 2 })
        (timer := ch.timer.atLatch) h.period writes)).trans ?_
      exact (h.drops (c := c) hone hrows hb).2.1
    rw [Channel.silencedRecords, (Channel.abortPosts_none hcut gone writes).2, Channel.endRecords_congr hrun hseq]

/-! ## O46 -/

/-- The channel that HEAD_SILENT faults is sound, whether its sets are latched first or not. -/
theorem Channel.Reads.missed_cuttable {k : CommittedSet} (h : ch.Reads f) (hsound : ch.queueSound) (hdue : ch.LatchDue k g) (writes : Bool) {x : Channel}
    (hx : x = (ch.missed f).settled writes ∨ x = ((ch.missed f).settled writes).latchedBy g) : x.Cuttable := by
  have move : Channel.Move true ch ((ch.missed f).settled writes) :=
    Channel.Move.flushes writes f true { ch.link with endMiss := min (ch.link.endMiss + 1) 2 } ch.timer.atLatch h.reading
      ⟨.inr (Nat.min_le_right _ _), .inl rfl⟩ rfl rfl rfl
  obtain ⟨_, _, _, _, table, free, _⟩ := Channel.missed_kept (f := f) hdue.free hdue.period writes (b := (ch.missed f).settled writes) rfl
  have cuttable : Channel.Cuttable ((ch.missed f).settled writes) := ⟨move.rowAccounts h.accounts h.rows, free, move.queueSound hsound⟩
  obtain rfl | rfl := hx
  · exact cuttable
  · unfold Channel.latchedBy
    split
    next hruns =>
      have latched : Channel.Move true ((ch.missed f).settled writes) _ :=
        Channel.Move.latched k g (some g.fields.startSource) hruns (by rw [table]; exact hdue.committed) hdue.governing
      have rows := latched.rowAccounts (move.accounts h.accounts) cuttable.rows
      exact ⟨rows.congr rows.groups rfl rfl rfl rfl rfl rfl fun _ hy hs => rows.inPeriod hy hs, free, cuttable.queue⟩
    next => exact cuttable

/-- A first miss: the reading ends, and the latch is taken. -/
theorem State.latchPoint_firstMiss {k : CommittedSet} (h : (s.ch c).LatchDue k g) (hf : (s.ch c).reading = some f) (hzero : (s.ch c).link.endMiss = 0) :
    s.latchPoint c = s.emit c ((((s.ch c).missed f).settled s.regs.iface.busWrites).latchedBy g)
      (((s.ch c).missed f).settledRecords c s.regs.iface.busWrites) := by
  obtain ⟨link, _, _, _, table, _⟩ := Channel.missed_kept (f := f) h.free h.period s.regs.iface.busWrites rfl
  rw [State.latchPoint_of_some h hf rfl, State.emit_ch_same, if_neg (by rw [link, hzero]; exact nofun),
    State.latch_eq (g := g) (k := k) (by rw [State.emit_ch_same, table]; exact h.committed) h.governing, State.emit_ch_same, State.emit_emit, List.append_nil]

/-- A second miss in a row: the reading ends, and HEAD_SILENT ends the run. -/
theorem State.latchPoint_secondMiss {k : CommittedSet} (h : (s.ch c).LatchDue k g) (hf : (s.ch c).reading = some f) (hone : 1 ≤ (s.ch c).link.endMiss) :
    ∃ x, (x = ((s.ch c).missed f).settled s.regs.iface.busWrites ∨ x = (((s.ch c).missed f).settled s.regs.iface.busWrites).latchedBy g)
      ∧ s.latchPoint c = s.drawn.emit c (x.silenced s.regs.iface.busWrites)
        (((s.ch c).missed f).settledRecords c s.regs.iface.busWrites ++ x.silencedRecords c s.regs.iface.busWrites) := by
  obtain ⟨link, _, state, _, table, free, _⟩ := Channel.missed_kept (f := f) h.free h.period s.regs.iface.busWrites
    (b := ((s.ch c).missed f).settled s.regs.iface.busWrites) rfl
  obtain ⟨x, hx, hsilent⟩ := State.headSilent_cases (c := c) (g := g) (k := k)
    (s := s.emit c (((s.ch c).missed f).settled s.regs.iface.busWrites) (((s.ch c).missed f).settledRecords c s.regs.iface.busWrites))
    (by rw [State.emit_ch_same, table]; exact h.committed) h.governing
    (by rw [State.emit_ch_same]; exact Channel.inFreeRun_iff.mpr ⟨by rw [state]; exact h.run, free⟩)
  rw [State.emit_ch_same] at hx
  refine ⟨x, hx, ?_⟩
  rw [State.latchPoint_of_some h hf rfl, State.emit_ch_same, if_pos (by rw [link]; exact Nat.min_eq_right (by omega)), hsilent]
  exact State.emit_emit s.drawn c _ _ _ _

/-- The channel's frames after a missed end, in the words of the statement: the frame READING is SHORT. -/
theorem Channel.missed_short (hsound : ch.rowsSound) (hf : ch.reading = some f) (writes : Bool) {y : Frame} (hy : y ∈ ch.frames) (hs : y.stage = .reading) :
    ∀ x ∈ ((ch.missed f).settled writes).frames, x.ctx = y.ctx → x.flags.short = true := by
  obtain ⟨hmem, hstage⟩ := Channel.reading_some hf
  obtain ⟨_, _, hearly, _⟩ := id hsound
  intro x hx hc
  have same : y.ctx = f.ctx := by
    refine Classical.byContradiction fun hne => ?_
    exact Channel.reading_only hearly hmem hstage y hy hne hs
  exact ((Channel.missed_frames hsound hf writes).2 x hx (hc.trans same)).2

/-- The frame READING in the words of the statement, as its reading ends late. -/
theorem Frame.flushed_missed (f : Frame) (inv : Bool) : f.flushed inv true = { f with
    stage := .draining, flags := { f.flags with short := true }
    lost := f.lost + (f.snapshot.vRows / f.snapshot.mode.v - f.nextRow / f.snapshot.mode.v - (if inv then 1 else 0)) } := by
  rw [Frame.flushed, Bool.or_true, Bool.true_or]
  rfl

/-- The state behind a missed end, whatever else the latch has done, has the frame's reading ended (R58, R123, R124). -/
theorem State.frameEnded_missed {t : State} {ended : Frame} (h : (s.ch c).Reads f) (hsound : (s.ch c).queueSound)
    (hended : ended = { f with stage := .draining, flags := { f.flags with short := true }
                               lost := f.lost + (f.snapshot.vRows / f.snapshot.mode.v - f.nextRow / f.snapshot.mode.v - (if (s.ch c).combiner.invalid then 1 else 0)) })
    (hcpl : t.cpl = (s.emit c (s.ch c) (((s.ch c).missed f).settledRecords c s.regs.iface.busWrites)).cpl)
    (hframes : (t.ch c).frames = (((s.ch c).missed f).settled s.regs.iface.busWrites).frames)
    (hlast : (t.ch c).lastFreed = (((s.ch c).missed f).settled s.regs.iface.busWrites).lastFreed)
    (hcaps : (t.ch c).captures = (((s.ch c).missed f).settled s.regs.iface.busWrites).captures) : s.frameEnded t c f ended :=
  State.frameEnded_of (writes := s.regs.iface.busWrites) (missed := true) (link := { (s.ch c).link with endMiss := min ((s.ch c).link.endMiss + 1) 2 })
    (timer := (s.ch c).timer.atLatch) h hsound h.period rfl (hended.trans (f.flushed_missed _).symm) hcpl hframes hlast hcaps

/-- What the first miss of a run leaves of the channel's link, table and timer. -/
theorem Channel.firstMiss_kept {k : CommittedSet} (h : ch.LatchDue k g) (writes : Bool) {b : Channel} (hb : b = ((ch.missed f).settled writes).latchedBy g) :
    (ch.state.runs = true → b.state = ch.state ∧ b.table.latched = some g ∧ b.timer.pending = some g.fields.startSource
      ∧ b.link.sent = ch.link.sent ++ [.order (g.order ch.timer.nextSeq)])
    ∧ (ch.state = .stopping → b.table = ch.table ∧ b.link.sent = ch.link.sent) := by
  subst hb
  obtain ⟨link, _, state, timer, table, _⟩ := Channel.missed_kept (f := f) h.free h.period writes (b := (ch.missed f).settled writes) rfl
  refine ⟨fun hruns => ?_, fun hstop => ?_⟩
  · rw [Channel.latchedBy_of_runs (by rw [state]; exact hruns) (by rw [link]; exact h.up)]
    refine ⟨state, rfl, rfl, ?_⟩
    show ((ch.missed f).settled writes).link.sent ++ [.order (g.order ((ch.missed f).settled writes).timer.nextSeq)] = _
    rw [link, timer]
    rfl
  · rw [Channel.latchedBy_of_stopping (state.trans hstop), table, link]
    exact ⟨rfl, rfl⟩

/-- The messages sent to the head when HEAD_SILENT ends the run, the HALT the last of them (R73, R74, R77). -/
theorem Channel.secondMiss_kept {k : CommittedSet} (h : ch.LatchDue k g) (hmiss : ch.link.endMiss ≤ 2) (hone : 1 ≤ ch.link.endMiss) (writes : Bool) {x b : Channel}
    (hx : x = (ch.missed f).settled writes ∨ x = ((ch.missed f).settled writes).latchedBy g) (hb : b = x.silenced writes) :
    b.link.endMiss = 2 ∧ b.faultCause = some .headSilent ∧ b.timer.state = .idle ∧ b.timer.nextSeq = ch.timer.nextSeq
      ∧ (b.frames = [] → b.state = .faulted ∧ b.table.idle ∧ b.standing = false ∧ b.ending = none)
      ∧ (b.frames ≠ [] → b.state = ch.state ∧ b.standing = true ∧ b.ending = some ⟨.faulted .headSilent, false⟩)
      ∧ (b.link.sent = ch.link.sent ++ [.halt] ∨ b.link.sent = ch.link.sent ++ [.order (g.order ch.timer.nextSeq), .halt]) := by
  obtain ⟨link, _, state, timer, table, _, standing, _⟩ := Channel.missed_kept (f := f) h.free h.period writes (b := (ch.missed f).settled writes) rfl
  obtain ⟨blink, cause, btimer, ends, waits⟩ := Channel.silenced_kept x writes hb
  have up : x.link.up = true ∧ x.link.endMiss = 2 ∧ x.state = ch.state ∧ x.standing = true ∧ x.timer.nextSeq = ch.timer.nextSeq
      ∧ (x.link.sent = ch.link.sent ∨ x.link.sent = ch.link.sent ++ [.order (g.order ch.timer.nextSeq)]) := by
    have two : min (ch.link.endMiss + 1) 2 = 2 := Nat.min_eq_right (by omega)
    have before : ((ch.missed f).settled writes).link.up = true ∧ ((ch.missed f).settled writes).link.endMiss = 2 := by
      rw [link]
      exact ⟨h.up, two⟩
    obtain rfl | rfl := hx
    · exact ⟨before.1, before.2, state, standing.trans h.standing, (by rw [timer]; rfl), .inl (by rw [link])⟩
    · obtain ⟨_, _, _, _, lstate, lmiss, lseq, _, _, lstanding, _, _, _, _, lup⟩ := Channel.latchedBy_kept ((ch.missed f).settled writes) g
      refine ⟨lup.trans before.1, lmiss.trans before.2, lstate.trans state, lstanding.trans (standing.trans h.standing),
        lseq.trans (by rw [timer]; rfl), ?_⟩
      obtain ⟨runs, stops⟩ := Channel.firstMiss_kept (f := f) h writes rfl
      by_cases hruns : ch.state.runs = true
      · exact .inr (runs hruns).2.2.2
      · rw [Channel.latchedBy, if_neg (by rw [state]; exact hruns)]
        exact .inl (by rw [link])
  obtain ⟨up, miss, xstate, xstanding, seq, sent⟩ := up
  refine ⟨by rw [blink, Link.send_endMiss, miss], cause, by rw [btimer]; rfl, by rw [btimer]; exact seq, ends,
    fun hne => ?_, ?_⟩
  · obtain ⟨bstate, bstanding, ending⟩ := waits hne
    exact ⟨bstate.trans xstate, bstanding.trans xstanding, ending⟩
  · rw [blink, Link.send, if_pos up]
    obtain e | e := sent
    · exact .inl (congrArg (· ++ [LinkMsg.halt]) e)
    · refine .inr ((congrArg (· ++ [LinkMsg.halt]) e).trans ?_)
      rw [List.append_assoc]
      rfl

/-- The frames and records of the run that HEAD_SILENT ends, in the words of the statement. -/
theorem State.secondMiss_posts {k : CommittedSet} {x : Channel} {ended : Frame} (h : (s.ch c).Reads f) (hq : (s.ch c).queueSound) (hsound : (s.ch c).rowsSound)
    (hdue : (s.ch c).LatchDue k g) (hx : x = ((s.ch c).missed f).settled s.regs.iface.busWrites ∨ x = (((s.ch c).missed f).settled s.regs.iface.busWrites).latchedBy g)
    (hkept : x.frames = (((s.ch c).missed f).settled s.regs.iface.busWrites).frames
      ∧ x.captures = (((s.ch c).missed f).settled s.regs.iface.busWrites).captures ∧ x.rowWrite = (s.ch c).rowWrite
      ∧ x.headerWrite = (s.ch c).headerWrite ∧ x.lostEvents = (s.ch c).lostEvents
      ∧ x.timer.run = (s.ch c).timer.run ∧ x.timer.nextSeq = (s.ch c).timer.nextSeq)
    (hended : ended = { f with stage := .draining, flags := { f.flags with short := true }
                               lost := f.lost + (f.snapshot.vRows / f.snapshot.mode.v - f.nextRow / f.snapshot.mode.v - (if (s.ch c).combiner.invalid then 1 else 0)) })
    {q : List Completion} (hrecords : q = s.cpl.queue ++ (((s.ch c).missed f).settledRecords c s.regs.iface.busWrites
      ++ x.silencedRecords c s.regs.iface.busWrites)) :
    (∀ y ∈ (x.silenced s.regs.iface.busWrites).frames, y.ctx = f.ctx → y.lost = ended.lost ∧ y.flags.short = true)
      ∧ ((s.ch c).frames = [f] → (s.ch c).rowWrite = none →
        (f.hold.isBuffer = true → s.regs.iface.busWrites = true →
          (x.silenced s.regs.iface.busWrites).frames = [ended.abortedClosing (s.ch c).lostEvents] ∧ q = s.cpl.queue)
        ∧ (∀ tag, f.hold.isBuffer = true → s.regs.iface.busWrites = false → f.tag = some tag → f.credit = true →
          q = s.cpl.queue ++ f.droppedAborted c tag :: (s.ch c).closedAfter c tag false
            ++ (s.ch c).endRecords c ((s.ch c).capturesAfter tag false) (.faulted .headSilent))
        ∧ (f.hold.isBuffer = false → (∀ r ∈ (s.ch c).rows, r.ctx ≠ f.ctx) →
          (f.tag = none → f.credit = false →
            q = s.cpl.queue ++ (s.ch c).endRecords c (s.ch c).captures (.faulted .headSilent))
          ∧ ∀ tag reason, f.tag = some tag → f.credit = true → f.dropReason = some reason →
            q = s.cpl.queue ++ .frameDropped { channel := c, run := f.run, seq := f.seq, tag := tag, reason := reason
                                               buffer := f.hold.descriptor } :: (s.ch c).closedAfter c tag false
              ++ (s.ch c).endRecords c ((s.ch c).capturesAfter tag false) (.faulted .headSilent))) := by
  subst hrecords
  have cuttable := h.missed_cuttable hq hdue _ hx
  obtain ⟨xframes, xcaps, xrow, xheader, xlost, xrun, xseq⟩ := hkept
  have short : ∀ y ∈ x.frames, y.shortIn f.ctx ended.lost := by
    rw [xframes, hended, ← f.flushed_missed]
    exact (Channel.missed_frames hsound h.reading _).2
  refine ⟨Channel.settled_shortIn (Channel.cut_shortIn short) _, fun hone hrow => ?_⟩
  obtain ⟨buffered, dropped⟩ := Channel.silenced_posts (c := c) h hone hrow s.regs.iface.busWrites ⟨xframes, xcaps, xrow, xheader, xlost⟩
    cuttable xrun xseq (hended.trans (f.flushed_missed _).symm)
  have missedState := State.frameEnded_missed (t := s.emit c (((s.ch c).missed f).settled s.regs.iface.busWrites)
    (((s.ch c).missed f).settledRecords c s.regs.iface.busWrites)) h hq hended rfl (by rw [State.emit_ch_same]) (by rw [State.emit_ch_same])
    (by rw [State.emit_ch_same])
  obtain ⟨_, _, _, untagged, tagged⟩ := missedState
  rw [State.emit_ch_same] at untagged tagged
  refine ⟨fun hb hw => ?_, fun tag hb hw ht hc => ?_, fun hb hrows => ⟨fun ht hc => ?_, fun tag reason ht hc hd => ?_⟩⟩
  · obtain ⟨silent, writes, _⟩ := buffered hb
    obtain ⟨frames, records⟩ := writes hw
    rw [silent, records]
    exact ⟨frames, List.append_nil _⟩
  · obtain ⟨silent, _, drops⟩ := buffered hb
    rw [silent, drops hw tag ht hc]
    simp
  · obtain ⟨cpl, _, _, caps⟩ := untagged hone hrows hb hc ht
    have silent : ((s.ch c).missed f).settledRecords c s.regs.iface.busWrites = [] :=
      List.append_right_eq_self.mp (congrArg CompletionWriter.queue cpl)
    rw [silent, dropped hb hrows, xcaps, caps]
    rfl
  · obtain ⟨_, _, caps, queue⟩ := tagged tag reason hone hrows hb hc ht hd
    rw [← List.append_assoc, dropped hb hrows, xcaps, caps]
    exact congrArg (· ++ _) queue

/-- Settles O46. -/
theorem latchPointLatchesAndOrders : Obligations.LatchPointLatchesAndOrders := by
  unfold Obligations.LatchPointLatchesAndOrders
  refine fun s c k g order => ⟨fun hnot => ?_, fun hperiod hline hagrees hk hg hmiss horder => ?_⟩
  · refine if_neg fun h => ?_
    have before := h.2
    unfold FrameTimer.latchTaken at before
    have := of_decide_eq_false before
    obtain e | e := hnot
    · exact e h.1
    · omega
  have hdue := Channel.latchDue_of_agrees hagrees hperiod hk hg
  obtain rfl : order = .order (g.order (s.ch c).timer.nextSeq) := horder.trans (congrArg LinkMsg.order (g.order_eq _).symm)
  by_cases hf : (s.ch c).reading = none
  · refine ⟨_, (execLatchPoint_of_due hdue hline).trans (congrArg _ (State.latchPoint_of_none hdue hf)), rfl, rfl, rfl, rfl,
      fun d hd => State.emit_ch_ne _ _ _ _ hd, fun _ => ⟨?_, rfl, fun hruns => ?_, fun hstop => ?_⟩, fun e => absurd hf e, fun e => absurd hf e⟩
    · rw [State.emit_cpl, List.append_nil]; rfl
    · rw [State.emit_ch_same]
      exact Channel.latchedBy_of_runs (ch := { s.ch c with timer := (s.ch c).timer.atLatch }) hruns hdue.up
    · rw [State.emit_ch_same]
      exact Channel.latchedBy_of_stopping (ch := { s.ch c with timer := (s.ch c).timer.atLatch }) hstop
  obtain ⟨f, hf⟩ := Option.ne_none_iff_exists'.mp hf
  obtain ⟨link, combiner, state, timer, table, free, standing, row, header, lost⟩ :=
    Channel.missed_kept (f := f) hdue.free hdue.period s.regs.iface.busWrites (b := ((s.ch c).missed f).settled s.regs.iface.busWrites) rfl
  by_cases hzero : (s.ch c).link.endMiss = 0
  · obtain ⟨lframes, lcaps, llast, lcombiner, lstate, lmiss, _⟩ := Channel.latchedBy_kept (((s.ch c).missed f).settled s.regs.iface.busWrites) g
    refine ⟨_, (execLatchPoint_of_due hdue hline).trans (congrArg _ (State.latchPoint_firstMiss hdue hf hzero)), rfl, rfl, rfl, rfl,
      fun d hd => State.emit_ch_ne _ _ _ _ hd, fun e => absurd (hf.symm.trans e) nofun, fun _ hsound _ => ?_, fun _ _ e => absurd hzero (by omega)⟩
    obtain ⟨runs, stops⟩ := Channel.firstMiss_kept (f := f) hdue s.regs.iface.busWrites
      (State.emit_ch_same s c _ (((s.ch c).missed f).settledRecords c s.regs.iface.busWrites))
    refine ⟨?_, ?_, ?_, fun y hy hs x hx hc _ => ?_, fun f' ended hl hr hq hf' hended => ?_, runs, stops⟩
    · rw [State.emit_ch_same, lmiss, link, hzero]
      rfl
    · rw [State.emit_ch_same, lcombiner, combiner]
    · rw [State.emit_ch_same, Channel.reading, lframes]
      exact (Channel.missed_frames hsound hf s.regs.iface.busWrites).1
    · rw [State.emit_ch_same, lframes] at hx
      exact Channel.missed_short hsound hf _ hy hs x hx hc
    · obtain rfl := Option.some.inj (hf.symm.trans hf')
      exact State.frameEnded_missed (State.reads hl hr hf) hq hended rfl (by rw [State.emit_ch_same, lframes])
        (by rw [State.emit_ch_same, llast]) (by rw [State.emit_ch_same, lcaps])
  · have hone : 1 ≤ (s.ch c).link.endMiss := Nat.one_le_iff_ne_zero.mpr hzero
    obtain ⟨x, hx, hlatch⟩ := State.latchPoint_secondMiss (s := s) (c := c) (g := g) hdue hf hone
    refine ⟨_, (execLatchPoint_of_due hdue hline).trans (congrArg _ hlatch), rfl, rfl, rfl, rfl,
      fun d hd => State.emit_ch_ne _ _ _ _ hd, fun e => absurd (hf.symm.trans e) nofun, fun _ _ e => absurd e hzero, fun _ hsound _ => ?_⟩
    have here : (s.drawn.emit c (x.silenced s.regs.iface.busWrites) (((s.ch c).missed f).settledRecords c s.regs.iface.busWrites
        ++ x.silencedRecords c s.regs.iface.busWrites)).ch c = x.silenced s.regs.iface.busWrites := State.emit_ch_same _ _ _ _
    obtain ⟨miss, cause, idle, seq, ends, waits, sent⟩ := Channel.secondMiss_kept (f := f) hdue hmiss hone s.regs.iface.busWrites hx here
    refine ⟨miss, cause, idle, seq, fun f' ended hl hr hq hf' hended => ?_, ends, waits, sent⟩
    obtain rfl := Option.some.inj (hf.symm.trans hf')
    rw [here]
    have xkept : x.frames = (((s.ch c).missed f).settled s.regs.iface.busWrites).frames
        ∧ x.captures = (((s.ch c).missed f).settled s.regs.iface.busWrites).captures ∧ x.rowWrite = (s.ch c).rowWrite
        ∧ x.headerWrite = (s.ch c).headerWrite ∧ x.lostEvents = (s.ch c).lostEvents
        ∧ x.timer.run = (s.ch c).timer.run ∧ x.timer.nextSeq = (s.ch c).timer.nextSeq := by
      obtain rfl | rfl := hx
      · exact ⟨rfl, rfl, row, header, lost, (by rw [timer]; rfl), (by rw [timer]; rfl)⟩
      · obtain ⟨lframes, lcaps, _, _, _, _, lseq, lrun, _, _, lrow, lheader, llost, _⟩ :=
          Channel.latchedBy_kept (((s.ch c).missed f).settled s.regs.iface.busWrites) g
        exact ⟨lframes, lcaps, lrow.trans row, lheader.trans header, llost.trans lost, lrun.trans (by rw [timer]; rfl),
          lseq.trans (by rw [timer]; rfl)⟩
    exact State.secondMiss_posts (State.reads hl hr hf) hq hsound hdue hx xkept hended rfl
end

end Sys2Proof.Machine
end

section
/-! The writes of the bus writer made: O39 and O40 (R57, R59, R61, R87, R105, R124 to R129). -/

namespace Sys2Proof.Machine

section
variable {s : State} {c : ChannelId} {b : Channel} {r : List Completion}

/-! ## A channel on its way from one frame to the next -/

/-- Channel `c` of `s` has come to `b` by the closes of frames, with the records `r`: its run is as it was, its credits are paid, its headers decided. -/
structure State.Reaches (s : State) (c : ChannelId) (b : Channel) (r : List Completion) : Prop where
  funded : s.Funded
  fits : b.RunFits
  credits : b.heldCredits + r.length = (s.ch c).heldCredits
  given : s.regs.iface.busWrites = false → b.headersGiven
  queue : b.queueSound
  state : b.state = (s.ch c).state
  ending : b.ending = (s.ch c).ending
  timer : b.timer = (s.ch c).timer
  standing : b.standing = (s.ch c).standing
  table : b.table = (s.ch c).table
  lostEvents : b.lostEvents = (s.ch c).lostEvents

theorem Channel.decided_of_given {writes : Bool} (h : writes = false → b.headersGiven) : b.decided writes = b := by
  cases writes with
  | true => rfl
  | false =>
    have kept : b.frames.map (fun f => f.giveUpHeader b.headerWrite.isSome) = b.frames := by
      refine List.map_congr_left (g := id) (fun f hf => ?_) |>.trans (List.map_id _)
      have given := h rfl f hf
      unfold Frame.giveUpHeader
      split
      next hab =>
        simp only [Bool.and_eq_true, Bool.not_eq_true', Bool.and_eq_false_iff, beq_eq_false_iff_ne] at hab
        obtain e | ⟨hs, hh⟩ := given hab.1
        · rw [← e]; rfl
        · exact absurd hab.2 (by simp [hs, hh])
      next => rfl
    show { b with frames := _ } = b
    rw [kept]

theorem Channel.headersGiven_advance (h : b.headersGiven) (n : Nat) : (b.advance n).headersGiven := by
  refine Channel.advance_induct (P := Channel.headersGiven) (fun ch f rest _ _ h g hg => h g (List.mem_of_mem_tail hg))
    (fun ch f rest hf he h g hg hab => ?_) n h
  obtain rfl | hg := List.mem_cons.mp hg
  · refine (h f (by rw [hf]; exact List.mem_cons_self) hab).imp id fun e => ?_
    rw [(Channel.entersClosing_iff.mp he).1] at e
    cases e.1
  · exact h g (List.mem_of_mem_tail hg) hab

theorem State.Reaches.advance (m : s.Reaches c b r) : s.Reaches c (b.advance b.frames.length) (r ++ b.advanceRecords c b.frames.length) where
  funded := m.funded
  fits := m.fits.advanced true
  credits := by
    have paid := b.advance_credits c b.frames.length
    have before := m.credits
    rw [List.length_append]
    omega
  given h := Channel.headersGiven_advance (m.given h) _
  queue := Channel.queueSound_advanced true m.queue
  state := (Channel.advance_state _ _).trans m.state
  ending := (Channel.advance_ending _ _).trans m.ending
  timer := (Channel.advance_timer _ _).trans m.timer
  standing := (Channel.advance_standing _ _).trans m.standing
  table := (Channel.advance_table _ _).trans m.table
  lostEvents := (Channel.advance_lostEvents _ _).trans m.lostEvents

/-- The frames go on, and then the run. -/
theorem State.Reaches.settle_eq (m : s.Reaches c b r) :
    (s.emit c b r).settle c = (s.emit c (b.advance b.frames.length) (r ++ b.advanceRecords c b.frames.length)).checkEnd c := by
  have decided : b.decided s.regs.iface.busWrites = b := Channel.decided_of_given m.given
  rw [State.settle_eq_emit, State.checkEnd_eq_emit, State.emit_ch_same, State.emit_ch_same, State.emit_emit, State.emit_emit, State.emit_regs,
    Channel.settled, Channel.settledRecords, Channel.advanced, decided, List.append_assoc]

/-- The run that a STOP with ABORT in hand waits for is ending (R128). -/
def State.stopWaits (s : State) : Prop := ∀ d ∈ s.waitingStop, (s.ch d).ending.isSome = true

/-- No STOP is answered while the run it waits for is as it was. -/
theorem State.stopWaits.unanswered (hw : s.stopWaits) {u : State} (hproc : u.proc = s.proc) (hothers : ∀ d, d ≠ c → u.ch d = s.ch d)
    (hhere : s.waitingStop = some c → (u.ch c).ending = (s.ch c).ending) : u.finishWaitingStop = u := by
  have hand : u.waitingStop = s.waitingStop := State.waitingStop_congr (by rw [hproc])
  cases hs : s.waitingStop with
  | none => exact State.finishWaitingStop_of_none (hand.trans hs)
  | some d =>
    refine (State.finishWaitingStop_of_some (hand.trans hs)).trans (if_neg ?_)
    have same : (u.ch d).ending = (s.ch d).ending := by
      by_cases hd : d = c
      · subst hd; exact hhere hs
      · rw [hothers d hd]
    rw [same, Option.isNone_iff_eq_none]
    exact Option.isSome_iff_ne_none.mp (hw d hs)

theorem State.stopWaits.emit (hw : s.stopWaits) (hend : b.ending = (s.ch c).ending) : (s.emit c b r).finishWaitingStop = s.emit c b r :=
  hw.unanswered rfl (fun _ hd => State.emit_ch_ne _ _ _ _ hd) fun _ => (congrArg Channel.ending (State.emit_ch_same _ _ _ _)).trans hend

/-- With a frame left in use the run goes on, or its end waits. -/
theorem State.emit_checkEnd_of_frames (hf : b.frames ≠ []) : (s.emit c b r).checkEnd c = s.emit c b r := by
  unfold State.checkEnd
  rw [State.emit_ch_same]
  split
  next e _ => exact absurd e hf
  next e _ => exact absurd e hf
  next => rfl

/-! ## The last frame has closed (R87, R95, R111, R112, R128) -/

/-- The state behind the end of the run, before a STOP that waits for it is answered. -/
def State.runEnded (s : State) (c : ChannelId) (b : Channel) (r : List Completion) : State :=
  if b.haltsNow then (s.emit c b.ended (r ++ b.endedRecords c)).haltedAfter c else s.emit c b.ended (r ++ b.endedRecords c)

theorem State.emit_checkEnd (s : State) (c : ChannelId) (b : Channel) (r : List Completion) : (s.emit c b r).checkEnd c = s.runEnded c b r := by
  rw [State.checkEnd_eq_emit, State.emit_ch_same, State.emit_emit]
  rfl

/-- The offer of STOPPED (HALT) behind the end of a run that HALTED found faulted. -/
theorem State.haltedAfter_cases (s : State) (c : ChannelId) :
    (s.haltedAfter c).regs = s.regs ∧ (s.haltedAfter c).proc = s.proc ∧ (∀ d, d ≠ c → (s.haltedAfter c).ch d = s.ch d)
      ∧ (s.cpl.queue.length + s.cpl.reserved < 64 →
        (s.haltedAfter c).cpl.queue = s.cpl.queue ++ [channelEventRecord c (s.ch c) (.stopped .halt)]
        ∧ (s.haltedAfter c).ch c = { s.ch c with state := .off })
      ∧ (64 ≤ s.cpl.queue.length + s.cpl.reserved → (s.haltedAfter c).cpl.queue = s.cpl.queue
        ∧ (s.haltedAfter c).ch c = { s.ch c with state := .off, lostEvents := satAdd (s.ch c).lostEvents }) := by
  unfold State.haltedAfter State.offerHaltStop
  have acts := (Settles.offer c (s.upd c fun ch => { ch with state := .off })
    (channelEventRecord c ((s.upd c fun ch => { ch with state := .off }).ch c) (.stopped .halt))).toActsOn
  have here : (s.upd c fun ch => { ch with state := .off }).ch c = { s.ch c with state := .off } := State.ch_upd_same s c _
  refine ⟨acts.regs, acts.proc, fun d hd => (acts.others d hd).trans (State.ch_upd_ne s _ hd), fun hfree => ?_, fun hfull => ?_⟩
  · have free : 1 ≤ (s.upd c fun ch => { ch with state := .off }).creditsFree := by
      unfold State.creditsFree
      show 1 ≤ 64 - (s.cpl.queue.length + s.cpl.reserved)
      omega
    rw [State.offer_ch_same, if_pos free, here]
    obtain ⟨_, h⟩ | ⟨h, _⟩ := State.offer_cases (s.upd c fun ch => { ch with state := .off }) c (channelEventRecord c { s.ch c with state := .off } (.stopped .halt))
    · rw [h]
      exact ⟨rfl, rfl⟩
    · omega
  · have full : ¬ 1 ≤ (s.upd c fun ch => { ch with state := .off }).creditsFree := by
      unfold State.creditsFree
      show ¬ 1 ≤ 64 - (s.cpl.queue.length + s.cpl.reserved)
      omega
    rw [State.offer_ch_same, if_neg full, here]
    obtain ⟨h, _⟩ | ⟨_, h⟩ := State.offer_cases (s.upd c fun ch => { ch with state := .off }) c (channelEventRecord c { s.ch c with state := .off } (.stopped .halt))
    · omega
    · rw [h]
      exact ⟨rfl, rfl⟩

theorem State.emit_occupied (h : r.length ≤ s.cpl.reserved) :
    (s.emit c b r).cpl.queue.length + (s.emit c b r).cpl.reserved = s.cpl.queue.length + s.cpl.reserved := by
  rw [State.emit_queue, State.emit_reserved, List.length_append]
  omega

/-- The records of the end of a run are paid with credits reserved. -/
theorem State.Reaches.room (m : s.Reaches c b r) : (r ++ b.endedRecords c).length ≤ s.cpl.reserved := by
  have before := m.credits
  have ends := m.fits.ended_credits c
  have held := s.heldCredits_le c
  have reserved := m.funded.reserved
  rw [List.length_append]
  omega

/-- With no frame in flight every capture closes at the end of the run. -/
theorem State.Reaches.flight (m : s.Reaches c b r) (hf : b.frames = []) : ∀ k ∈ b.captures, k.inFlight = 0 := by
  have counts := (b.queueSound_iff.mp m.queue).2
  rw [hf] at counts
  exact counts.none_in_flight

/-- What a run that a stop or a fault was ending comes to with its last close. -/
theorem State.Reaches.ended (m : s.Reaches c b r) (hf : b.frames = []) {e : Ending} (he : (s.ch c).ending = some e) {u : State} (hu : u = s.runEnded c b r) :
    u.regs = s.regs ∧ u.proc = s.proc ∧ (∀ d, d ≠ c → u.ch d = s.ch d)
      ∧ ((u.ch c).frames = [] ∧ (u.ch c).ending = none ∧ (u.ch c).captures = [] ∧ (u.ch c).standing = false ∧ (u.ch c).table.idle
        ∧ (u.ch c).state = (if e.thenHalt then .off else e.event.endState) ∧ (u.ch c).lastFreed = b.lastFreed)
      ∧ (e.thenHalt = false → u = s.emit c (b.finished e) (r ++ (s.ch c).endRecords c b.captures e.event))
      ∧ (e.thenHalt = true → s.cpl.queue.length + s.cpl.reserved < 64 → u.cpl.queue = s.cpl.queue ++ r ++ (s.ch c).endRecords c b.captures e.event
        ++ [.channelEvent c (s.ch c).timer.run (.stopped .halt) (s.ch c).timer.nextSeq])
      ∧ (e.thenHalt = true → 64 ≤ s.cpl.queue.length + s.cpl.reserved →
        u.cpl.queue = s.cpl.queue ++ r ++ (s.ch c).endRecords c b.captures e.event ∧ (u.ch c).lostEvents = min ((s.ch c).lostEvents + 1) 65535) := by
  have hbe : b.ending = some e := m.ending.trans he
  obtain ⟨ended, records⟩ := Channel.ended_of_ending (c := c) hf hbe
  have halts : b.haltsNow = e.thenHalt := by rw [Channel.haltsNow, hf, hbe]
  have same : b.finishRecords c e.event = (s.ch c).endRecords c b.captures e.event :=
    (Channel.finishRecords_eq (m.flight hf) e.event).trans (Channel.endRecords_congr (by rw [m.timer]) (by rw [m.timer]) _ _)
  have occupied := State.emit_occupied (c := c) (b := b.finished e) m.room
  rw [records, same] at occupied
  rw [State.runEnded, halts, ended, records, same] at hu
  have closed : (b.finished e).captures = [] := Channel.finished_captures (m.flight hf) e
  have idle : (b.finished e).table.idle := SettingsTable.cleared_idle _
  cases ht : e.thenHalt with
  | false =>
    rw [ht, if_neg Bool.false_ne_true] at hu
    have here : u.ch c = b.finished e := by rw [hu, State.emit_ch_same]
    rw [here]
    exact ⟨by rw [hu]; rfl, by rw [hu]; rfl, fun d hd => by rw [hu, State.emit_ch_ne _ _ _ _ hd], ⟨hf, rfl, closed, rfl, idle, rfl, rfl⟩,
      fun _ => hu, nofun, nofun⟩
  | true =>
    rw [ht, if_pos rfl] at hu
    obtain ⟨regs, proc, others, room, full⟩ := State.haltedAfter_cases
      (s.emit c (b.finished e) (r ++ (s.ch c).endRecords c b.captures e.event)) c
    rw [State.emit_ch_same, occupied, ← hu] at room full
    rw [← hu] at regs proc others
    refine ⟨regs, proc, fun d hd => (others d hd).trans (State.emit_ch_ne _ _ _ _ hd), ?_, nofun, fun _ h => ?_, fun _ h => ?_⟩
    · by_cases h : s.cpl.queue.length + s.cpl.reserved < 64
      · rw [(room h).2]
        exact ⟨hf, rfl, closed, rfl, idle, rfl, rfl⟩
      · rw [(full (by omega)).2]
        exact ⟨hf, rfl, closed, rfl, idle, rfl, rfl⟩
    · rw [(room h).1, channelEventRecord]
      show s.cpl.queue ++ (r ++ _) ++ [.channelEvent c b.timer.run _ b.timer.nextSeq] = _
      rw [m.timer, ← List.append_assoc s.cpl.queue]
    · rw [(full h).1, (full h).2]
      refine ⟨(List.append_assoc _ _ _).symm, ?_⟩
      show satAdd b.lostEvents = _
      rw [m.lostEvents]
      rfl

/-- The run behind the last close in use, in the words of the statements. -/
theorem State.Reaches.follows (m : s.Reaches c b r) (waits : s.stopWaits) (hf : b.frames = []) {t : State} (ht : t = ((s.emit c b r).checkEnd c).finishWaitingStop) :
    s.runFollows t c r b.captures ∧ (t.ch c).lastFreed = b.lastFreed := by
  rw [State.emit_checkEnd] at ht
  cases he : (s.ch c).ending with
  | none =>
    have hbe : b.ending = none := m.ending.trans he
    have unwaited (h : s.waitingStop = some c) : False := by
      have := waits c h
      rw [he] at this
      cases this
    have halts : b.haltsNow = false := by rw [Channel.haltsNow, hf, hbe]
    rw [State.runEnded, halts, if_neg Bool.false_ne_true,
      waits.unanswered (u := s.emit c b.ended (r ++ b.endedRecords c)) rfl (fun d hd => State.emit_ch_ne _ _ _ _ hd) fun h => (unwaited h).elim] at ht
    have here : t.ch c = b.ended := by rw [ht, State.emit_ch_same]
    have queue : t.cpl.queue = s.cpl.queue ++ (r ++ b.endedRecords c) := by rw [ht]; rfl
    have kept : b.ended.frames = [] ∧ b.ended.ending = none ∧ b.ended.captures = b.captures ∧ b.ended.lastFreed = b.lastFreed := by
      unfold Channel.ended
      rw [hf, hbe]
      dsimp only
      split <;> exact ⟨hf, hbe, rfl, rfl⟩
    obtain ⟨frames, ending, caps, last⟩ := kept
    rw [here]
    refine ⟨⟨by rw [here]; exact frames, by rw [here]; exact ending, fun _ => ⟨by rw [ht]; rfl, by rw [ht]; rfl, by rw [here]; exact caps, fun hgo => ?_, fun hstop => ?_⟩,
      fun e hmem => by rw [he] at hmem; cases hmem⟩, last⟩
    · have goesOn : ¬(b.state = .stopping ∧ b.timer.state = .idle) := by rw [m.state, m.timer]; exact hgo
      rw [queue, here, Channel.ended, Channel.endedRecords, hf, hbe]
      dsimp only
      rw [if_neg goesOn, if_neg goesOn, List.append_nil]
      exact ⟨rfl, m.state, m.standing, m.table⟩
    · have stops : b.state = .stopping ∧ b.timer.state = .idle := by rw [m.state, m.timer]; exact hstop
      rw [queue, here, Channel.ended, Channel.endedRecords, hf, hbe]
      dsimp only
      rw [if_pos stops, if_pos stops, channelEventRecord, m.timer]
      exact ⟨(List.append_assoc _ _ _).symm, rfl, rfl, SettingsTable.cleared_idle _⟩
  | some e =>
    obtain ⟨regs, proc, others, ⟨frames, ending, caps, standing, idle, state, last⟩, goes, room, full⟩ := m.ended hf he rfl
    have rests : ((s.runEnded c b r).ch c).Rests := Channel.rests_of_empty ending frames (by
      rw [state]
      split
      · exact nofun
      · cases e.event <;> exact nofun)
    have here : t.ch c = (s.runEnded c b r).ch c := by
      rw [ht]
      obtain h | h := (s.runEnded c b r).finishWaitingStop_cases
      · rw [h]
      · rw [h, State.finishCommand_ch_of_rests rests]
    rw [here]
    refine ⟨⟨by rw [here]; exact frames, by rw [here]; exact ending, fun h => absurd (he.symm.trans h) nofun, fun e' hmem => ?_⟩, last⟩
    obtain rfl : e' = e := (Option.some.inj (he.symm.trans hmem)).symm
    rw [here]
    refine ⟨caps, standing, idle, state.trans (by cases e'.event <;> rfl), fun hw hthen => ?_, fun hw => ?_⟩
    · have answers : t = (s.emit c (b.finished e') (r ++ (s.ch c).endRecords c b.captures e'.event)).finishCommand .ok none := by
        rw [ht, State.finishWaitingStop_of_some ((State.waitingStop_congr (by rw [proc])).trans hw), ending, ← goes hthen]
        exact if_pos rfl
      rw [answers]
      obtain ⟨k, hk⟩ : ∃ k, s.proc.hand = some k := by
        cases hk : s.proc.hand with
        | none => rw [State.waitingStop_of_none hk] at hw; cases hw
        | some k => exact ⟨k, rfl⟩
      exact (State.Prepares.emit hk c _ _).answered
    · have same : t = s.runEnded c b r := ht.trans (waits.unanswered proc others fun h => absurd h hw)
      rw [same]
      refine ⟨regs, proc, fun hthen => ?_, room, full⟩
      rw [goes hthen]
      exact (List.append_assoc _ _ _).symm

/-! ## What a write made leaves as it was -/

theorem State.finishWaitingStop_queue (s : State) : ∃ more, s.finishWaitingStop.cpl.queue = s.cpl.queue ++ more := by
  obtain h | h := s.finishWaitingStop_cases
  · exact ⟨[], by rw [h, List.append_nil]⟩
  · rw [h]
    cases hk : s.proc.hand with
    | none => exact ⟨[], by rw [State.finishCommand_of_none hk, List.append_nil]⟩
    | some k =>
      obtain ⟨_, _, after, hqueue, _⟩ := State.finishCommand_answered hk .ok none
      rw [List.append_nil] at hqueue
      exact ⟨_, hqueue⟩

theorem State.finishWaitingStop_pools (s : State) : s.finishWaitingStop.pools = s.pools := by
  obtain h | h := s.finishWaitingStop_cases <;> rw [h]
  exact State.finishCommand_pools s .ok none

theorem State.runEnded_headerWrite (s : State) (c : ChannelId) (b : Channel) (r : List Completion) : ((s.runEnded c b r).ch c).headerWrite = b.headerWrite := by
  have ended : b.ended.headerWrite = b.headerWrite := by
    unfold Channel.ended
    split
    · rfl
    · split <;> rfl
    · rfl
  unfold State.runEnded
  split
  · obtain ⟨_, _, _, room, full⟩ := State.haltedAfter_cases (s.emit c b.ended (r ++ b.endedRecords c)) c
    rw [State.emit_ch_same] at room full
    obtain h | h := Nat.lt_or_ge ((s.emit c b.ended (r ++ b.endedRecords c)).cpl.queue.length + (s.emit c b.ended (r ++ b.endedRecords c)).cpl.reserved) 64
    · rw [(room h).2]; exact ended
    · rw [(full h).2]; exact ended
  · rw [State.emit_ch_same]; exact ended

/-- Whatever the run comes to, it and the answer of a STOP touch the channel, the registers' head and state, the processor and the holding queue alone. -/
theorem State.stopWaits.frame (waits : s.stopWaits) {t : State} (ht : t = ((s.emit c b r).checkEnd c).finishWaitingStop) :
    t.mem = s.mem ∧ t.pools = s.pools ∧ t.port = s.port ∧ t.pending = s.pending
      ∧ (s.regs.iface ≠ .quiescing ∨ s.waitingStop ≠ some c → ∀ d, d ≠ c → t.ch d = s.ch d)
      ∧ (t.ch c).headerWrite = b.headerWrite ∧ ∃ more, t.cpl.queue = s.cpl.queue ++ r ++ more := by
  have acts := (Settles.checkEnd c (s.emit c b r)).toActsOn
  obtain ⟨_, mem, pending, _, port⟩ := ((s.emit c b r).checkEnd c).finishWaitingStop_answerFrame
  have others (d : ChannelId) (hd : d ≠ c) : ((s.emit c b r).checkEnd c).ch d = s.ch d := (acts.others d hd).trans (State.emit_ch_ne _ _ _ _ hd)
  rw [← ht] at mem pending port
  refine ⟨mem.trans acts.mem, ?_, port.trans acts.port, pending.trans acts.pending, fun hor d hd => ?_, ?_, ?_⟩
  · rw [ht, State.finishWaitingStop_pools]
    exact (Settles.checkEnd c _).pools
  · obtain hq | hw := hor
    · rw [ht]
      obtain h | h := ((s.emit c b r).checkEnd c).finishWaitingStop_cases
      · rw [h, others d hd]
      · rw [h, State.ch, State.finishCommand_chans (by rw [acts.regs]; exact hq)]
        exact others d hd
    · rw [ht, waits.unanswered acts.proc others fun h => absurd h hw]
      exact others d hd
  · have header : (((s.emit c b r).checkEnd c).ch c).headerWrite = b.headerWrite := by rw [State.emit_checkEnd, State.runEnded_headerWrite]
    rw [ht]
    obtain h | h := ((s.emit c b r).checkEnd c).finishWaitingStop_cases
    · rw [h, header]
    · rw [h]
      obtain h | ⟨_, n, _, h⟩ := State.finishCommand_ch ((s.emit c b r).checkEnd c) .ok none c
      · rw [h, header]
      · rw [h, (Channel.settledThen_frames _ _ n).2, Channel.settled_headerWrite, header]
  · obtain ⟨a, ha⟩ := acts.queue
    obtain ⟨more, hmore⟩ := ((s.emit c b r).checkEnd c).finishWaitingStop_queue
    refine ⟨a ++ more, ?_⟩
    rw [ht, hmore, ha, State.emit_queue, List.append_assoc]

/-- A write made beside: host memory and the draws are no part of it. -/
theorem State.Reaches.withMem (m : s.Reaches c b r) (mem : Memory) (draws : Nat) : State.Reaches { s with mem := mem, draws := draws } c b r :=
  ⟨m.funded.of_eq rfl rfl rfl rfl, m.fits, m.credits, m.given, m.queue, m.state, m.ending, m.timer, m.standing, m.table, m.lostEvents⟩

theorem State.land_with (s : State) (w : BusWrite) (error : Bool) : ∃ mem draws, s.land w error = { s with mem := mem, draws := draws } :=
  ⟨_, _, s.land_eq w error⟩

/-! ## The frames behind a write made -/

section
variable {f g : Frame}

theorem Channel.dropRecords_congr {a b : Channel} {f f' : Frame} (hrun : b.timer.run = a.timer.run) (hcaps : b.captures = a.captures)
    (hkept : f'.run = f.run ∧ f'.seq = f.seq ∧ f'.tag = f.tag ∧ f'.hold = f.hold) (hflags : f'.flags = f.flags) (hreason : f'.dropReason = f.dropReason) :
    b.dropRecords c f' = a.dropRecords c f := by
  obtain ⟨hfrun, hseq, htag, hhold⟩ := hkept
  unfold Channel.dropRecords
  rw [htag, hfrun, hseq, hhold, hflags, hreason]
  cases f.tag with
  | none => rfl
  | some tag => exact congrArg _ (Channel.closedAfter_congr hrun hcaps tag false)

/-- A frame of a run that is ending, behind another: aborted, its reading over. -/
theorem Channel.RowAccounts.behindEnding {ch : Channel} (h : ch.RowAccounts) (a : ch.RunFits) (hend : ch.ending.isSome = true) (hg : g ∈ ch.frames.tail) :
    g.stage = .draining ∧ g.flags.aborted = true := by
  have mem := List.mem_of_mem_tail hg
  have later := h.later g hg
  refine ⟨?_, Bool.of_not_eq_false fun hab => ?_⟩
  · cases hs : g.stage with
    | reading =>
      have period := ((h.frames g mem).reading hs).1
      rw [a.ending hend] at period
      cases period
    | draining => rfl
    | closing => exact absurd hs later
  · obtain e | e := (h.frames g mem).spared hab
    · rw [e] at hend; cases hend
    · exact later e.1

/-- A last frame without a header to write closes, and the run goes on to its end. -/
theorem State.Reaches.last (m : s.Reaches c b r) (hf : b.frames = [f]) (hd : b.drops f = true) :
    s.Reaches c { b with frames := [], lastFreed := some f.ctx, captures := b.abortCaptures f } (r ++ b.unwrittenRecords c f)
      ∧ (s.emit c b r).settle c
        = (s.emit c { b with frames := [], lastFreed := some f.ctx, captures := b.abortCaptures f } (r ++ b.unwrittenRecords c f)).checkEnd c := by
  have settles := m.settle_eq
  have next := m.advance
  have one : b.frames.length = 1 := by rw [hf]; rfl
  have records : (b.released f false).advanceRecords c 0 = [] := rfl
  rw [one, Channel.advance_last m.queue hf hd, Channel.advanceRecords_drops hf hd, records, List.append_nil] at next settles
  exact ⟨next, settles⟩

/-- An earliest frame with its rows done and its header to write enters CLOSING. -/
theorem State.Reaches.enters (m : s.Reaches c b r) {rest : List Frame} (hf : b.frames = f :: rest) (he : b.entersClosing f = true) :
    (s.emit c b r).settle c = s.emit c { b with frames := f.closingAt b.lostEvents :: rest } r := by
  have some : b.frames.length = rest.length + 1 := by rw [hf]; rfl
  rw [m.settle_eq, some, Channel.advance_enters hf he, Channel.advanceRecords_stays hf (Channel.drops_of_entersClosing he), List.append_nil]
  exact State.emit_checkEnd_of_frames nofun

/-- While the earliest frame waits for something no frame goes on. -/
theorem State.Reaches.headWaits (m : s.Reaches c b r) (hf : b.frames ≠ []) (hw : b.headWaits = true) : (s.emit c b r).settle c = s.emit c b r := by
  rw [m.settle_eq, Channel.advance_of_waits hw, Channel.advanceRecords_of_waits hw, List.append_nil]
  exact State.emit_checkEnd_of_frames hf

/-- Frames that go on with the run left as it was bring no answer to a STOP. -/
theorem State.Reaches.quiet (m : s.Reaches c b r) (waits : s.stopWaits) {b' : Channel} {r' : List Completion}
    (h : (s.emit c b r).settle c = s.emit c b' r') (hend : b'.ending = b.ending) : ((s.emit c b r).settle c).finishWaitingStop = s.emit c b' r' := by
  rw [h, waits.emit (hend.trans m.ending)]

/-- Of two frames the earlier closes without a header: the later one is in the words of one frame behind it. -/
theorem State.Reaches.first (m : s.Reaches c b r) (hf : b.frames = [f, g]) (hd : b.drops f = true) (hcredit : f.tag.isSome = f.credit) :
    s.Reaches c (b.behindFirst f g) (r ++ b.dropRecords c f)
      ∧ (s.emit c b r).settle c = (s.emit c (b.behindFirst f g) (r ++ b.dropRecords c f)).settle c := by
  have released : b.released f false = b.behindFirst f g := Channel.released_eq m.queue hf
  have credits := Channel.released_credits hf c false
  have records := b.unwrittenRecords_length c f
  rw [released] at credits
  rw [Channel.dropRecords_eq m.queue hcredit] at records
  have next : s.Reaches c (b.behindFirst f g) (r ++ b.dropRecords c f) := {
    funded := m.funded
    fits := released ▸ m.fits.released f false
    credits := by
      have before := m.credits
      rw [List.length_append, records]
      omega
    given := fun h x hx => by
      rw [List.mem_singleton.mp hx]
      exact m.given h g (by rw [hf]; exact List.mem_cons_of_mem _ List.mem_cons_self)
    queue := Channel.behindFirst_sound m.queue hf
    state := m.state
    ending := m.ending
    timer := m.timer
    standing := m.standing
    table := m.table
    lostEvents := m.lostEvents }
  have two : b.frames.length = 2 := by rw [hf]; rfl
  refine ⟨next, ?_⟩
  rw [m.settle_eq, next.settle_eq, two, Channel.advance_first m.queue hf hd, Channel.advanceRecords_first m.queue hf hd hcredit, List.append_assoc]
  rfl
end

/-! ## ROW_WRITE (R57, R61) -/

/-- R57: a valid row written counts for its frame. -/
def Frame.counted (r : OutputRow) (f : Frame) : Frame :=
  if f.ctx = r.ctx ∧ r.words.isSome = true then { f with produced := f.produced + 1 } else f

theorem Frame.counted_kept (r : OutputRow) (f : Frame) : (f.counted r).ctx = f.ctx ∧ (f.counted r).stage = f.stage ∧ (f.counted r).hold = f.hold
    ∧ (f.counted r).noHeader = f.noHeader ∧ (f.counted r).flags = f.flags ∧ (f.counted r).tag = f.tag ∧ (f.counted r).credit = f.credit
    ∧ (f.counted r).run = f.run ∧ (f.counted r).seq = f.seq ∧ (f.counted r).dropReason = f.dropReason := by
  unfold Frame.counted
  split <;> exact ⟨rfl, rfl, rfl, rfl, rfl, rfl, rfl, rfl, rfl, rfl⟩

theorem Frame.counted_other {r : OutputRow} {f : Frame} (h : f.ctx ≠ r.ctx) : f.counted r = f := if_neg fun e => h e.1

/-- The channel once its oldest row is written, before its frames go on. -/
def Channel.withoutRow (ch : Channel) (r : OutputRow) (rest : List OutputRow) : Channel :=
  { ch with rows := rest, rowWrite := none, frames := ch.frames.map (Frame.counted r) }

section
variable {ch : Channel} {w : BusWrite} {x : OutputRow} {rest : List OutputRow}

theorem Channel.rowWritten_eq (hrows : ch.rows = x :: rest) : ch.rowWritten = ch.withoutRow x rest := by
  unfold Channel.rowWritten Channel.withoutRow
  rw [hrows]
  dsimp only
  cases hw : x.words.isSome with
  | false =>
    have same : ch.frames.map (Frame.counted x) = ch.frames :=
      (List.map_congr_left (g := id) fun f _ => if_neg fun e => by rw [hw] at e; exact Bool.false_ne_true e.2).trans (List.map_id _)
    rw [same]
    rfl
  | true =>
    have same : ch.frames.map (Frame.counted x) = ch.frames.map fun f => if f.ctx = x.ctx then f.oneProduced else f :=
      List.map_congr_left fun f _ => by
        unfold Frame.counted
        rw [hw]
        simp only [and_true]
        rfl
    rw [same]
    rfl

theorem State.Reaches.row (hl : s.ledger) (hr : s.rowsSound) (hq : (s.ch c).queueSound) (hrows : (s.ch c).rows = x :: rest) :
    s.Reaches c ((s.ch c).withoutRow x rest) [] := by
  obtain ⟨books, _⟩ := s.ledger_iff.mp hl
  have waits := (s.rowsSound_iff.mp hr).2
  have fits := (books.chans c).rowWritten
  have credits := (Channel.Combines.rowWritten (s.ch c)).credits
  rw [Channel.rowWritten_eq hrows] at fits credits
  refine ⟨books.funded, fits, credits, fun h y hy hab => ?_, ?_, rfl, rfl, rfl, rfl, rfl, rfl⟩
  · obtain ⟨f, hf, rfl⟩ := List.mem_map.mp hy
    obtain ⟨_, stage, _, noHeader, flags, _⟩ := f.counted_kept x
    rw [stage, noHeader]
    rw [flags] at hab
    exact (s.headersDecided_iff c).mp (waits.headers c) h f hf hab
  · exact Channel.queueSound_congr hq rfl rfl (map_tag_map fun f => (f.counted_kept x).2.2.2.2.2.1)

theorem execRowWrite_of_held (h : (s.ch c).rowWrite = some w) (error : Bool) : exec (.rowWrite c .current error) s = .next (s.rowMade c w error) := by
  show execRowWrite c .current error s = _
  simp only [execRowWrite, State.handRow_of_held h, h]

theorem execRowWrite_of_not (hw : (s.ch c).rowWrite = none) (h : s.handRow c = s) (error : Bool) : exec (.rowWrite c .current error) s = .next s := by
  show execRowWrite c .current error s = _
  simp only [execRowWrite, h, hw]

/-- A row that may be handed is handed and made in one step (notes/assumptions/4.md). -/
theorem execRowWrite_handRow (s : State) (c : ChannelId) (error : Bool) :
    exec (.rowWrite c .current error) (s.handRow c) = exec (.rowWrite c .current error) s := by
  by_cases h : s.handRow c = s
  · rw [h]
  · cases hw : ((s.handRow c).ch c).rowWrite with
    | some w =>
      rw [execRowWrite_of_held hw]
      show _ = execRowWrite c .current error s
      simp only [execRowWrite, hw]
    | none =>
      refine absurd ?_ h
      unfold State.handRow at hw ⊢
      split at hw
      next may =>
        rw [State.ch_upd_same] at hw
        obtain ⟨-, empty⟩ : _ ∧ (s.ch c).rowWrite = none := by simpa using may
        rw [if_pos may]
        exact State.upd_of_eq (by rw [show (s.ch c).oldestRowWrite = none from hw, ← empty])
      next may => rw [if_neg may]

theorem State.rowMade_eq (hrows : (s.ch c).rows = x :: rest) (w : BusWrite) (error : Bool) :
    s.rowMade c w error = (((s.land w error).emit c ((s.ch c).withoutRow x rest) []).settle c).finishWaitingStop := by
  rw [State.rowMade, State.upd_eq_emit, State.land_ch, Channel.rowWritten_eq hrows]

/-- Where the earliest frame has not lost its last row, it waits as before. -/
theorem Channel.withoutRow_waits (hw : ch.headWaits = true) (hrows : ch.rows = x :: rest)
    (h : ∀ f ∈ ch.frames.head?, f.stage = .reading ∨ f.stage = .closing ∨ f.ctx ≠ x.ctx ∨ ∃ y ∈ rest, y.ctx = f.ctx) :
    (ch.withoutRow x rest).headWaits = true := by
  rw [Channel.headWaits_iff] at hw ⊢
  intro y hy
  unfold Channel.withoutRow at hy
  rw [List.head?_map] at hy
  obtain ⟨f, hf, rfl⟩ := Option.map_eq_some_iff.mp hy
  obtain ⟨ctx, stage, hold, noHeader, _⟩ := f.counted_kept x
  rw [stage, ctx, hold, noHeader]
  obtain ⟨draining, closing⟩ := hw f hf
  have mono (e : (ch.withoutRow x rest).rowsRemain f.ctx = true) : ch.rowsRemain f.ctx = true := by
    unfold Channel.rowsRemain at e ⊢
    rw [hrows, List.any_cons]
    exact (Bool.or_eq_true _ _).mpr (.inr e)
  refine ⟨fun hs => ?_, ?_⟩
  · have remains := draining hs
    obtain e | e | hne | ⟨y, hy, hc⟩ := h f hf
    · rw [hs] at e; cases e
    · rw [hs] at e; cases e
    · unfold Channel.rowsRemain at remains ⊢
      rw [hrows, List.any_cons] at remains
      have other : (x.ctx == f.ctx) = false := by simpa using Ne.symm hne
      rw [other, Bool.false_or] at remains
      exact remains
    · exact List.any_eq_true.mpr ⟨y, hy, by simpa using hc⟩
  · intro hs
    obtain ⟨rows, rest⟩ := closing hs
    exact ⟨Bool.of_not_eq_true fun e => Bool.false_ne_true (rows.symm.trans (mono e)), rest⟩
end

/-! ## The last row of a DRAINING frame (R59, R124, R129) -/

section
variable {f g : Frame} {x : OutputRow} {rest : List OutputRow} {d : Descriptor}

/-- The earliest frame behind its last row, its header still to write. -/
theorem Channel.withoutRow_enters {ch : Channel} {fs : List Frame} (hf : ch.frames = f :: fs) (hs : f.stage = .draining) (hrows : ∀ y ∈ rest, y.ctx ≠ f.ctx)
    (hb : f.hold.isBuffer = true) (hheader : f.noHeader = false) :
    (ch.withoutRow x rest).frames = f.counted x :: fs.map (Frame.counted x) ∧ (ch.withoutRow x rest).entersClosing (f.counted x) = true := by
  obtain ⟨ctx, stage, hold, noHeader, _⟩ := f.counted_kept x
  refine ⟨congrArg (List.map (Frame.counted x)) hf, Channel.entersClosing_iff.mpr ?_⟩
  rw [stage, ctx, hold, noHeader]
  exact ⟨hs, Channel.rowsRemain_eq_false.mpr hrows, hb, hheader⟩

/-- The earliest frame behind its last row, its header given up. -/
theorem Channel.withoutRow_drops {ch : Channel} (hs : f.stage = .draining) (hrows : ∀ y ∈ rest, y.ctx ≠ f.ctx) (hheader : f.noHeader = true) :
    (ch.withoutRow x rest).drops (f.counted x) = true := by
  obtain ⟨ctx, stage, _, noHeader, _⟩ := f.counted_kept x
  exact Channel.drops_of_draining (stage.trans hs) (Channel.rowsRemain_eq_false.mpr (by rw [ctx]; exact hrows)) (.inr (noHeader.trans hheader))

/-- What an aborted frame that a written row was the last of posts. -/
theorem Channel.withoutRow_posts {ch : Channel} {tag : Tag} (hab : f.flags.aborted = true) (htag : f.tag = some tag) :
    (ch.withoutRow x rest).dropRecords c (f.counted x) = f.droppedAborted c tag :: ch.closedAfter c tag false
      ∧ (ch.withoutRow x rest).abortCaptures (f.counted x) = ch.capturesAfter tag false := by
  obtain ⟨_, _, hold, _, flags, ftag, _, run, seq, reason⟩ := f.counted_kept x
  have kept : (ch.withoutRow x rest).dropRecords c (f.counted x) = ch.dropRecords c f :=
    Channel.dropRecords_congr rfl rfl ⟨run, seq, ftag, hold⟩ flags reason
  have caps : (ch.withoutRow x rest).abortCaptures (f.counted x) = ch.abortCaptures f := Channel.abortCaptures_congr rfl ftag
  rw [kept, caps, Channel.dropRecords_aborted hab, Channel.abortRecords, Channel.abortCaptures, htag]
  exact ⟨rfl, rfl⟩

/-- The later of two frames of a run that is ending, behind the last row of the earlier. -/
theorem State.Reaches.secondOfRun {first : Channel} {posted : List Completion} {t : State} (m : s.Reaches c b posted) (waits : s.stopWaits) (hf : b.frames = [g]) (hrows : b.rows = [])
    (hs : g.stage = .draining) (hab : g.flags.aborted = true) (hlast : b.lastFreed = some f.ctx) (hcaps : first.captures = b.captures)
    (hrun : first.timer.run = b.timer.run) (ht : t = ((s.emit c b posted).settle c).finishWaitingStop) :
    (g.hold.isBuffer = true → g.noHeader = false →
      (t.ch c).frames = [{ g with stage := .closing, lostEvents := some (s.ch c).lostEvents }] ∧ (t.ch c).lastFreed = some f.ctx
      ∧ (t.ch c).captures = first.captures ∧ (t.ch c).ending = (s.ch c).ending ∧ (t.ch c).state = (s.ch c).state
      ∧ t.cpl.queue = s.cpl.queue ++ posted ∧ t.regs = s.regs ∧ t.proc = s.proc)
    ∧ (g.hold.isBuffer = false ∨ g.noHeader = true → g.tag.isSome = g.credit → (t.ch c).lastFreed = some g.ctx
      ∧ s.runFollows t c (posted ++ first.abortRecords c g) (first.abortCaptures g)) := by
  have done : b.rowsRemain g.ctx = false := by rw [Channel.rowsRemain, hrows]; rfl
  refine ⟨fun hb hheader => ?_, fun hor hcredit => ?_⟩
  · have made : t = s.emit c { b with frames := [g.closingAt b.lostEvents] } posted := by
      rw [ht, m.quiet waits (m.enters hf (Channel.entersClosing_iff.mpr ⟨hs, done, hb, hheader⟩)) rfl]
    have here : t.ch c = { b with frames := [g.closingAt b.lostEvents] } := by rw [made, State.emit_ch_same]
    rw [here, ← m.lostEvents, made]
    exact ⟨rfl, hlast, hcaps.symm, m.ending, m.state, rfl, rfl, rfl⟩
  · obtain ⟨next, settles⟩ := m.last hf (Channel.drops_of_draining hs done hor)
    obtain ⟨follows, last⟩ := next.follows waits rfl (ht.trans (by rw [settles]))
    have records : b.unwrittenRecords c g = first.abortRecords c g :=
      (Channel.dropRecords_eq m.queue hcredit).trans <| (Channel.dropRecords_aborted hab).trans (Channel.abortRecords_congr hrun.symm hcaps.symm ⟨rfl, rfl, rfl, rfl⟩)
    have caps : b.abortCaptures g = first.abortCaptures g := Channel.abortCaptures_congr hcaps.symm rfl
    rw [records, caps] at follows
    exact ⟨last, follows⟩
end

/-- The state that a row write made leaves, seen from the channel without the row. -/
theorem State.rowMade_reaches {w : BusWrite} {x : OutputRow} {rest : List OutputRow} (hl : s.ledger) (hr : s.rowsSound) (hq : (s.ch c).queueSound)
    (hrows : (s.ch c).rows = x :: rest) (error : Bool) : ∃ mem draws, s.landed { s with mem := mem, draws := draws } w error
      ∧ State.Reaches { s with mem := mem, draws := draws } c ((s.ch c).withoutRow x rest) []
      ∧ State.stopWaits { s with mem := mem, draws := draws }
      ∧ s.rowMade c w error = ((State.emit { s with mem := mem, draws := draws } c ((s.ch c).withoutRow x rest) []).settle c).finishWaitingStop := by
  obtain ⟨mem, draws, hv⟩ := s.land_with w error
  refine ⟨mem, draws, ?_, (State.Reaches.row hl hr hq hrows).withMem mem draws, (s.rowsSound_iff.mp hr).2.stop, ?_⟩
  · rw [← hv]; exact s.land_landed w error
  · rw [State.rowMade_eq hrows, hv]

/-- Settles O39. -/
theorem rowWriteTakesTheOldestRow : Obligations.RowWriteTakesTheOldestRow := by
  unfold Obligations.RowWriteTakesTheOldestRow
  refine fun s c error => ⟨fun w x rest counted hw hrows hl hr hq hcounted => ?_, fun hw h => ?_, ⟨_, rfl, (execRowWrite_handRow s c error).symm⟩⟩
  · obtain rfl : counted = (s.ch c).frames.map (Frame.counted x) := hcounted
    obtain ⟨mem, draws, landed, m, waits, made⟩ := State.rowMade_reaches (w := w) hl hr hq hrows error
    have accounts := (s.ledger_iff.mp hl).1.chans c
    have rowAccounts := (s.rowsSound_iff.mp hr).1 c
    obtain ⟨memory, pools, port, pending, others, _⟩ := waits.frame (made.trans (by rw [m.settle_eq]))
    refine ⟨_, execRowWrite_of_held hw error, fun a => by rw [memory]; exact landed a, pools, port, pending, others, fun hhead => ?_,
      fun f d hf hs hctx hdone hhold => ⟨fun hheader => ?_, fun tag hheader hone htag => ?_, fun tag g posted first hheader htwo htag hposted hfirst => ?_⟩⟩
    · have headWaits := Channel.withoutRow_waits rowAccounts.waits hrows hhead
      obtain ⟨f, hf, _⟩ := rowAccounts.owned x (by rw [hrows]; exact List.mem_cons_self)
      rw [made, m.quiet waits (m.headWaits (fun e => List.ne_nil_of_mem hf (List.map_eq_nil_iff.mp e)) headWaits) rfl, State.emit_ch_same,
        State.emit_cpl, List.append_nil]
      exact ⟨rfl, rfl, rfl, rfl⟩
    · obtain ⟨fs, hframes⟩ := List.head?_eq_some_iff.mp hf
      obtain ⟨frames, enters⟩ := Channel.withoutRow_enters (ch := s.ch c) (x := x) hframes hs hdone (congrArg Hold.isBuffer hhold) hheader
      rw [made, m.quiet waits (m.enters frames enters) rfl, State.emit_ch_same, State.emit_cpl, List.append_nil, hframes]
      exact ⟨rfl, rfl, rfl, rfl⟩
    · have hab := (rowAccounts.frames f (by rw [hone]; exact List.mem_cons_self)).given hheader
      have hpaid : f.credit = true := accounts.paid f (by rw [hone]; exact List.mem_cons_self) (by rw [hhold]; exact nofun)
      obtain ⟨_, _, _, _, _, ftag, fcredit, _⟩ := f.counted_kept x
      obtain ⟨next, settles⟩ := m.last (congrArg (List.map (Frame.counted x)) hone) (Channel.withoutRow_drops hs hdone hheader)
      obtain ⟨follows, _⟩ := next.follows waits rfl (made.trans (by rw [settles]))
      obtain ⟨records, caps⟩ := Channel.withoutRow_posts (c := c) (ch := s.ch c) (x := x) (rest := rest) hab htag
      rw [Channel.dropRecords_eq m.queue (by rw [ftag, fcredit, htag, hpaid]; rfl), records, caps] at follows
      exact follows
    · have hab := (rowAccounts.frames f (by rw [htwo]; exact List.mem_cons_self)).given hheader
      have hends := (rowAccounts.frames f (by rw [htwo]; exact List.mem_cons_self)).ends hab
      have hpaid : f.credit = true := accounts.paid f (by rw [htwo]; exact List.mem_cons_self) (by rw [hhold]; exact nofun)
      obtain ⟨ctx, _, _, _, _, ftag, fcredit, _⟩ := f.counted_kept x
      obtain ⟨records, caps⟩ := Channel.withoutRow_posts (c := c) (ch := s.ch c) (x := x) (rest := rest) hab htag
      obtain ⟨behind, gaborted⟩ := rowAccounts.behindEnding (g := g) accounts.toRunFits hends (by rw [htwo]; exact List.mem_cons_self)
      have gother : g.counted x = g := Frame.counted_other fun e => by
        have apart := rowAccounts.contexts
        rw [htwo] at apart
        exact (List.pairwise_cons.mp apart).1 g List.mem_cons_self (hctx.trans e.symm)
      have frames : ((s.ch c).withoutRow x rest).frames = [f.counted x, g] := (congrArg (List.map (Frame.counted x)) htwo).trans (by
        rw [List.map_cons, List.map_singleton, gother])
      have none : rest = [] := by
        have held := rowAccounts.held hends
        rw [hrows, hw] at held
        exact List.length_eq_zero_iff.mp (Nat.le_zero.mp (Nat.le_of_succ_le_succ held))
      obtain ⟨next, settles⟩ := m.first frames (Channel.withoutRow_drops hs hdone hheader) (by rw [ftag, fcredit, htag, hpaid]; rfl)
      rw [records] at next settles
      subst hfirst hposted
      rw [settles] at made
      have same : (Channel.behindFirst ((s.ch c).withoutRow x rest) (f.counted x) g).captures = (s.ch c).capturesAfter tag false := caps
      have second := next.secondOfRun waits rfl none behind gaborted (congrArg some ctx)
        (first := { s.ch c with captures := (s.ch c).capturesAfter tag false }) same.symm rfl made
      exact second
  · rw [← s.mayHand_iff] at h
    exact execRowWrite_of_not hw (State.handRow_of_not (h.imp id .inr)) error

end

end Sys2Proof.Machine
end

section
/-! O40: HEADER_WRITE (R87, R105, R124 to R126, R128). -/

namespace Sys2Proof.Machine

section
variable {s : State} {c : ChannelId} {ch : Channel} {f : Frame} {rest : List Frame} {d : Descriptor} {tag : Tag} {w : BusWrite}

/-- The channel once the header of its earliest frame is written, before the frames behind it go on. -/
def Channel.delivered (ch : Channel) (f : Frame) (rest : List Frame) (tag : Tag) : Channel :=
  { ch with frames := rest, lastFreed := some f.ctx, headerWrite := none, captures := ch.capturesAfter tag (!f.flags.aborted) }

/-- The FRAME_DONE of a frame, and the CAPTURE_CLOSED behind it. -/
def Channel.deliveredRecords (ch : Channel) (c : ChannelId) (f : Frame) (d : Descriptor) (tag : Tag) : List Completion :=
  .frameDone { channel := c, run := f.run, seq := f.seq, tag := tag, buffer := d, flags := f.flags, produced := f.produced
               lost := f.lost } :: ch.closedAfter c tag (!f.flags.aborted)

theorem Channel.released_delivered (hq : ch.queueSound) (hf : ch.frames = f :: rest) (htag : f.tag = some tag) :
    Channel.released { ch with headerWrite := none } f (!f.flags.aborted) = ch.delivered f rest tag
      ∧ frameDoneRecord c f d :: Channel.releaseRecords { ch with headerWrite := none } c f (!f.flags.aborted) = ch.deliveredRecords c f d tag := by
  have drains : Channel.drainsInFlight { ch with headerWrite := none } := (ch.queueSound_iff.mp hq).2.drainsInFlight (ch := ch)
  constructor
  · rw [Channel.released, Channel.capturesLeft_tagged drains htag]
    show Channel.mk .. = Channel.mk ..
    rw [hf]
    rfl
  · rw [Channel.releaseRecords_tagged drains htag, frameDoneRecord, htag]
    rfl

theorem State.Reaches.header (hl : s.ledger) (hr : s.rowsSound) (hq : (s.ch c).queueSound) (hf : (s.ch c).frames = f :: rest) (hd : f.hold = .buffer d)
    (htag : f.tag = some tag) : s.Reaches c ((s.ch c).delivered f rest tag) ((s.ch c).deliveredRecords c f d tag) := by
  obtain ⟨books, _⟩ := s.ledger_iff.mp hl
  obtain ⟨rows, waits⟩ := s.rowsSound_iff.mp hr
  obtain ⟨released, records⟩ := Channel.released_delivered (c := c) (d := d) hq hf htag
  have paid : f.credit = true := (books.chans c).paid f (by rw [hf]; exact List.mem_cons_self) (by rw [hd]; exact nofun)
  have credits := Channel.released_credits (ch := { s.ch c with headerWrite := none }) hf c (!f.flags.aborted)
  have fits := (books.chans c).headerReleased f (!f.flags.aborted)
  have sound : ((s.ch c).delivered f rest tag).queueSound := by
    have base : Channel.queueSound { s.ch c with headerWrite := none } := Channel.queueSound_congr hq rfl rfl rfl
    rw [← released]
    exact Channel.queueSound_released _ hf base
  rw [released] at credits fits
  refine ⟨books.funded, fits, ?_, fun h g hg hab => ?_, sound, rfl, rfl, rfl, rfl, rfl, rfl⟩
  · rw [← records, List.length_cons]
    rw [paid] at credits
    exact (Nat.add_assoc _ _ _).symm.trans credits
  · have mem : g ∈ (s.ch c).frames := by rw [hf]; exact List.mem_cons_of_mem _ hg
    refine ((s.headersDecided_iff c).mp (waits.headers c) h g mem hab).imp id fun e => ?_
    exact absurd e.1 ((rows c).later g (by rw [hf]; exact hg))

theorem execHeaderWrite_of_held (hw : (s.ch c).headerWrite = some w) (hf : (s.ch c).frames = f :: rest) (hd : f.hold = .buffer d) (error : Bool) :
    exec (.headerWrite c .current error) s = .next (s.headerMade c f d w error) := by
  show execHeaderWrite c .current error s = _
  simp only [execHeaderWrite, State.handHeader_of_held hw, hw, hf, hd]

theorem execHeaderWrite_of_not (hw : (s.ch c).headerWrite = none) (h : s.handHeader c = s) (error : Bool) : exec (.headerWrite c .current error) s = .next s := by
  show execHeaderWrite c .current error s = _
  simp only [execHeaderWrite, h, hw]

/-- A header that is newly handed is that of a frame with a buffer. -/
theorem State.handHeader_changes (h : s.handHeader c ≠ s) (hw : ((s.handHeader c).ch c).headerWrite = some w) :
    ∃ f rest d, ((s.handHeader c).ch c).frames = f :: rest ∧ f.hold = .buffer d := by
  unfold State.handHeader at h hw ⊢
  split
  next may =>
    rw [if_pos may, State.ch_upd_same] at hw
    rw [State.ch_upd_same]
    have write : (s.ch c).closingHeaderWrite c = some w := hw
    unfold Channel.closingHeaderWrite at write
    split at write
    next => cases write
    next f rest hf =>
      split at write
      next d _ hd => exact ⟨f, rest, d, hf, hd⟩
      next => cases write
  next may => exact absurd (if_neg may) h

/-- A header that may be handed is handed and made in one step (notes/assumptions/4.md). -/
theorem execHeaderWrite_handHeader (s : State) (c : ChannelId) (error : Bool) :
    exec (.headerWrite c .current error) (s.handHeader c) = exec (.headerWrite c .current error) s := by
  by_cases h : s.handHeader c = s
  · rw [h]
  · cases hw : ((s.handHeader c).ch c).headerWrite with
    | some w =>
      obtain ⟨f, rest, d, hf, hd⟩ := State.handHeader_changes h hw
      rw [execHeaderWrite_of_held hw hf hd]
      show _ = execHeaderWrite c .current error s
      simp only [execHeaderWrite, hw, hf, hd]
    | none =>
      refine absurd ?_ h
      unfold State.handHeader at hw ⊢
      split at hw
      next may =>
        rw [State.ch_upd_same] at hw
        obtain ⟨-, empty⟩ : _ ∧ (s.ch c).headerWrite = none := by simpa using may
        rw [if_pos may]
        exact State.upd_of_eq (by rw [show (s.ch c).closingHeaderWrite c = none from hw, ← empty])
      next may => rw [if_neg may]

/-- The state that a header write made leaves, seen from the channel without the frame. -/
theorem State.headerMade_reaches (hl : s.ledger) (hr : s.rowsSound) (hq : (s.ch c).queueSound) (hf : (s.ch c).frames = f :: rest) (hd : f.hold = .buffer d)
    (htag : f.tag = some tag) (w : BusWrite) (error : Bool) : ∃ mem draws, s.landed { s with mem := mem, draws := draws } w error
      ∧ State.Reaches { s with mem := mem, draws := draws } c ((s.ch c).delivered f rest tag) ((s.ch c).deliveredRecords c f d tag)
      ∧ State.stopWaits { s with mem := mem, draws := draws }
      ∧ s.headerMade c f d w error = ((State.emit { s with mem := mem, draws := draws } c ((s.ch c).delivered f rest tag)
        ((s.ch c).deliveredRecords c f d tag)).settle c).finishWaitingStop := by
  obtain ⟨mem, draws, hv⟩ := s.land_with w error
  obtain ⟨released, records⟩ := Channel.released_delivered (c := c) (d := d) hq hf htag
  refine ⟨mem, draws, ?_, (State.Reaches.header hl hr hq hf hd htag).withMem mem draws, (s.rowsSound_iff.mp hr).2.stop, ?_⟩
  · rw [← hv]; exact s.land_landed w error
  · rw [State.headerMade_eq_emit, released, records, hv]

/-- Settles O40. -/
theorem headerWriteDeliversTheFrame : Obligations.HeaderWriteDeliversTheFrame := by
  unfold Obligations.HeaderWriteDeliversTheFrame
  refine fun s c error => ⟨fun w f rest d tag posted caps hw hf hd htag hl hr hq hposted hcaps => ?_, fun hw h => ?_,
    ⟨_, rfl, (execHeaderWrite_handHeader s c error).symm⟩⟩
  · obtain rfl : posted = (s.ch c).deliveredRecords c f d tag := hposted
    subst hcaps
    obtain ⟨mem, draws, landed, m, stopWaits, made⟩ := State.headerMade_reaches (w := w) (error := error) hl hr hq hf hd htag
    have rows := (s.rowsSound_iff.mp hr).1 c
    have later : ∀ g ∈ rest, g.stage ≠ .closing := fun g hg => rows.later g (by rw [hf]; exact hg)
    have closed : s.headerMade c f d w error = _ := made.trans (by rw [m.settle_eq])
    obtain ⟨memory, pools, port, pending, others, header, more, queue⟩ := stopWaits.frame closed
    refine ⟨_, execHeaderWrite_of_held hw hf hd error, fun a => by rw [memory]; exact landed a, pools, port, pending, others, ?_, ?_, fun hnil => ?_,
      fun g hone => ⟨fun hwaits => ?_, fun hs hdone => ⟨fun d' hd' hheader => ?_, fun hor => ?_⟩⟩⟩
    · rw [header]
      exact Channel.advance_headerWrite _ _
    · exact ⟨_, queue.trans (by rw [← List.append_assoc, List.append_assoc])⟩
    · subst hnil
      have follows := m.advance.follows stopWaits rfl closed
      have records : ((s.ch c).delivered f [] tag).advanceRecords c ((s.ch c).delivered f [] tag).frames.length = [] := rfl
      rw [records, List.append_nil] at follows
      exact follows
    · subst hone
      have waits : ((s.ch c).delivered f [g] tag).headWaits = true := by
        refine Channel.headWaits_iff.mpr fun y hy => ?_
        obtain rfl := Option.some.inj hy
        refine ⟨fun hs => ?_, fun hs => absurd hs (later _ List.mem_cons_self)⟩
        obtain e | ⟨x, hx, hc⟩ := hwaits
        · rw [hs] at e; cases e
        · exact List.any_eq_true.mpr ⟨x, hx, by simpa using hc⟩
      rw [made, m.quiet stopWaits (m.headWaits nofun waits) rfl, State.emit_ch_same]
      exact ⟨rfl, rfl, rfl, rfl⟩
    · subst hone
      have enters : ((s.ch c).delivered f [g] tag).entersClosing g = true :=
        Channel.entersClosing_iff.mpr ⟨hs, Channel.rowsRemain_eq_false.mpr hdone, congrArg Hold.isBuffer hd', hheader⟩
      rw [made, m.quiet stopWaits (m.enters rfl enters) rfl, State.emit_ch_same]
      exact ⟨rfl, rfl, rfl, rfl⟩
    · subst hone
      have drops : ((s.ch c).delivered f [g] tag).drops g = true := Channel.drops_of_draining hs (Channel.rowsRemain_eq_false.mpr hdone) hor
      obtain ⟨next, settles⟩ := m.last rfl drops
      have ended := made.trans (by rw [settles])
      obtain ⟨_, _, _, _, _, _, more, queue⟩ := stopWaits.frame ended
      obtain ⟨follows, last⟩ := next.follows stopWaits rfl ended
      refine ⟨follows.1, last, fun hcredit => ?_, fun first hcredit hfirst => ?_⟩
      · rw [Channel.unwrittenRecords, hcredit, if_pos rfl] at queue
        refine ⟨((s.ch c).delivered f [g] tag).releaseRecords c g false ++ more, queue.trans ?_⟩
        simp only [List.append_assoc, List.cons_append, List.nil_append]
      · subst hfirst
        rw [Channel.dropRecords_eq m.queue hcredit] at follows
        exact follows
  · rw [← s.mayHand_iff] at h
    exact execHeaderWrite_of_not hw (State.handHeader_of_not (h.imp id .inr)) error
end

end Sys2Proof.Machine
end

section
/-! Runs that are ending while the interface does not write (R129), channel after channel, and O8 (R169). -/

namespace Sys2Proof.Machine

/-! ## Channel after channel -/

section
variable {s : State}

/-- Work on the four channels in turn: `Q` holds of the state at each, and `r` lists what each one posts. -/
theorem State.eachChannel_posts {g : ChannelId → State → State} (acts : ∀ c s, ActsOn c s (g c s)) {Q : Nat → State → Prop} {P : Channel → Prop}
    (step : ∀ (c : ChannelId) u, u.regs = s.regs → Q c.val u → P (u.ch c) → Q (c.val + 1) (g c u)) (hq : Q 0 s) (h : ∀ c, P (s.ch c)) :
    ∃ r : ChannelId → List Completion, (s.eachChannel g).cpl.queue = s.cpl.queue ++ r 0 ++ r 1 ++ r 2 ++ r 3
      ∧ ∀ c, ∃ u, Q c.val u ∧ u.ch c = s.ch c ∧ u.regs = s.regs ∧ (s.eachChannel g).ch c = (g c u).ch c ∧ (g c u).cpl.queue = u.cpl.queue ++ r c := by
  have keep {c d : ChannelId} (hd : d ≠ c) (u : State) : (g c u).ch d = u.ch d := (acts c u).others d hd
  have regs0 := (acts 0 s).regs
  have regs1 := (acts 1 (g 0 s)).regs.trans regs0
  have regs2 := (acts 2 (g 1 (g 0 s))).regs.trans regs1
  have ch1 : (g 0 s).ch 1 = s.ch 1 := keep (by decide) _
  have ch2 : (g 1 (g 0 s)).ch 2 = s.ch 2 := (keep (by decide) _).trans (keep (by decide) _)
  have ch3 : (g 2 (g 1 (g 0 s))).ch 3 = s.ch 3 := (keep (by decide) _).trans ((keep (by decide) _).trans (keep (by decide) _))
  have q1 := step 0 s rfl hq (h 0)
  have q2 := step 1 (g 0 s) regs0 q1 (by rw [ch1]; exact h 1)
  have q3 := step 2 (g 1 (g 0 s)) regs1 q2 (by rw [ch2]; exact h 2)
  obtain ⟨r0, h0⟩ := (acts 0 s).queue
  obtain ⟨r1, h1⟩ := (acts 1 (g 0 s)).queue
  obtain ⟨r2, h2⟩ := (acts 2 (g 1 (g 0 s))).queue
  obtain ⟨r3, h3⟩ := (acts 3 (g 2 (g 1 (g 0 s)))).queue
  refine ⟨fun | 0 => r0 | 1 => r1 | 2 => r2 | 3 => r3, ?_, fun c => ?_⟩
  · show (g 3 (g 2 (g 1 (g 0 s)))).cpl.queue = s.cpl.queue ++ r0 ++ r1 ++ r2 ++ r3
    rw [h3, h2, h1, h0]
  · match c with
    | 0 => exact ⟨s, hq, rfl, rfl, (keep (by decide) _).trans ((keep (by decide) _).trans (keep (by decide) _)), h0⟩
    | 1 => exact ⟨g 0 s, q1, ch1, regs0, (keep (by decide) _).trans (keep (by decide) _), h1⟩
    | 2 => exact ⟨g 1 (g 0 s), q2, ch2, regs1, keep (by decide) _, h2⟩
    | 3 => exact ⟨g 2 (g 1 (g 0 s)), q3, ch3, regs2, rfl, h3⟩
end

/-- R129: the frame with its header given up. -/
def Frame.headerless (f : Frame) : Frame := { f with noHeader := true }

/-! ## A channel whose run is ending -/

/-- A sound channel whose run `e` is ending. -/
structure Channel.Doomed (ch : Channel) (e : Ending) : Prop where
  fits : ch.RunFits
  queue : ch.queueSound
  ending : ch.ending = some e
  cut : ch.allAborted
  open' : ∀ f ∈ ch.frames, f.stage ≠ .reading
  later : ∀ f ∈ ch.frames.tail, f.stage ≠ .closing
  rows : ch.rowWrite = none → ch.rows = []

section
variable {ch : Channel} {e : Ending} {f g : Frame} {c : ChannelId}

theorem Channel.Accounts.doomed (a : ch.Accounts) (r : ch.RowAccounts) (q : ch.queueSound) (he : ch.ending = some e) : ch.Doomed e where
  fits := a.toRunFits
  queue := q
  ending := he
  cut f hf := by
    cases hab : f.flags.aborted with
    | true => exact .inl rfl
    | false =>
      refine .inr (((r.frames f hf).spared hab).resolve_left fun h => ?_)
      rw [he] at h
      cases h
  open' f hf hs := by
    have period := ((r.frames f hf).reading hs).1
    rw [a.ending (by rw [he]; rfl)] at period
    cases period
  later := r.later
  rows hrow := by
    have held := r.held (by rw [he]; rfl)
    rw [hrow] at held
    exact List.length_eq_zero_iff.mp (Nat.le_zero.mp held)

variable (h : ch.Doomed e)
include h

/-- With no header handed every frame has given its header up. -/
theorem Channel.Doomed.decided_frames (hhead : ch.headerWrite = none) : (ch.decided false).frames = ch.frames.map Frame.headerless := by
  refine List.map_congr_left fun f hf => ?_
  have hab : f.flags.aborted = true := (h.cut f hf).resolve_right fun e => by
    have := e.2
    rw [hhead] at this
    cases this
  exact if_pos (by simp [hab, hhead])

/-- Without a write of its frames at the port every frame closes at once. -/
theorem Channel.Doomed.closesAll (hrow : ch.rowWrite = none) (hhead : ch.headerWrite = none) : (ch.advanced false).frames = [] := by
  have drops (ch : Channel) (n : Nat) (hn : ch.frames.length ≤ n) (hrows : ch.rows = []) (hf : ∀ f ∈ ch.frames, f.noHeader = true ∧ f.stage ≠ .reading) :
      (ch.advance n).frames = [] := by
    induction n generalizing ch with
    | zero => exact List.length_eq_zero_iff.mp (Nat.le_zero.mp hn)
    | succ n ih =>
      cases hframes : ch.frames with
      | nil => rw [Channel.advance_nil hframes, hframes]
      | cons f rest =>
        obtain ⟨hheader, hreading⟩ := hf f (by rw [hframes]; exact List.mem_cons_self)
        have hdrops : ch.drops f = true := by
          cases hs : f.stage with
          | reading => exact absurd hs hreading
          | draining => exact Channel.drops_of_draining hs (by rw [Channel.rowsRemain, hrows]; rfl) (.inr hheader)
          | closing => exact Channel.drops_of_closing hs hheader
        rw [Channel.advance_drops hframes hdrops]
        have tail : (ch.released f false).frames = rest := by
          show ch.frames.tail = rest
          rw [hframes]
          rfl
        refine ih _ (by rw [tail]; rw [hframes] at hn; exact Nat.le_of_succ_le_succ hn) hrows fun g hg => ?_
        rw [tail] at hg
        exact hf g (by rw [hframes]; exact List.mem_cons_of_mem _ hg)
  have frames := h.decided_frames hhead
  refine drops (ch.decided false) ch.frames.length (Nat.le_of_eq (by rw [frames, List.length_map])) (h.rows hrow) fun f hf => ?_
  rw [frames] at hf
  obtain ⟨x, hx, rfl⟩ := List.mem_map.mp hf
  exact ⟨rfl, h.open' x hx⟩

/-- The frame of a run that is ending closes at once where its rows are done and no header is handed. -/
theorem Channel.Doomed.drops (hf : f ∈ ch.frames) (hor : f.stage = .closing ∨ ch.rowWrite = none) {d : Channel} (hd : d.rows = ch.rows) :
    d.drops f.headerless = true := by
  cases hs : f.stage with
  | reading => exact absurd hs (h.open' f hf)
  | draining =>
    have done := h.rows (hor.resolve_left (by rw [hs]; exact nofun))
    exact Channel.drops_of_draining (f := f.headerless) hs (by rw [Channel.rowsRemain, hd, done]; rfl) (.inr rfl)
  | closing => exact Channel.drops_of_closing (f := f.headerless) hs rfl

theorem Channel.Doomed.decided_queue : (ch.decided false).queueSound := Channel.decided_sound false h.queue

/-- What an only frame of a run that is ending posts as it closes. -/
theorem Channel.Doomed.one (hf : ch.frames = [f]) (hor : f.stage = .closing ∨ ch.rowWrite = none) (hhead : ch.headerWrite = none) :
    (ch.advanced false).frames = []
      ∧ (f.tag.isSome = f.credit → (ch.decided false).advanceRecords c ch.frames.length = ch.abortRecords c f
        ∧ (ch.advanced false).captures = ch.abortCaptures f) := by
  have frames := h.decided_frames hhead
  have one : ch.frames.length = 1 := by rw [hf]; rfl
  have hab : f.flags.aborted = true := (h.cut f (by rw [hf]; exact List.mem_cons_self)).resolve_right fun e => by
    have := e.2
    rw [hhead] at this
    cases this
  have drops := h.drops (by rw [hf]; exact List.mem_cons_self) hor (d := ch.decided false) rfl
  rw [hf] at frames
  rw [Channel.advanced, one, Channel.advance_last h.decided_queue frames drops]
  refine ⟨rfl, fun hcredit => ⟨?_, Channel.abortCaptures_congr rfl rfl⟩⟩
  rw [Channel.advanceRecords_last h.decided_queue frames drops hcredit, Channel.dropRecords_aborted (f := f.headerless) hab]
  exact Channel.abortRecords_congr rfl rfl ⟨rfl, rfl, rfl, rfl⟩

/-- What two frames of a run that is ending post as they close, the earlier first. -/
theorem Channel.Doomed.two (hf : ch.frames = [f, g]) (hrow : ch.rowWrite = none) (hhead : ch.headerWrite = none) (hfcredit : f.tag.isSome = f.credit)
    (hgcredit : g.tag.isSome = g.credit) {first : Channel} (hfirst : first = { ch with captures := ch.abortCaptures f }) :
    (ch.decided false).advanceRecords c ch.frames.length = ch.abortRecords c f ++ first.abortRecords c g
      ∧ (ch.advanced false).captures = first.abortCaptures g := by
  subst hfirst
  have frames := h.decided_frames hhead
  have two : ch.frames.length = 2 := by rw [hf]; rfl
  have aborted {x : Frame} (hx : x ∈ ch.frames) : x.headerless.flags.aborted = true := (h.cut x hx).resolve_right fun e => by
    have := e.2
    rw [hhead] at this
    cases this
  have hfm : f ∈ ch.frames := by rw [hf]; exact List.mem_cons_self
  have hgm : g ∈ ch.frames := by rw [hf]; exact List.mem_cons_of_mem _ List.mem_cons_self
  have drops := h.drops hfm (.inr hrow) (d := ch.decided false) rfl
  rw [hf] at frames
  have behind := Channel.behindFirst_sound h.decided_queue frames
  have gdrops := h.drops hgm (.inr hrow) (d := (ch.decided false).behindFirst f.headerless g.headerless) rfl
  rw [Channel.advanced, two, Channel.advance_first h.decided_queue frames drops, Channel.advanceRecords_first h.decided_queue frames drops hfcredit,
    Channel.advance_last behind rfl gdrops, Channel.advanceRecords_last behind rfl gdrops hgcredit, Channel.dropRecords_aborted (aborted hfm),
    Channel.dropRecords_aborted (aborted hgm)]
  refine ⟨congrArg_both _ (Channel.abortRecords_congr rfl rfl ⟨rfl, rfl, rfl, rfl⟩) (Channel.abortRecords_congr rfl ?_ ⟨rfl, rfl, rfl, rfl⟩),
    Channel.abortCaptures_congr ?_ rfl⟩ <;> exact Channel.abortCaptures_congr rfl rfl

/-- An only frame with its header handed waits for it, and one with a row at the port for that. -/
theorem Channel.Doomed.one_waits (hw : ch.headWaits = true) (hf : ch.frames = [f]) :
    (f.stage = .closing ∧ ch.headerWrite.isSome = true → ch.settled false = ch ∧ ch.settledRecords c false = [])
      ∧ (f.stage = .draining → ch.settled false = { ch with frames := [f.headerless] } ∧ ch.settledRecords c false = []) := by
  have stays (hw : (ch.decided false).headWaits = true) (hne : (ch.decided false).frames ≠ []) :
      ch.settled false = ch.decided false ∧ ch.settledRecords c false = [] := by
    obtain ⟨same, none⟩ := Channel.ended_of_frames_ne (c := c) hne
    rw [Channel.settled, Channel.settledRecords, Channel.advanced, Channel.advance_of_waits hw, Channel.advanceRecords_of_waits hw, same, none]
    exact ⟨rfl, rfl⟩
  obtain ⟨draining, closing⟩ := Channel.headWaits_iff.mp hw f (by rw [hf]; rfl)
  refine ⟨fun hh => ?_, fun hs => ?_⟩
  · have same : ch.decided false = ch := by
      have kept : ch.frames.map (fun f => f.giveUpHeader ch.headerWrite.isSome) = ch.frames := by
        rw [hf, List.map_singleton, Frame.giveUpHeader, if_neg (by simp [hh.1, hh.2])]
      show { ch with frames := _ } = ch
      rw [kept]
    have := stays (by rw [same]; exact hw) (by rw [same, hf]; exact nofun)
    rwa [same] at this
  · have frames : (ch.decided false).frames = [f.headerless] := by
      show ch.frames.map _ = _
      have hab : f.flags.aborted = true := (h.cut f (by rw [hf]; exact List.mem_cons_self)).resolve_right fun e => by
        have := e.1
        rw [hs] at this
        cases this
      rw [hf, List.map_singleton, Frame.giveUpHeader, if_pos (by simp [hab, hs])]
      rfl
    have whole : ch.decided false = { ch with frames := [f.headerless] } := by
      rw [← frames]
      rfl
    refine whole ▸ stays (Channel.headWaits_iff.mpr fun y hy => ?_) (by rw [frames]; exact nofun)
    rw [frames] at hy
    obtain rfl := Option.some.inj hy
    exact ⟨fun _ => draining hs, fun e => absurd (hs.symm.trans e) nofun⟩
/-- With its last frame closed the run ends. -/
theorem Channel.Doomed.ends (hne : (ch.advanced false).frames = []) :
    ch.settled false = (ch.advanced false).finished e ∧ (ch.settled false).captures = []
      ∧ ch.settledRecords c false
        = (ch.decided false).advanceRecords c ch.frames.length ++ ch.endRecords c (ch.advanced false).captures e.event := by
  have flight := ((ch.advanced false).queueSound_iff.mp (Channel.queueSound_advanced false h.queue)).2
  rw [hne] at flight
  obtain ⟨_, ends⟩ := Channel.settled_of_ending (c := c) h.ending false rfl
  obtain ⟨same, records⟩ := ends (by rw [Channel.settled, Channel.ended_frames]; exact hne)
  refine ⟨same, by rw [same, Channel.finished_captures flight.none_in_flight], ?_⟩
  rw [records, Channel.finishRecords_eq flight.none_in_flight]
  exact congrArg _ (Channel.endRecords_congr (by rw [Channel.advanced_timer]) (by rw [Channel.advanced_timer]) _ _)

end

/-! ## The entry to DISABLED (R169) -/

section
variable {s : State}

/-- The entry to DISABLED settles each channel, its headers given up, and lists the records each one posts. -/
theorem State.enterDisabled_posts (hl : s.ledger) (hi : s.regs.iface ≠ .halted) :
    ∃ r : ChannelId → List Completion, s.enterDisabled.cpl.queue = s.cpl.queue ++ r 0 ++ r 1 ++ r 2 ++ r 3
      ∧ ∀ c, s.enterDisabled.ch c = (s.ch c).settled false ∧ r c = (s.ch c).settledRecords c false := by
  obtain ⟨books, quiet⟩ := s.ledger_iff.mp hl
  obtain ⟨r, queue, each⟩ := State.eachChannel_posts (g := fun c s => s.settle c) (s := { s with regs := { s.regs with iface := .disabled } })
    (fun c s => (Settles.settle c s).toActsOn) (Q := fun _ u => u.Funded) (P := Channel.RunFits)
    (fun c u _ funded fits => funded.settle fits) (books.funded.of_eq rfl rfl rfl rfl) fun c => (books.chans c).toRunFits
  refine ⟨r, queue, fun c => ?_⟩
  obtain ⟨u, _, hch, hregs, hsame, hqueue⟩ := each c
  have writes : u.regs.iface.busWrites = false := by rw [hregs]; rfl
  have here : u.ch c = s.ch c := hch
  have settles : u.settle c = u.emit c ((s.ch c).settled false) ((s.ch c).settledRecords c false) := by
    have halts := (quiet hi c).not_halts false
    rw [State.settle_eq_emit_of_not_halts (by rw [writes, here]; exact halts), writes, here]
  refine ⟨hsame.trans ?_, ?_⟩
  · rw [settles, State.emit_ch_same]
  · rw [settles] at hqueue
    exact (List.append_cancel_left hqueue).symm

/-- The entry to DISABLED, in the words of the statement. -/
theorem State.enterDisabled_each (hl : s.ledger) (hr : s.rowsSound) (hq : ∀ c : ChannelId, (s.ch c).queueSound) (c : ChannelId) {b : Channel}
    {r : List Completion} (hb : b = (s.ch c).settled false) (hrec : r = (s.ch c).settledRecords c false) :
    b.timer = (s.ch c).timer ∧ b.link = (s.ch c).link
      ∧ ((s.ch c).ending = none → b = s.ch c ∧ r = [])
      ∧ ((s.ch c).ending ≠ none → (s.ch c).rowWrite = none → (s.ch c).headerWrite = none → b.frames = [] ∧ b.ending = none)
      ∧ (∀ e f g first, (s.ch c).ending = some e → (s.ch c).frames = [f, g] → (s.ch c).rowWrite = none → (s.ch c).headerWrite = none →
        f.tag.isSome = f.credit → g.tag.isSome = g.credit → first = { s.ch c with captures := (s.ch c).abortCaptures f } →
        r = (s.ch c).abortRecords c f ++ first.abortRecords c g ++ (s.ch c).endRecords c (first.abortCaptures g) e.event)
      ∧ ∀ e f, (s.ch c).ending = some e → (s.ch c).frames = [f] → f.flags.aborted = true →
        (f.stage = .closing ∧ (s.ch c).headerWrite.isSome = true → b = s.ch c ∧ r = [])
        ∧ (f.stage = .draining → b = { s.ch c with frames := [{ f with noHeader := true }] } ∧ r = [])
        ∧ (f.stage = .closing → (s.ch c).headerWrite = none → b.frames = []
          ∧ b.state = e.event.endState
          ∧ b.standing = false ∧ b.captures = []
          ∧ ∀ tag d, f.tag = some tag → f.credit = true → f.hold = .buffer d →
            r = f.droppedAborted c tag :: (s.ch c).closedAfter c tag false ++ (s.ch c).endRecords c ((s.ch c).capturesAfter tag false) e.event) := by
  subst hb hrec
  have accounts := (s.ledger_iff.mp hl).1.chans c
  have rows := (s.rowsSound_iff.mp hr).1 c
  have doomed {e : Ending} (he : (s.ch c).ending = some e) : (s.ch c).Doomed e := accounts.doomed rows (hq c) he
  refine ⟨Channel.settled_timer _ _, Channel.settled_link _ _, fun he => ?_, fun he hrow hhead => ?_,
    fun e f g first he hf hrow hhead hfcredit hgcredit hfirst => ?_, fun e f he hf _ => ⟨fun hh => ?_, fun hs => ?_, fun hs hhead => ?_⟩⟩
  · have rests := State.rests hl hr he
    exact ⟨rests.settled _, rests.settledRecords _ _⟩
  · obtain ⟨e, he⟩ := Option.ne_none_iff_exists'.mp he
    have closed := (doomed he).closesAll hrow hhead
    rw [((doomed he).ends (c := c) closed).1]
    exact ⟨closed, rfl⟩
  · obtain ⟨records, caps⟩ := (doomed he).two (c := c) hf hrow hhead hfcredit hgcredit hfirst
    rw [((doomed he).ends (c := c) ((doomed he).closesAll hrow hhead)).2.2, records, caps]
  · exact ((doomed he).one_waits rows.waits hf).1 hh
  · exact ((doomed he).one_waits rows.waits hf).2 hs
  · obtain ⟨closed, posts⟩ := (doomed he).one (c := c) hf (.inl hs) hhead
    obtain ⟨same, caps, records⟩ := (doomed he).ends (c := c) closed
    refine ⟨by rw [same]; exact closed, by rw [same]; rfl, by rw [same]; rfl, caps, fun tag d htag hcredit _ => ?_⟩
    obtain ⟨posted, left⟩ := posts (by rw [htag, hcredit]; rfl)
    rw [records, posted, left, Channel.abortRecords, Channel.abortCaptures, htag]
end

end Sys2Proof.Machine
end

section
/-! A record answered in QUIESCING acts as in ACTIVE with the ring empty behind it, and the entry to DISABLED follows (R169). -/

namespace Sys2Proof.Machine

section
variable {s x : State} {c : ChannelId}

/-- `t` is the entry to DISABLED behind `u`, the state that the record's command leaves with the interface ACTIVE and the ring empty behind it. -/
structure State.EntersBehind (s t u : State) : Prop where
  regs : u.regs = { s.regs.lastRecord with cmdHead := (s.regs.cmdHead + 1) % s.regs.cmdSize.toNat }
  idle : u.proc.state = .idle
  entry : t = u.enterDisabled.withRegs { s.regs with iface := .disabled, cmdHead := (s.regs.cmdHead + 1) % s.regs.cmdSize.toNat }

/-- The outcome `o` of a command, as that of the same command in ACTIVE with the ring empty behind the record, `o'`: where `o'` has answered the record, `o` is followed by the entry to DISABLED. -/
def State.Pairs (s : State) (o o' : Host.Outcome State Fault Refusal) : Prop :=
  ∀ u, o' = .next u → u.proc.hand = none → ∃ t, o = .next t ∧ s.EntersBehind t u

/-- Work done for the record in hand of `s`: the registers are as they were, and the record is still in hand. -/
structure State.Holds (s x : State) : Prop where
  regs : x.regs = s.regs
  hand : x.proc.hand ≠ none

theorem State.Holds.works {y : State} (h : s.Holds x) (w : x.Works y) : s.Holds y := ⟨w.regs.trans h.regs, by rw [w.proc]; exact h.hand⟩

theorem State.Holds.upd (h : s.Holds x) (f : Channel → Channel) : s.Holds (x.upd c f) := ⟨h.regs, h.hand⟩

theorem State.Holds.handSpends (h : s.Holds x) : s.Holds x.handSpends := by
  unfold State.handSpends
  split
  · exact h
  · exact ⟨h.regs, nofun⟩

theorem State.Holds.handTaken (h : s.Holds x) : s.Holds x.handTaken := by
  unfold State.handTaken
  split
  · exact h
  · exact ⟨h.regs, nofun⟩

theorem State.pairs_finish (hq : s.regs.iface = .quiescing) (k : s.Holds x) (code : ResultCode) (gen : Option Gen) :
    s.Pairs (.next (x.finishCommand code gen)) (.next ((x.withRegs s.regs.lastRecord).finishCommand code gen)) := by
  intro u hu _
  obtain rfl := Host.Outcome.next.inj hu
  obtain ⟨h, hh⟩ := Option.ne_none_iff_exists'.mp k.hand
  obtain ⟨entry, proc, _⟩ := State.finishCommand_quiescing x h code gen hh (by rw [k.regs]; exact hq)
  rw [k.regs] at entry proc
  refine ⟨_, rfl, ?_, by rw [proc]; rfl, entry⟩
  rw [State.finishCommand_working (x.withRegs s.regs.lastRecord) h code gen hh IfState.noConfusion, State.tryFetch_regs]
  rfl

/-- A command that leaves the record in hand. -/
theorem State.pairs_kept {o : Host.Outcome State Fault Refusal} {u : State} (h : u.proc.hand ≠ none) : s.Pairs o (.next u) := fun v hv hnone => by
  obtain rfl := Host.Outcome.next.inj hv
  exact absurd hnone h

theorem State.pairs_conclude {i : Instr} {u : State} (reserved : BitVec 30)
    (h : s.Pairs (exec i s) (exec i { s with regs := { s.regs with iface := .active, cmdTail := (s.regs.cmdHead + 1) % s.regs.cmdSize.toNat } }))
    (hu : exec i { s with regs := { s.regs with iface := .active, cmdTail := (s.regs.cmdHead + 1) % s.regs.cmdSize.toNat } } = .next u)
    (hnone : u.proc.hand = none) :
    ∃ t v, exec i s = .next t ∧ exec (.disable reserved) u = .next v ∧ t = { v with regs := { v.regs with cmdTail := s.regs.cmdTail } } := by
  obtain ⟨t, ht, regs, idle, entry⟩ := h u hu hnone
  refine ⟨t, u.enterDisabled, ht, ?_, ?_⟩
  · rw [execDisable_of_active reserved (by rw [regs]; rfl), if_pos idle]
  · rw [entry, State.enterDisabled_regs, regs]
    rfl

/-! ## Steps that commands share -/

theorem State.waitCredit_hand (h : x.proc.hand ≠ none) : x.waitCredit.proc.hand ≠ none := by
  unfold State.waitCredit
  obtain e | ⟨k, n, _, _, _, _, e⟩ := State.askCredits_cases { x with proc := { x.proc with state := .waitCredit } }
  · rw [e]; exact h
  · rw [e]; exact nofun

theorem State.lastRecord_writes (hq : s.regs.iface = .quiescing) (k : s.Holds x) : s.regs.lastRecord.iface.busWrites = x.regs.iface.busWrites := by
  rw [k.regs, hq]
  rfl

theorem State.pairs_reclaimClaim (hq : s.regs.iface = .quiescing) (k : s.Holds x) (pool : PoolId) :
    s.Pairs (.next (x.reclaimClaim pool)) (.next ((x.withRegs s.regs.lastRecord).reclaimClaim pool)) := by
  unfold State.reclaimClaim
  rw [State.withRegs_pools]
  split
  next => exact State.pairs_finish hq k _ _
  next d rest _ =>
    exact State.pairs_kept (State.Holds.handSpends (s := s.withRegs s.regs.lastRecord)
      (x := State.place { x.withRegs s.regs.lastRecord with pools := x.pools.modify pool fun _ => rest } (.bufferReturned pool d)) ⟨rfl, k.hand⟩).hand

/-- A STOP that waits is answered in both, or in neither. -/
theorem State.pairs_waiting (hq : s.regs.iface = .quiescing) (k : s.Holds x) :
    s.Pairs (.next x.finishWaitingStop) (.next (x.withRegs s.regs.lastRecord).finishWaitingStop) := by
  have same : (x.withRegs s.regs.lastRecord).waitingStop = x.waitingStop := rfl
  cases hw : x.waitingStop with
  | none =>
    rw [State.finishWaitingStop_of_none (same.trans hw)]
    exact State.pairs_kept k.hand
  | some d =>
    rw [State.finishWaitingStop_of_some (same.trans hw), State.finishWaitingStop_of_some hw, State.withRegs_ch]
    split
    · exact State.pairs_finish hq k _ _
    · exact State.pairs_kept k.hand

theorem State.land_withRegs (x : State) (r : Registers) (w : BusWrite) (error : Bool) : (x.withRegs r).land w error = (x.land w error).withRegs r := by
  cases error <;> rfl

theorem State.Holds.land (k : s.Holds x) (w : BusWrite) (error : Bool) : s.Holds (x.land w error) := by
  obtain ⟨mem, draws, hx⟩ := x.land_with w error
  rw [hx]
  exact ⟨k.regs, k.hand⟩

theorem State.landAbandoned_hand (k : x.proc.hand ≠ none) (claim : WriteClaim) (error : Bool) : (x.landAbandoned claim error).proc.hand ≠ none := by
  unfold State.landAbandoned
  split
  · exact k
  · rw [State.land_eq]
    exact k

theorem State.mayHand_withRegs (hq : s.regs.iface = .quiescing) : (s.withRegs s.regs.lastRecord).mayHand = s.mayHand := by
  show (s.regs.lastRecord.iface.busWrites && s.port.busMastering) = (s.regs.iface.busWrites && s.port.busMastering)
  rw [hq]
  rfl

/-- With no run ending the entry to DISABLED changes the registers alone. -/
theorem State.enterDisabled_of_rests (h : ∀ d, (s.ch d).Rests) : s.enterDisabled = s.withRegs { s.regs with iface := .disabled } := by
  have rests (d : ChannelId) : ((s.withRegs { s.regs with iface := .disabled }).ch d).Rests := h d
  show State.settle (State.settle (State.settle (State.settle (s.withRegs { s.regs with iface := .disabled }) 0) 1) 2) 3 = _
  rw [State.settle_of_rests (rests 0), State.settle_of_rests (rests 1), State.settle_of_rests (rests 2), State.settle_of_rests (rests 3)]

/-- A frame start leaves a channel that rests. -/
theorem State.rests_frameStart (h : ∀ d, (s.ch d).Rests) (c d : ChannelId) : ((s.frameStart c).ch d).Rests := by
  by_cases hd : d = c
  · subst hd
    have here := h d
    cases hk : (s.ch d).table.latched with
    | none =>
      have same : s.frameStart d = s := by simp only [State.frameStart, hk]
      rw [same]
      exact here
    | some k =>
      obtain ⟨_, n, f, caps, _, htake, hch⟩ | ⟨_, n, _, hch⟩ := State.frameStart_ch hk
      · obtain ⟨_, stage, _, _, _, _, flags, _⟩ := htake.kept
        rw [hch]
        refine ⟨here.free, fun x hx => ?_, Channel.headWaits_iff.mpr fun x hx => ?_, fun _ e => absurd e nofun⟩
        · obtain hx | hx := List.mem_append.mp hx
          · exact here.unaborted x hx
          · rw [List.mem_singleton.mp hx, flags]
            rfl
        · have headed : ((s.ch d).frames ++ [f]).head? = some x := hx
          cases hframes : (s.ch d).frames with
          | nil =>
            rw [hframes] at headed
            obtain rfl := Option.some.inj headed
            rw [stage]
            exact ⟨nofun, nofun⟩
          | cons y rest =>
            rw [hframes] at headed
            obtain rfl := Option.some.inj headed
            exact Channel.headWaits_iff.mp here.waits y (by rw [hframes]; rfl)
      · rw [hch]
        exact ⟨here.free, here.unaborted, here.waits, fun _ e => absurd e nofun⟩
  · rw [(ActsOn.frameStart c s).others d hd]
    exact h d

/-- R83, notes/assumptions/47.md: frame 0 starts behind the CMD_RESULT, and behind the entry to DISABLED, which changes nothing of it. -/
theorem State.pairs_frameZero (hq : s.regs.iface = .quiescing) (k : s.Holds x) (hrests : ∀ d, (x.ch d).Rests) (code : ResultCode) (gen : Option Gen) (c : ChannelId) :
    s.Pairs (.next ((x.finishCommand code gen).frameStart c)) (.next (((x.withRegs s.regs.lastRecord).finishCommand code gen).frameStart c)) := by
  intro u hu _
  obtain rfl := Host.Outcome.next.inj hu
  obtain ⟨h, hh⟩ := Option.ne_none_iff_exists'.mp k.hand
  have hand : ((x.withRegs s.regs.lastRecord).finishCommand code gen).proc.hand = none :=
    State.finishCommand_hand (s := x.withRegs s.regs.lastRecord) (k := h) hh code gen
  obtain ⟨t, ht, regs, idle, entry⟩ := State.pairs_finish hq k code gen _ rfl hand
  obtain rfl := Host.Outcome.next.inj ht
  have rests (d : ChannelId) : (((x.withRegs s.regs.lastRecord).finishCommand code gen).ch d).Rests := by
    rw [State.finishCommand_ch_of_rests (s := x.withRegs s.regs.lastRecord) (hrests d)]
    exact hrests d
  have acts := ActsOn.frameStart c ((x.withRegs s.regs.lastRecord).finishCommand code gen)
  refine ⟨_, rfl, acts.regs.trans regs, by rw [acts.proc]; exact idle, ?_⟩
  rw [entry, State.enterDisabled_of_rests rests, State.enterDisabled_of_rests (State.rests_frameStart rests c), State.withRegs_withRegs,
    State.withRegs_withRegs, State.frameStart_withRegs]

/-! ## The commands of the processor -/

variable (hq : s.regs.iface = .quiescing) (hhand : s.proc.hand ≠ none)
include hq hhand

theorem State.pairs_answer (code : ResultCode) (gen : Option Gen) :
    s.Pairs (.next (s.finishCommand code gen)) (.next ((s.withRegs s.regs.lastRecord).finishCommand code gen)) :=
  State.pairs_finish hq ⟨rfl, hhand⟩ code gen

theorem State.pairs_recordRejected : s.Pairs (execRecordRejected s) (execRecordRejected (s.withRegs s.regs.lastRecord)) := by
  unfold execRecordRejected
  rw [State.withRegs_presented]
  split
  · exact State.pairs_answer hq hhand _ _
  · exact State.pairs_kept hhand

theorem State.pairs_set : s.Pairs (execSet s) (execSet (s.withRegs s.regs.lastRecord)) := by
  unfold execSet
  rw [State.withRegs_presented]
  split
  · unfold State.setCommand
    rw [State.withRegs_ch]
    dsimp only
    split
    · split
      · exact State.pairs_finish (x := s.upd _ _) hq ⟨rfl, hhand⟩ _ _
      · split
        · exact State.pairs_finish (x := s.upd _ _) hq ⟨rfl, hhand⟩ _ _
        · exact State.pairs_answer hq hhand _ _
    · exact State.pairs_answer hq hhand _ _
  · exact State.pairs_kept hhand

theorem State.pairs_capture : s.Pairs (execCapture s) (execCapture (s.withRegs s.regs.lastRecord)) := by
  unfold execCapture
  rw [State.withRegs_presented]
  split
  · rw [State.withRegs_ch]
    split
    · exact State.pairs_kept hhand
    · unfold State.captureCommand
      rw [State.withRegs_ch]
      split
      · split
        · exact State.pairs_answer hq hhand _ _
        · rw [State.upd_withRegs, State.handSpends_withRegs]
          exact State.pairs_finish hq (State.Holds.handSpends (x := s.upd _ _) ⟨rfl, hhand⟩) _ _
      · exact State.pairs_answer hq hhand _ _
  · exact State.pairs_kept hhand

theorem State.pairs_cancel : s.Pairs (execCancel s) (execCancel (s.withRegs s.regs.lastRecord)) := by
  unfold execCancel
  rw [State.withRegs_presented]
  split
  next c tag _ =>
    rw [State.withRegs_ch]
    split
    · exact State.pairs_kept hhand
    · unfold State.cancelCommand
      rw [State.withRegs_ch]
      split
      · exact State.pairs_answer hq hhand _ _
      · have upd (f : Channel → Channel) : s.Holds (s.upd c f) := ⟨rfl, hhand⟩
        rw [State.upd_withRegs]
        dsimp only
        split
        · rw [State.upd_withRegs]
          exact State.pairs_finish (x := (s.upd c _).upd c _) hq ⟨rfl, hhand⟩ _ _
        · rw [State.closeCaptures_withRegs, State.upd_withRegs]
          have closed := (upd fun ch => { ch with captures := ch.captures.map fun k => if k.tag = tag then k.cancel else k }).works
            (Settles.closeCaptures c _ fun k => k.tag == tag && k.drained).toActsOn.works
          exact State.pairs_finish hq (closed.upd _) _ _
  next => exact State.pairs_kept hhand

theorem State.pairs_postBuffers : s.Pairs (execPostBuffers s) (execPostBuffers (s.withRegs s.regs.lastRecord)) := by
  unfold execPostBuffers
  rw [State.withRegs_presented]
  split
  next pool descs _ =>
    unfold State.postCommand
    have same : (s.withRegs s.regs.lastRecord).regs.descriptorOk = s.regs.descriptorOk := rfl
    rw [same, State.withRegs_pools]
    split
    · split
      · exact State.pairs_finish (x := { s with pools := s.pools.modify pool fun ds => ds ++ descs }) hq ⟨rfl, hhand⟩ _ _
      · exact State.pairs_answer hq hhand _ _
    · exact State.pairs_answer hq hhand _ _
  next => exact State.pairs_kept hhand

theorem State.pairs_query : s.Pairs (execQuery s) (execQuery (s.withRegs s.regs.lastRecord)) := by
  unfold execQuery
  rw [State.withRegs_presented]
  split
  next c clear _ =>
    rw [State.withRegs_ch]
    split
    · exact State.pairs_kept hhand
    · unfold State.queryCommand
      have placed : s.Holds (s.place (.status ((s.ch c).status c clear))).handSpends := State.Holds.handSpends ⟨rfl, hhand⟩
      rw [State.withRegs_ch, State.place_withRegs, State.handSpends_withRegs]
      dsimp only
      split
      · rw [State.upd_withRegs]
        exact State.pairs_finish hq (placed.upd _) _ _
      · exact State.pairs_finish hq placed _ _
  next => exact State.pairs_kept hhand

/-! ## RECLAIM and STOP -/

theorem State.pairs_reclaim : s.Pairs (execReclaim s) (execReclaim (s.withRegs s.regs.lastRecord)) := by
  unfold execReclaim
  rw [State.withRegs_presented]
  split
  next pool _ =>
    unfold State.reclaimStep
    have same : (s.withRegs s.regs.lastRecord).stepCreditHeld = s.stepCreditHeld := rfl
    rw [same, State.withRegs_pools, State.withRegs_creditsFree]
    split
    · exact State.pairs_reclaimClaim hq ⟨rfl, hhand⟩ pool
    · split
      · exact State.pairs_answer hq hhand _ _
      · split
        · obtain ⟨h, hh⟩ := Option.ne_none_iff_exists'.mp hhand
          have reserved : (s.withRegs s.regs.lastRecord).handReserve = s.handReserve.withRegs s.regs.lastRecord := by
            unfold State.handReserve
            rw [State.withRegs_proc, hh]
            rfl
          have k : s.Holds s.handReserve := by
            unfold State.handReserve
            rw [hh]
            exact ⟨rfl, nofun⟩
          rw [reserved]
          exact State.pairs_reclaimClaim hq k pool
        · exact State.pairs_kept (State.waitCredit_hand hhand)
  next => exact State.pairs_kept hhand

theorem State.pairs_stopWithAbort (c : ChannelId) : s.Pairs (.next (s.stopWithAbort c)) (.next ((s.withRegs s.regs.lastRecord).stopWithAbort c)) := by
  have taken : s.Holds s.handTaken := State.Holds.handTaken ⟨rfl, hhand⟩
  unfold State.stopWithAbort
  rw [State.handTaken_withRegs, State.abortRun_withRegs _ _ _ _ (State.lastRecord_writes hq taken)]
  exact State.pairs_waiting hq (taken.works (Settles.abortRun c _ _).toActsOn.works)

theorem State.stopRun_withRegs (c : ChannelId) : (s.withRegs s.regs.lastRecord).stopRun c = (s.stopRun c).withRegs s.regs.lastRecord := by
  have settles {x : State} (k : s.Holds x) : (x.withRegs s.regs.lastRecord).settle c = (x.settle c).withRegs s.regs.lastRecord :=
    State.settle_withRegs _ _ _ (State.lastRecord_writes hq k)
  unfold State.stopRun
  rw [State.withRegs_ch, State.send_withRegs]
  dsimp only
  split <;> rw [State.upd_withRegs, State.closeCaptures_withRegs]
  all_goals
    refine settles (State.Holds.works ?_ (Settles.closeCaptures c _ Capture.drained).toActsOn.works)
    exact ⟨rfl, hhand⟩

theorem State.pairs_stopRun (c : ChannelId) :
    s.Pairs (.next ((s.stopRun c).finishCommand .ok none)) (.next (((s.withRegs s.regs.lastRecord).stopRun c).finishCommand .ok none)) := by
  rw [State.stopRun_withRegs hq hhand]
  exact State.pairs_finish hq (State.Holds.works ⟨rfl, hhand⟩ (Settles.stopRun c s).toActsOn.works) _ _

theorem State.pairs_stopFaulted (c : ChannelId) : s.Pairs (.next (s.stopFaulted c)) (.next ((s.withRegs s.regs.lastRecord).stopFaulted c)) := by
  unfold State.stopFaulted
  rw [State.withRegs_handCredits]
  split
  · exact State.pairs_kept (State.waitCredit_hand hhand)
  · have placed : s.Holds (s.place (channelEventRecord c (s.ch c) (.stopped .cleared))).handSpends := State.Holds.handSpends ⟨rfl, hhand⟩
    rw [State.withRegs_ch, State.place_withRegs, State.handSpends_withRegs, State.upd_withRegs]
    exact State.pairs_finish hq (placed.upd _) _ _

theorem State.pairs_stop : s.Pairs (execStop s) (execStop (s.withRegs s.regs.lastRecord)) := by
  unfold execStop
  rw [State.withRegs_presented]
  split
  next c abort _ =>
    rw [State.withRegs_ch]
    split
    · exact State.pairs_kept hhand
    · unfold State.stopCommand
      rw [State.withRegs_ch]
      cases (s.ch c).state with
      | off => exact State.pairs_answer hq hhand _ _
      | faulted => exact State.pairs_stopFaulted hq hhand c
      | starting =>
        cases abort with
        | true => exact State.pairs_stopWithAbort hq hhand c
        | false => exact State.pairs_stopRun hq hhand c
      | running =>
        cases abort with
        | true => exact State.pairs_stopWithAbort hq hhand c
        | false => exact State.pairs_stopRun hq hhand c
      | stopping =>
        cases abort with
        | true => exact State.pairs_stopWithAbort hq hhand c
        | false => exact State.pairs_answer hq hhand _ _
  next => exact State.pairs_kept hhand

/-! ## The writes of a channel -/

theorem State.pairs_rowWrite (c : ChannelId) (issue : Issue) (error : Bool) :
    s.Pairs (execRowWrite c issue error s) (execRowWrite c issue error (s.withRegs s.regs.lastRecord)) := by
  cases issue with
  | abandoned => exact State.pairs_kept (State.landAbandoned_hand (x := s.withRegs s.regs.lastRecord) hhand _ _)
  | current =>
    have handed : (s.withRegs s.regs.lastRecord).handRow c = (s.handRow c).withRegs s.regs.lastRecord := by
      unfold State.handRow
      rw [State.mayHand_withRegs hq, State.withRegs_ch, State.upd_withRegs]
      split <;> rfl
    unfold execRowWrite
    dsimp only
    rw [handed, State.withRegs_ch]
    split
    next => exact State.pairs_kept hhand
    next w _ =>
      have landed := (State.Holds.works ⟨rfl, hhand⟩ (Settles.handRow c s).toActsOn.works).land w error
      unfold State.rowMade
      rw [State.land_withRegs, State.upd_withRegs, State.settle_withRegs _ _ _ (State.lastRecord_writes hq (landed.upd _))]
      exact State.pairs_waiting hq ((landed.upd _).works (Settles.settle c _).toActsOn.works)

theorem State.pairs_headerWrite (c : ChannelId) (issue : Issue) (error : Bool) :
    s.Pairs (execHeaderWrite c issue error s) (execHeaderWrite c issue error (s.withRegs s.regs.lastRecord)) := by
  cases issue with
  | abandoned => exact State.pairs_kept (State.landAbandoned_hand (x := s.withRegs s.regs.lastRecord) hhand _ _)
  | current =>
    have handed : (s.withRegs s.regs.lastRecord).handHeader c = (s.handHeader c).withRegs s.regs.lastRecord := by
      unfold State.handHeader
      rw [State.mayHand_withRegs hq, State.withRegs_ch, State.upd_withRegs]
      split <;> rfl
    unfold execHeaderWrite
    dsimp only
    rw [handed, State.withRegs_ch]
    split
    next w f _ _ _ =>
      split
      next d _ =>
        have landed := (State.Holds.works ⟨rfl, hhand⟩ (Settles.handHeader c s).toActsOn.works).land w error
        have placed : s.Holds ((((s.handHeader c).land w error).upd c fun ch => { ch with headerWrite := none }).place (frameDoneRecord c f d)) :=
          ⟨landed.regs, landed.hand⟩
        have released := placed.works (Settles.release c _ f (!f.flags.aborted)).toActsOn.works
        unfold State.headerMade
        dsimp only
        rw [State.land_withRegs, State.upd_withRegs, State.place_withRegs, State.release_withRegs,
          State.settle_withRegs _ _ _ (State.lastRecord_writes hq released)]
        exact State.pairs_waiting hq (released.works (Settles.settle c _).toActsOn.works)
      next => exact State.pairs_kept hhand
      next => exact State.pairs_kept hhand
    next => exact State.pairs_kept hhand

/-! ## START -/

theorem State.pairs_start (hl : s.ledger) (hr : s.rowsSound) (hend : ∀ c : ChannelId, (s.ch c).ending = none) :
    s.Pairs (execStart s) (execStart (s.withRegs s.regs.lastRecord)) := by
  unfold execStart
  rw [State.withRegs_presented]
  split
  next c _ =>
    unfold State.startCommand
    rw [State.withRegs_ch]
    split
    next => exact State.pairs_answer hq hhand _ _
    next g hcheck =>
      have k : s.Holds (s.upd c fun ch => ch.started g).handSpends := State.Holds.handSpends ⟨rfl, hhand⟩
      have rests (d : ChannelId) : ((s.upd c fun ch => ch.started g).handSpends.ch d).Rests := by
        rw [State.handSpends_ch]
        by_cases hd : d = c
        · subst hd
          obtain ⟨hoff, hup, _⟩ := Channel.startCheck_eq_inr hcheck
          obtain ⟨hframes, hending⟩ := ((s.ledger_iff.mp hl).1.chans d).off_empty (by rw [hoff]; rfl)
          rw [State.ch_upd_same, Channel.started_eq ((Link.up_iff _).mp hup)]
          exact Channel.rests_of_empty hending hframes ChannelState.noConfusion
        · rw [State.ch_upd_ne s _ hd]
          exact State.rests hl hr (hend d)
      have drawn : s.Holds (s.upd c fun ch => ch.started g).handSpends.drawn := ⟨k.regs, k.hand⟩
      unfold State.startAccepted
      rw [State.upd_withRegs, State.handSpends_withRegs]
      dsimp only
      split
      · exact State.pairs_finish hq k _ _
      · split
        · rw [State.withRegs_draws]
          split
          · rw [State.drawn_withRegs]
            exact State.pairs_frameZero hq drawn rests _ _ c
          · rw [State.drawn_withRegs, State.frameStart_withRegs]
            exact State.pairs_finish hq (drawn.works (ActsOn.frameStart c _).works) _ _
        · exact State.pairs_frameZero hq k rests _ _ c
  next => exact State.pairs_kept hhand
end

/-! ## O8 -/

/-- Settles O8. -/
theorem disableQuiescesOrDisables : Obligations.DisableQuiescesOrDisables := by
  unfold Obligations.DisableQuiescesOrDisables
  refine fun reserved s => ⟨fun hi hbusy => ?_, fun hi hidle hl hr hq => ?_, fun hi => execDisable_of_ne reserved hi, fun i u hi hhand hinstr hstart hu hnone => ?_⟩
  · rw [execDisable_of_active reserved hi, if_neg hbusy]
  · have works := State.Works.enterDisabled s
    have kept : s.enterDisabled.pools = s.pools ∧ s.enterDisabled.draws = s.draws := by
      have settles (c : ChannelId) (u : State) : (u.settle c).pools = u.pools ∧ (u.settle c).draws = u.draws := ⟨(Settles.settle c u).pools, (Settles.settle c u).draws⟩
      unfold State.enterDisabled State.eachChannel
      simp only [settles, and_self]
    obtain ⟨r, queue, each⟩ := State.enterDisabled_posts hl (by rw [hi]; exact nofun)
    refine ⟨s.enterDisabled, r, (execDisable_of_active reserved hi).trans (if_pos hidle), State.enterDisabled_regs s, works.proc, kept.1, works.port, works.mem,
      works.pending, kept.2, works.cpl, queue, fun c => ?_⟩
    exact State.enterDisabled_each hl hr hq c (each c).1 (each c).2
  · refine State.pairs_conclude reserved ?_ hu hnone
    obtain rfl | rfl | rfl | rfl | rfl | rfl | rfl | rfl | rfl | ⟨c, issue, error, rfl⟩ | ⟨c, issue, error, rfl⟩ := hinstr
    · exact State.pairs_recordRejected hi hhand
    · exact State.pairs_set hi hhand
    · obtain ⟨hl, hr, hend⟩ := hstart rfl
      exact State.pairs_start hi hhand hl hr hend
    · exact State.pairs_stop hi hhand
    · exact State.pairs_capture hi hhand
    · exact State.pairs_cancel hi hhand
    · exact State.pairs_postBuffers hi hhand
    · exact State.pairs_reclaim hi hhand
    · exact State.pairs_query hi hhand
    · exact State.pairs_rowWrite hi hhand c issue error
    · exact State.pairs_headerWrite hi hhand c issue error

end Sys2Proof.Machine
end

section
/-! The entry to HALTED: O16 (R95, R129, R149, R163, R171). -/

namespace Sys2Proof.Machine

section
variable {s u : State} {c : ChannelId} {ch : Channel} {e : Ending}

/-! ## The load of the holding queue over the stop of a channel -/

theorem State.haltedAfter_load_le (s : State) (c : ChannelId) : (s.haltedAfter c).load ≤ s.load + 1 := by
  obtain ⟨_, h⟩ | ⟨_, h⟩ := State.offer_cases (s.upd c fun ch => { ch with state := .off }) c
    (channelEventRecord c ((s.upd c fun ch => { ch with state := .off }).ch c) (.stopped .halt))
  · rw [State.haltedAfter, State.offerHaltStop, h]
    show (s.cpl.queue ++ [_]).length + (s.cpl.reserved + 1 - 1) ≤ s.cpl.queue.length + s.cpl.reserved + 1
    rw [List.length_append, List.length_singleton]
    omega
  · rw [State.haltedAfter, State.offerHaltStop, h]
    exact Nat.le_succ _

/-- What a settled channel posts is paid with credits that it held. -/
theorem State.Funded.settled_room (funded : s.Funded) (fits : (s.ch c).RunFits) (writes : Bool) :
    ((s.ch c).settledRecords c writes).length ≤ s.cpl.reserved := by
  have held := fits.settled_credits c writes
  have bound := s.heldCredits_le c
  have reserved := funded.reserved
  omega

theorem State.Funded.settle_load_le (funded : s.Funded) (fits : (s.ch c).RunFits) : (s.settle c).load ≤ s.load + 1 := by
  have same := State.emit_occupied (s := s) (c := c) (b := (s.ch c).settled s.regs.iface.busWrites) (funded.settled_room fits s.regs.iface.busWrites)
  rw [State.settle_eq_emit]
  split
  · exact Nat.le_trans (State.haltedAfter_load_le _ c) (Nat.succ_le_succ (Nat.le_of_eq same))
  · exact Nat.le_trans (Nat.le_of_eq same) (Nat.le_succ _)

/-! ## A run that is ended, or is ending -/

theorem Frame.abort_stage (f : Frame) (handed : Bool) (now : Nat) :
    (f.abort handed now).stage = if f.stage = .closing then .closing else .draining := by
  unfold Frame.abort
  split
  · next hs =>
    rw [if_pos hs]
    split
    · exact hs
    · exact hs
  · next hs => rw [if_neg (by rw [hs]; exact nofun)]
  · next hs => exact hs.trans (if_neg (by rw [hs]; exact nofun)).symm

/-- A run that is ended at once is one that is ending. -/
theorem Channel.Cuttable.doomed (h : ch.Cuttable) (a : ch.RunFits) (hrun : ch.state.inRun = true) (event : ChannelEvent) (link : Link)
    (cause : Option FaultCause) : (ch.cut event link cause).Doomed ⟨event, false⟩ where
  fits := Channel.RunFits.of_ending (ch := ch.cut event link cause) hrun (a.run hrun).1 (a.run hrun).2 rfl rfl
    (map_paid (fun f => f.abort_hold _ _) (fun f => f.abort_credit _ _) a.paid)
  queue := Channel.cut_sound h.queue
  ending := rfl
  cut := Channel.cut_allAborted
  open' x hx := by
    obtain ⟨f, _, rfl⟩ := List.mem_map.mp hx
    rw [f.abort_stage]
    split <;> exact nofun
  later x hx := by
    have tail : (ch.cut event link cause).frames.tail = ch.frames.tail.map fun f => f.abort ch.headerWrite.isSome ch.lostEvents := List.map_tail.symm
    rw [tail] at hx
    obtain ⟨f, hf, rfl⟩ := List.mem_map.mp hx
    rw [f.abort_stage, if_neg (h.rows.later f hf)]
    exact nofun
  rows hrow := by
    show (if ch.rowWrite.isSome then _ else _) = _
    rw [show ch.rowWrite = none from hrow]
    rfl

theorem Ending.halted_event (e : Ending) : e.halted.event = e.event := by
  unfold Ending.halted
  split <;> rfl

theorem Ending.halted_eq (e : Ending) : e.halted = ⟨e.event, match e.event with | .stopped _ => e.thenHalt | .faulted _ => true⟩ := by
  obtain ⟨event, thenHalt⟩ := e
  cases event <;> rfl

/-- The channel with the end of its run as HALTED leaves it (R95). -/
def Channel.haltMarked (ch : Channel) (e : Ending) : Channel := { ch with ending := some e.halted }

theorem Channel.Doomed.haltMarked (h : ch.Doomed e) : (ch.haltMarked e).Doomed e.halted where
  fits := h.fits.withEnding (by rw [h.ending]; rfl)
  queue := h.queue
  ending := rfl
  cut := h.cut
  open' := h.open'
  later := h.later
  rows := h.rows

/-- The STOPPED (HALT) behind the end of a run that HALTED found ending by a fault. -/
def Channel.haltRecords (ch : Channel) (c : ChannelId) (thenHalt : Bool) : List Completion :=
  if thenHalt then [.channelEvent c ch.timer.run (.stopped .halt) ch.timer.nextSeq] else []

/-- R95, R128, R129: in HALTED a run that is ending goes on without a header written. -/
theorem State.settle_doomed (hd : (s.ch c).Doomed e) (funded : s.Funded) (hw : s.regs.iface.busWrites = false) {r : List Completion}
    (hr : (s.settle c).cpl.queue = s.cpl.queue ++ r) :
    ((s.settle c).ch c).frames = ((s.ch c).advanced false).frames
      ∧ (((s.settle c).ch c).frames = [] → ((s.settle c).ch c).state = (if e.thenHalt then .off else e.event.endState)
        ∧ ((s.settle c).ch c).standing = false ∧ ((s.settle c).ch c).ending = none ∧ ((s.settle c).ch c).table.idle)
      ∧ (((s.settle c).ch c).frames ≠ [] → ((s.settle c).ch c).state = (s.ch c).state ∧ ((s.settle c).ch c).ending = some e)
      ∧ (((s.ch c).advanced false).frames = [] → s.load < 64 → r = (s.ch c).settledRecords c false ++ (s.ch c).haltRecords c e.thenHalt) := by
  have same : (s.emit c ((s.ch c).settled false) ((s.ch c).settledRecords c false)).cpl.queue.length
      + (s.emit c ((s.ch c).settled false) ((s.ch c).settledRecords c false)).cpl.reserved = s.load := State.emit_occupied (funded.settled_room hd.fits false)
  have settles := State.settle_eq_emit s c
  have frames : ((s.ch c).settled false).frames = ((s.ch c).advanced false).frames := Channel.ended_frames _
  rw [hw] at settles
  by_cases hf : ((s.ch c).advanced false).frames = []
  · obtain ⟨finished, _, _⟩ := hd.ends (c := c) hf
    have halts : ((s.ch c).advanced false).haltsNow = e.thenHalt := by rw [Channel.haltsNow, hf, Channel.advanced_ending, hd.ending]
    have idle : ((s.ch c).settled false).table.idle := by rw [finished]; exact SettingsTable.cleared_idle _
    have timer : ((s.ch c).settled false).timer = (s.ch c).timer := Channel.settled_timer _ _
    rw [halts] at settles
    cases ht : e.thenHalt with
    | false =>
      rw [ht, if_neg Bool.false_ne_true] at settles
      rw [settles, State.emit_queue] at hr
      rw [settles, State.emit_ch_same, frames]
      refine ⟨rfl, fun _ => ⟨?_, ?_, ?_, idle⟩, fun h => absurd hf h, fun _ _ => ?_⟩
      · rw [finished]; rfl
      · rw [finished]; rfl
      · rw [finished]; rfl
      · exact (List.append_cancel_left hr).symm.trans (List.append_nil _).symm
    | true =>
      rw [ht, if_pos rfl] at settles
      obtain ⟨_, _, _, room, full⟩ := State.haltedAfter_cases (s.emit c ((s.ch c).settled false) ((s.ch c).settledRecords c false)) c
      rw [State.emit_ch_same, same, ← settles] at room full
      have here : ∃ n, (s.settle c).ch c = { (s.ch c).settled false with state := .off, lostEvents := n } := by
        obtain h | h := Nat.lt_or_ge s.load 64
        · exact ⟨_, (room h).2⟩
        · exact ⟨_, (full h).2⟩
      obtain ⟨n, here⟩ := here
      rw [here]
      refine ⟨frames, fun _ => ⟨rfl, ?_, ?_, idle⟩, fun h => absurd (frames.trans hf) h, fun _ h => ?_⟩
      · rw [finished]; rfl
      · rw [finished]; rfl
      · rw [(room h).1, State.emit_queue, List.append_assoc] at hr
        rw [← List.append_cancel_left hr, channelEventRecord, timer]
        rfl
  · obtain ⟨waits, _⟩ := Channel.settled_of_ending (c := c) hd.ending false rfl
    have stays := (waits (by rw [frames]; exact hf)).1
    have halts : ((s.ch c).advanced false).haltsNow = false := by
      cases h : ((s.ch c).advanced false).frames with
      | nil => exact absurd h hf
      | cons _ _ => rw [Channel.haltsNow, h]
    rw [halts, if_neg Bool.false_ne_true] at settles
    rw [settles, State.emit_ch_same]
    refine ⟨frames, fun h => absurd (frames.symm.trans h) hf, fun _ => ⟨?_, ?_⟩, fun h => absurd h hf⟩
    · rw [stays]; exact Channel.advanced_state _ _
    · rw [stays]; exact (Channel.advanced_ending _ _).trans hd.ending

/-! ## The stop of one channel (R95) -/

theorem State.haltChannel_of_ending (he : (u.ch c).ending = some e) :
    State.haltChannel c u = (u.emit c ((u.ch c).haltMarked e) []).settle c := by
  rw [State.haltChannel, he]
  exact congrArg (fun v => State.settle v c) (State.upd_eq_emit u c _)

theorem State.haltChannel_of_off (he : (u.ch c).ending = none) (hs : (u.ch c).state = .off) : State.haltChannel c u = u := by
  rw [State.haltChannel, he, hs]

theorem State.haltChannel_of_faulted (he : (u.ch c).ending = none) (hs : (u.ch c).state = .faulted) : State.haltChannel c u = u.haltedAfter c := by
  rw [State.haltChannel, he, hs]
  rfl

theorem State.haltChannel_of_run (he : (u.ch c).ending = none) (hrun : (u.ch c).state.inRun = true) :
    State.haltChannel c u = u.abortRun c (.stopped .halt) := by
  cases hs : (u.ch c).state with
  | off => rw [hs] at hrun; cases hrun
  | faulted => rw [hs] at hrun; cases hrun
  | starting => rw [State.haltChannel, he, hs]
  | running => rw [State.haltChannel, he, hs]
  | stopping => rw [State.haltChannel, he, hs]

/-- A channel whose run HALTED ends, its link and fault cause as they are then. -/
def Channel.haltCut (ch : Channel) : Channel := ch.cut (.stopped .halt) (ch.link.send .halt) ch.faultCause

/-- A channel as the entry to HALTED finds it. -/
structure Channel.Haltable (ch : Channel) : Prop where
  accounts : ch.Accounts
  rows : ch.RowAccounts
  queue : ch.queueSound

/-- What the entry to HALTED makes of channel `ch`: `b`, with the records `r`, the load of the holding queue being at most `n + 3` as it comes to it. -/
structure Channel.HaltsTo (c : ChannelId) (ch b : Channel) (r : List Completion) (n : Nat) : Prop where
  ended : b.frames = [] → b.state = .off ∧ b.standing = false ∧ b.ending = none ∧ b.table.idle
  closes : ch.rowWrite = none → ch.headerWrite = none → b.frames = []
  off : ch.state = .off → b = ch ∧ r = []
  faulted : ch.state = .faulted → b = { ch with state := .off } ∧ r = [.channelEvent c ch.timer.run (.stopped .halt) ch.timer.nextSeq]
    ∨ b = { ch with state := .off, lostEvents := min (ch.lostEvents + 1) 65535 } ∧ r = [] ∧ 61 ≤ n
  run : ch.state.inRun = true → ch.ending = none → b = ch.haltCut.settled false ∧ r = ch.haltCut.settledRecords c false
  ending : ∀ e ∈ ch.ending, (b.frames ≠ [] → b.state = ch.state ∧ b.ending = some e.halted)
    ∧ (((ch.haltMarked e).advanced false).frames = [] → n < 61 →
      r = (ch.haltMarked e).settledRecords c false ++ ch.haltRecords c e.halted.thenHalt)

/-- A channel of no run. -/
theorem Channel.Haltable.atRest (h : ch.Haltable) (hrun : ch.state.inRun = false) : ch.frames = [] ∧ ch.standing = false ∧ ch.ending = none ∧ ch.table.idle := by
  obtain ⟨_, idle, standing, frames, ending⟩ := h.accounts.rest hrun
  exact ⟨frames, standing, ending, idle⟩

variable {r : List Completion} {n : Nat}

theorem Channel.Haltable.haltsTo (h : (u.ch c).Haltable) (hquiet : (u.ch c).quiet) (funded : u.Funded) (hi : u.regs.iface = .halted) (hn : u.load ≤ n + 3)
    (hr : (State.haltChannel c u).cpl.queue = u.cpl.queue ++ r) : Channel.HaltsTo c (u.ch c) ((State.haltChannel c u).ch c) r n := by
  have writes : u.regs.iface.busWrites = false := by rw [hi]; rfl
  cases hrun : (u.ch c).state.inRun with
  | false =>
    obtain ⟨frames, standing, ending, idle⟩ := h.atRest hrun
    cases hs : (u.ch c).state with
    | off =>
      rw [State.haltChannel_of_off ending hs] at hr ⊢
      exact ⟨fun _ => ⟨hs, standing, ending, idle⟩, fun _ _ => frames, fun _ => ⟨rfl, List.append_cancel_left (hr.symm.trans (List.append_nil _).symm)⟩,
        fun e => absurd (hs.symm.trans e) nofun, fun e => absurd (hrun.symm.trans e) nofun, fun e he => by rw [ending] at he; cases he⟩
    | faulted =>
      rw [State.haltChannel_of_faulted ending hs] at hr ⊢
      obtain ⟨_, _, _, room, full⟩ := State.haltedAfter_cases u c
      have load : u.load = u.cpl.queue.length + u.cpl.reserved := rfl
      obtain hfree | hfull := Nat.lt_or_ge (u.cpl.queue.length + u.cpl.reserved) 64
      · rw [(room hfree).1] at hr
        rw [(room hfree).2]
        exact ⟨fun _ => ⟨rfl, standing, ending, idle⟩, fun _ _ => frames, fun e => absurd (hs.symm.trans e) nofun,
          fun _ => .inl ⟨rfl, (List.append_cancel_left hr).symm⟩, fun e => absurd (hrun.symm.trans e) nofun, fun e he => by rw [ending] at he; cases he⟩
      · rw [(full hfull).1] at hr
        rw [(full hfull).2]
        exact ⟨fun _ => ⟨rfl, standing, ending, idle⟩, fun _ _ => frames, fun e => absurd (hs.symm.trans e) nofun,
          fun _ => .inr ⟨rfl, List.append_cancel_left (hr.symm.trans (List.append_nil _).symm), by omega⟩,
          fun e => absurd (hrun.symm.trans e) nofun, fun e he => by rw [ending] at he; cases he⟩
    | starting => rw [hs] at hrun; cases hrun
    | running => rw [hs] at hrun; cases hrun
    | stopping => rw [hs] at hrun; cases hrun
  | true =>
    have off (e : (u.ch c).state = .off) : False := by rw [e] at hrun; cases hrun
    have faulted (e : (u.ch c).state = .faulted) : False := by rw [e] at hrun; cases hrun
    cases he : (u.ch c).ending with
    | none =>
      have cuttable : (u.ch c).Cuttable := ⟨h.rows, he, h.queue⟩
      have doomed : (u.ch c).haltCut.Doomed ⟨.stopped .halt, false⟩ := cuttable.doomed h.accounts.toRunFits hrun _ _ _
      rw [State.haltChannel_of_run he hrun, State.abortRun_eq_emit, writes] at hr ⊢
      rw [State.emit_ch_same]
      obtain ⟨_, _, _, _, _, _, _, ends, _⟩ := Channel.cut_concludes (c := c) cuttable (.stopped .halt) ((u.ch c).link.send .halt) (u.ch c).faultCause false rfl
      refine ⟨fun hf => ?_, fun hrow hhead => (Channel.ended_frames _).trans (doomed.closesAll hrow hhead), fun e => (off e).elim,
        fun e => (faulted e).elim, fun _ _ => ⟨rfl, (List.append_cancel_left hr).symm⟩, fun e hmem => by rw [he] at hmem; cases hmem⟩
      obtain ⟨state, standing, ending, _, table, _⟩ := ends hf
      exact ⟨state, standing, ending, by rw [table]; exact SettingsTable.cleared_idle _⟩
    | some e =>
      have doomed : ((u.ch c).haltMarked e).Doomed e.halted := (h.accounts.doomed h.rows h.queue he).haltMarked
      have here : (u.emit c ((u.ch c).haltMarked e) []).ch c = (u.ch c).haltMarked e := State.emit_ch_same _ _ _ _
      have funded' : (u.emit c ((u.ch c).haltMarked e) []).Funded := funded.emit rfl
      have load : (u.emit c ((u.ch c).haltMarked e) []).load = u.load := State.emit_occupied (Nat.zero_le _)
      rw [State.haltChannel_of_ending he] at hr ⊢
      obtain ⟨frames, ends, waits, records⟩ := State.settle_doomed (c := c) (s := u.emit c ((u.ch c).haltMarked e) []) (e := e.halted) (r := r)
        (by rw [here]; exact doomed) funded' writes (by rw [hr, State.emit_queue, List.append_nil])
      rw [here] at frames waits records
      refine ⟨fun hf => ?_, fun hrow hhead => frames.trans (doomed.closesAll hrow hhead), fun e => (off e).elim,
        fun e => (faulted e).elim, fun _ hend => absurd (he.symm.trans hend) nofun, fun e' hmem => ?_⟩
      · obtain ⟨state, rest⟩ := ends hf
        refine ⟨state.trans ?_, rest⟩
        have same := hquiet e he
        obtain ⟨event, thenHalt⟩ := e
        cases event with
        | stopped _ => rw [show thenHalt = false from same]; rfl
        | faulted _ => rfl
      · obtain rfl : e' = e := (Option.some.inj (he.symm.trans hmem)).symm
        exact ⟨waits, fun hf hload => records hf (by omega)⟩

theorem State.Funded.haltChannel_load_le (funded : u.Funded) (h : (u.ch c).Haltable) : (State.haltChannel c u).load ≤ u.load + 1 := by
  cases he : (u.ch c).ending with
  | some e =>
    have here : (u.emit c ((u.ch c).haltMarked e) []).ch c = (u.ch c).haltMarked e := State.emit_ch_same _ _ _ _
    have doomed := (h.accounts.doomed h.rows h.queue he).haltMarked
    have load : (u.emit c ((u.ch c).haltMarked e) []).load = u.load := State.emit_occupied (Nat.zero_le _)
    have marked : (u.emit c ((u.ch c).haltMarked e) []).Funded := funded.emit rfl
    rw [State.haltChannel_of_ending he, ← load]
    exact marked.settle_load_le (by rw [here]; exact doomed.fits)
  | none =>
    cases hrun : (u.ch c).state.inRun with
    | true =>
      have cuttable : (u.ch c).Cuttable := ⟨h.rows, he, h.queue⟩
      have cut : (((u.upd c fun ch => { ch.abortFrames with timer := ch.timer.idled, ending := some ⟨.stopped .halt, false⟩ }).send c .halt).ch c)
          = (u.ch c).haltCut := by
        rw [State.send, State.ch_upd_same, State.ch_upd_same]
        rfl
      have aborted : ((u.upd c fun ch => { ch.abortFrames with timer := ch.timer.idled, ending := some ⟨.stopped .halt, false⟩ }).send c .halt).Funded :=
        (funded.upd (Channel.heldCredits_congr rfl rfl (frameCredits_map fun f => f.abort_credit _ _))).send _
      rw [State.haltChannel_of_run he hrun]
      exact aborted.settle_load_le (by rw [cut]; exact (cuttable.doomed h.accounts.toRunFits hrun _ _ _).fits)
    | false =>
      cases hs : (u.ch c).state with
      | off => rw [State.haltChannel_of_off he hs]; exact Nat.le_succ _
      | faulted => rw [State.haltChannel_of_faulted he hs]; exact State.haltedAfter_load_le u c
      | starting => rw [hs] at hrun; cases hrun
      | running => rw [hs] at hrun; cases hrun
      | stopping => rw [hs] at hrun; cases hrun

/-! ## The stop of every channel -/

theorem State.discardHand_cpl (s : State) : s.discardHand.cpl = { s.cpl with reserved := s.discardHand.cpl.reserved }
    ∧ s.discardHand.cpl.reserved ≤ s.cpl.reserved := by
  cases hh : s.proc.hand with
  | none =>
    rw [(State.discardHand_of_none hh).1]
    exact ⟨rfl, Nat.le_refl _⟩
  | some h =>
    cases ht : h.taken with
    | true =>
      rw [(State.discardHand_of_taken hh ht).1]
      exact ⟨rfl, Nat.le_refl _⟩
    | false =>
      rw [(State.discardHand_of_not_taken hh ht).1]
      exact ⟨rfl, Nat.sub_le _ _⟩

theorem State.discardHand_kept (s : State) : s.discardHand.pools = s.pools ∧ s.discardHand.mem = s.mem ∧ s.discardHand.pending = s.pending := by
  unfold State.discardHand
  split
  · exact ⟨rfl, rfl, rfl⟩
  · split <;> exact ⟨rfl, rfl, rfl⟩

theorem State.haltedBlocks_pools (s : State) (cause : HaltCause) : (s.haltedBlocks cause).pools = s.pools := by
  have settles (c : ChannelId) (v : State) : (State.haltChannel c v).pools = v.pools := (Settles.haltChannel c v).pools
  show (State.haltChannel 3 (State.haltChannel 2 (State.haltChannel 1 (State.haltChannel 0 _)))).pools = _
  rw [settles, settles, settles, settles, (State.discardHand_kept _).1]

/-- The entry to HALTED stops each channel, and lists the records each one posts. -/
theorem State.haltedBlocks_each (funded : s.Funded) (haltable : ∀ c, (s.ch c).Haltable) (quiet : ∀ c, (s.ch c).quiet) (cause : HaltCause) :
    ∃ r : ChannelId → List Completion, (s.haltedBlocks cause).cpl.queue = s.cpl.queue ++ r 0 ++ r 1 ++ r 2 ++ r 3
      ∧ ∀ c, Channel.HaltsTo c (s.ch c) ((s.haltedBlocks cause).ch c) (r c) s.load
        ∧ ((s.haltedBlocks cause).ch c).table.working = (s.ch c).table.working ∧ ((s.haltedBlocks cause).ch c).table.committed = (s.ch c).table.committed
        ∧ ((s.haltedBlocks cause).ch c).table.genCounter = (s.ch c).table.genCounter := by
  have funded : State.Funded { s with regs := { s.regs with iface := .halted, haltCause := cause } } := funded.of_eq rfl rfl rfl rfl
  obtain ⟨cpl, fewer⟩ := State.discardHand_cpl { s with regs := { s.regs with iface := .halted, haltCause := cause } }
  have queue := congrArg CompletionWriter.queue cpl
  have chans (c : ChannelId) : (State.discardHand { s with regs := { s.regs with iface := .halted, haltCause := cause } }).ch c = s.ch c := by
    rw [State.ch, State.discardHand_chans]
    rfl
  have load : (State.discardHand { s with regs := { s.regs with iface := .halted, haltCause := cause } }).load ≤ s.load := by
    unfold State.load
    rw [queue]
    exact Nat.add_le_add_left fewer _
  obtain ⟨r, posted, each⟩ := State.eachChannel_posts (g := State.haltChannel)
    (s := State.discardHand { s with regs := { s.regs with iface := .halted, haltCause := cause } }) (fun c s => (Settles.haltChannel c s).toActsOn)
    (Q := fun n u => u.Funded ∧ u.load ≤ s.load + n) (P := Channel.Haltable)
    (fun c u _ h k => ⟨h.1.haltChannel k.accounts, by
      have := h.1.haltChannel_load_le k
      omega⟩) ⟨funded.discardHand, load⟩ fun c => by rw [chans]; exact haltable c
  refine ⟨r, by rw [← queue]; exact posted, fun c => ?_⟩
  obtain ⟨u, ⟨ufunded, uload⟩, hch, hregs, hsame, hqueue⟩ := each c
  have here : u.ch c = s.ch c := hch.trans (chans c)
  have halted : u.regs.iface = .halted := by rw [hregs, State.discardHand_regs]
  have room : u.load ≤ s.load + 3 := by
    have := c.isLt
    omega
  have acts := (Settles.haltChannel c u).toActsOn
  have result := Channel.Haltable.haltsTo (c := c) (u := u) (r := r c) (by rw [here]; exact haltable c) (by rw [here]; exact quiet c) ufunded halted room hqueue
  have same : (s.haltedBlocks cause).ch c = (State.haltChannel c u).ch c := hsame
  rw [same, ← here]
  exact ⟨result, acts.working, acts.committed, acts.genCounter⟩

/-! ## The STOP that waits, in HALTED -/

/-- In HALTED the answer to the record in hand is its CMD_RESULT, and the processor stays IDLE. -/
theorem State.finishCommand_halted (hi : s.regs.iface = .halted) {k : Hand} (hk : s.proc.hand = some k) (code : ResultCode) (gen : Option Gen) :
    s.finishCommand code gen = s.answer k code gen := by
  rw [State.finishCommand_of_some hk, if_neg (by rw [hi]; exact nofun), State.tryFetch_eq, if_neg fun h => by
    have active := h.1
    rw [State.answer_iface, hi] at active
    cases active]

/-- A processor that holds no STOP that waits has an empty hand behind the entry to HALTED. -/
theorem State.ProcFits.discards (h : s.ProcFits) (hw : s.waitingStop = none) : s.proc.hand.bind Hand.keptByHalt = none := by
  cases hk : s.proc.hand with
  | none => rfl
  | some k =>
    refine if_neg fun ht => ?_
    obtain ⟨_, _, d, hcmd⟩ := Hand.abortTaken_iff.mp (h.taken hk ht).1
    unfold State.waitingStop at hw
    rw [hk] at hw
    dsimp only at hw
    rw [if_pos ht, hcmd] at hw
    cases hw

theorem State.waitingStop_taken {d : ChannelId} (hw : s.waitingStop = some d) {k : Hand} (hk : s.proc.hand = some k) : k.taken = true := by
  cases ht : k.taken with
  | true => rfl
  | false =>
    rw [State.waitingStop_of_not_taken hk ht] at hw
    cases hw


/-- What the entry to HALTED leaves of the processor, and what it answers: a STOP that waits has its CMD_RESULT once its channel's run has ended (R128, R149). -/
structure State.HaltsProcessor (s t : State) (last : List Completion) : Prop where
  idle : t.proc.state = .idle
  empty : s.waitingStop = none → t.proc = { state := .idle, hand := none, read := none } ∧ t.regs.cmdHead = s.regs.cmdHead ∧ last = []
  waits : ∀ d ∈ s.waitingStop, ∀ h ∈ s.proc.hand, (t.ch d).ending ≠ none →
    t.proc = { state := .idle, hand := some h, read := none } ∧ t.regs.cmdHead = s.regs.cmdHead ∧ last = []
  answers : ∀ d ∈ s.waitingStop, ∀ h ∈ s.proc.hand, (t.ch d).ending = none →
    t.proc = { state := .idle, hand := none, read := none } ∧ t.regs.cmdHead = (s.regs.cmdHead + 1) % s.regs.cmdSize.toNat
      ∧ last = [cmdResultRecord h .ok none]

theorem State.haltedBlocks_answered (hp : s.ProcFits) (cause : HaltCause) : ∃ last,
    s.HaltsProcessor (s.haltedBlocks cause).finishWaitingStop last
      ∧ (s.haltedBlocks cause).finishWaitingStop.cpl.queue = (s.haltedBlocks cause).cpl.queue ++ last
      ∧ (s.haltedBlocks cause).finishWaitingStop.chans = (s.haltedBlocks cause).chans := by
  have regs := s.haltedBlocks_regs cause
  have proc := s.haltedBlocks_proc cause
  have halted : (s.haltedBlocks cause).regs.iface = .halted := by rw [regs]
  have waiting := s.haltedBlocks_waitingStop cause
  cases hw : s.waitingStop with
  | none =>
    rw [State.finishWaitingStop_of_none (waiting.trans hw)]
    refine ⟨[], ⟨by rw [proc], fun _ => ⟨?_, by rw [regs], rfl⟩, fun d hd => ?_, fun d hd => ?_⟩, (List.append_nil _).symm, rfl⟩
    · rw [proc, hp.discards hw]
    · rw [hw] at hd; cases hd
    · rw [hw] at hd; cases hd
  | some d =>
    obtain ⟨k, hk⟩ : ∃ k, s.proc.hand = some k := by
      cases hk : s.proc.hand with
      | none => rw [State.waitingStop_of_none hk] at hw; cases hw
      | some k => exact ⟨k, rfl⟩
    have kept : s.proc.hand.bind Hand.keptByHalt = some k := by
      rw [hk]
      exact if_pos (State.waitingStop_taken hw hk)
    rw [kept] at proc
    have unheld {h : Hand} (hh : h ∈ s.proc.hand) : h = k := (Option.some.inj (hk.symm.trans hh)).symm
    have unwaited {d' : ChannelId} (hd : d' ∈ s.waitingStop) : d' = d := (Option.some.inj (hw.symm.trans hd)).symm
    rw [State.finishWaitingStop_of_some (waiting.trans hw)]
    cases he : ((s.haltedBlocks cause).ch d).ending with
    | some e =>
      rw [if_neg (c := Option.isNone (some e) = true) Bool.false_ne_true]
      refine ⟨[], ⟨by rw [proc], fun h => absurd (hw.symm.trans h) nofun, fun _ _ h hh _ => ?_, fun d' hd h hh hend => ?_⟩, (List.append_nil _).symm, rfl⟩
      · rw [proc, regs, unheld hh]
        exact ⟨rfl, rfl, rfl⟩
      · rw [unwaited hd, he] at hend
        cases hend
    | none =>
      have hand : (s.haltedBlocks cause).proc.hand = some k := by rw [proc]
      have answer := State.finishCommand_halted halted hand .ok none
      rw [if_pos (c := Option.isNone (none : Option Ending) = true) rfl, answer]
      refine ⟨[cmdResultRecord k .ok none], ⟨rfl, fun h => absurd (hw.symm.trans h) nofun, fun d' hd h hh hend => ?_, fun _ _ h hh _ => ⟨rfl, ?_, by rw [unheld hh]⟩⟩,
        rfl, rfl⟩
      · rw [unwaited hd] at hend
        exact absurd he hend
      · show ((s.haltedBlocks cause).regs.cmdHead + 1) % (s.haltedBlocks cause).regs.cmdSize.toNat = _
        rw [regs]

/-- The blocks that the entry to HALTED leaves as they are. -/
theorem State.haltedBlocks_frame (s : State) (cause : HaltCause) :
    (s.haltedBlocks cause).finishWaitingStop.pools = s.pools ∧ (s.haltedBlocks cause).finishWaitingStop.mem = s.mem
      ∧ (s.haltedBlocks cause).finishWaitingStop.pending = s.pending
      ∧ (s.haltedBlocks cause).finishWaitingStop.cpl
        = { s.cpl with queue := (s.haltedBlocks cause).finishWaitingStop.cpl.queue, reserved := (s.haltedBlocks cause).finishWaitingStop.cpl.reserved } := by
  have works := s.haltedBlocks_works cause
  obtain ⟨_, mem, pending, cpl, _⟩ := (s.haltedBlocks cause).finishWaitingStop_answerFrame
  obtain ⟨_, mem', pending'⟩ := State.discardHand_kept { s with regs := { s.regs with iface := .halted, haltCause := cause } }
  obtain ⟨cpl', _⟩ := State.discardHand_cpl { s with regs := { s.regs with iface := .halted, haltCause := cause } }
  refine ⟨(State.finishWaitingStop_pools _).trans (s.haltedBlocks_pools cause), mem.trans (works.mem.trans mem'),
    pending.trans (works.pending.trans pending'), ?_⟩
  rw [cpl, works.cpl, cpl']

/-! ## O16 -/

/-- What the three causes come to: entry to HALTED, from the state with the fetch read given up, or the link down. -/
theorem exec_halts {i : Instr} {cause : HaltCause} (hi : s.regs.iface ≠ .halted) (hp : s.ProcFits)
    (h : (∃ value, i = .cmdTailWrite value ∧ (∃ k, 4 ≤ k ∧ k ≤ 12 ∧ s.regs.cmdSize.toNat = 2 ^ k) ∧ s.regs.cmdSize.toNat ≤ value.toNat ∧ cause = .ringIndex)
      ∨ (i = .fetchComplete .current .error ∧ s.proc.read ≠ none ∧ cause = .fetchError)
      ∨ (i = .portDown ∧ s.port.linkUp = true ∧ cause = .portDown)) :
    ∃ p q, exec i s = .next (State.enterHalted { s with proc := p, port := q } cause) ∧ State.ProcFits { s with proc := p, port := q } ∧ p.hand = s.proc.hand
      ∧ q.linkUp = (if cause = .portDown then false else s.port.linkUp) ∧ q.messages = s.port.messages ∧ q.msiEnabled = s.port.msiEnabled := by
  obtain ⟨value, rfl, valid, above, rfl⟩ | ⟨rfl, hread, rfl⟩ | ⟨rfl, hup, rfl⟩ := h
  · refine ⟨s.proc, s.port, ?_, hp, rfl, (if_neg nofun).symm, rfl, rfl⟩
    show (if s.regs.iface = .halted then Host.Outcome.next s
      else if ringSizeOk s.regs.cmdSize.toNat then if value.toNat < s.regs.cmdSize.toNat then _ else _ else _) = _
    rw [if_neg hi, if_pos ((ringSizeOk_iff _).mpr valid), if_neg (Nat.not_lt.mpr above)]
  · obtain ⟨read, hread⟩ := Option.ne_none_iff_exists'.mp hread
    obtain ⟨hfits, _, fetches⟩ := hp.sound
    have none : s.proc.hand = none := by
      unfold Processor.handFits at hfits
      rw [fetches (by rw [hread]; rfl)] at hfits
      exact Option.isNone_iff_eq_none.mp hfits
    refine ⟨Processor.reset, s.port, ?_, State.ProcFits.of_reset rfl, none.symm, (if_neg nofun).symm, rfl, rfl⟩
    show execFetchComplete .current .error s = _
    simp only [execFetchComplete, hread]
  · refine ⟨s.proc, { s.port with linkUp := false }, ?_, hp.of_eq rfl Iff.rfl, rfl, (if_pos rfl).symm, rfl, rfl⟩
    show execPortDown s = _
    rw [execPortDown, if_pos hup]

/-- The only frame of a run that was ending, with no write of it at the port, posts before the end of the run. -/
theorem Channel.HaltsTo.one {b : Channel} {f : Frame} (k : Channel.HaltsTo c ch b r n) (h : ch.Haltable) (he : ch.ending = some e) (hf : ch.frames = [f])
    (hrow : ch.rowWrite = none) (hhead : ch.headerWrite = none) {tag : Tag} (htag : f.tag = some tag) (hcredit : f.credit = true) (hn : n < 61) :
    r = f.droppedAborted c tag :: ch.closedAfter c tag false ++ ch.endRecords c (ch.capturesAfter tag false) e.event
      ++ ch.haltRecords c e.halted.thenHalt := by
  have doomed := (h.accounts.doomed h.rows h.queue he).haltMarked
  obtain ⟨closed, posts⟩ := doomed.one (c := c) hf (.inr hrow) hhead
  obtain ⟨posted, left⟩ := posts (by rw [htag, hcredit]; rfl)
  rw [(k.ending e he).2 closed hn, (doomed.ends (c := c) closed).2.2, posted, left, Ending.halted_event, Channel.abortRecords, Channel.abortCaptures, htag]
  rfl

/-- The two frames of a run that was ending, with no write of them at the port, post in turn before the end of the run. -/
theorem Channel.HaltsTo.two {b first : Channel} {f g : Frame} (k : Channel.HaltsTo c ch b r n) (h : ch.Haltable) (he : ch.ending = some e)
    (hf : ch.frames = [f, g]) (hrow : ch.rowWrite = none) (hhead : ch.headerWrite = none) (hfcredit : f.tag.isSome = f.credit)
    (hgcredit : g.tag.isSome = g.credit) (hn : n < 61) (hfirst : first = { ch with captures := ch.abortCaptures f }) :
    r = ch.abortRecords c f ++ first.abortRecords c g ++ ch.endRecords c (first.abortCaptures g) e.event ++ ch.haltRecords c e.halted.thenHalt := by
  have doomed := (h.accounts.doomed h.rows h.queue he).haltMarked
  have closed := doomed.closesAll hrow hhead
  obtain ⟨posted, left⟩ := doomed.two (c := c) hf hrow hhead hfcredit hgcredit rfl
  subst hfirst
  rw [(k.ending e he).2 closed hn, (doomed.ends (c := c) closed).2.2, posted, left, Ending.halted_event]
  rfl

/-- Settles O16. -/
theorem haltStopsProcessorAndChannels : Obligations.HaltStopsProcessorAndChannels := by
  unfold Obligations.HaltStopsProcessorAndChannels
  intro i cause s hi hl hr hq h
  obtain ⟨books, quiet⟩ := s.ledger_iff.mp hl
  obtain ⟨rows, waits⟩ := s.rowsSound_iff.mp hr
  have haltable (c : ChannelId) : (s.ch c).Haltable := ⟨books.chans c, rows c, hq c⟩
  obtain ⟨p, q, run, fits, hand, up, messages, msi⟩ := exec_halts hi books.proc h
  have waiting : State.waitingStop { s with proc := p, port := q } = s.waitingStop := State.waitingStop_congr hand
  obtain ⟨r, posted, each⟩ := State.haltedBlocks_each (s := { s with proc := p, port := q }) (books.funded.of_eq rfl rfl rfl hand) haltable (quiet hi) cause
  obtain ⟨last, proc, answered, chans⟩ := State.haltedBlocks_answered fits cause
  obtain ⟨pools, mem, pending, cpl⟩ := State.haltedBlocks_frame { s with proc := p, port := q } cause
  have regs := (State.enterHalted_regs (s := { s with proc := p, port := q }) hi cause).1
  have port := State.enterHalted_port (s := { s with proc := p, port := q }) hi cause
  have entry := State.enterHalted_eq (s := { s with proc := p, port := q }) hi cause
  rw [entry] at run regs port
  have channel (c : ChannelId) : (State.haltedBlocks { s with proc := p, port := q } cause).finishWaitingStop.announceHalt.ch c
      = (State.haltedBlocks { s with proc := p, port := q } cause).ch c := by
    rw [State.ch, State.announceHalt_chans, chans]
    rfl
  have linkUp : (State.haltedBlocks { s with proc := p, port := q } cause).finishWaitingStop.announceHalt.port.linkUp
      = if cause = .portDown then false else s.port.linkUp := by rw [port]; exact up
  have processor : State.HaltsProcessor { s with proc := p, port := q }
      (State.haltedBlocks { s with proc := p, port := q } cause).finishWaitingStop.announceHalt last := by
    rw [State.announceHalt_eq]
    exact ⟨proc.idle, proc.empty, proc.waits, proc.answers⟩
  refine ⟨_, r, last, run, regs, processor.idle, ?_, ?_, ?_, ?_, ?_, fun hw => processor.empty (waiting.trans hw), fun d hd k hk => ⟨fun hf => ?_, fun hf => ?_⟩,
    fun c => ?_, linkUp, ?_⟩
  · rw [State.announceHalt_eq]; exact pools
  · rw [State.announceHalt_eq]; exact mem
  · rw [State.announceHalt_eq]; exact pending
  · rw [State.announceHalt_eq]; exact cpl
  · rw [State.announceHalt_eq]
    exact answered.trans (congrArg (· ++ last) posted)
  · obtain ⟨e, he⟩ := Option.isSome_iff_exists.mp (waits.stop d hd)
    refine processor.waits d (waiting.trans hd) k (hand.trans hk) ?_
    rw [channel] at hf ⊢
    rw [(((each d).1.ending e he).1 hf).2]
    exact nofun
  · refine processor.answers d (waiting.trans hd) k (hand.trans hk) ?_
    rw [channel] at hf ⊢
    exact ((each d).1.ended hf).2.2.1
  · obtain ⟨halts, working, committed, genCounter⟩ := each c
    have here := channel c
    rw [← here] at halts working committed genCounter
    refine ⟨working, committed, genCounter, halts.ended, halts.closes, halts.off, halts.faulted, fun hrun hend => ?_, fun e he => ⟨fun hf => ?_, ?_⟩,
      fun e f g first he hf hrow hhead hfcredit hgcredit hn hfirst => ?_⟩
    · have cuttable : (s.ch c).Cuttable := ⟨rows c, hend, hq c⟩
      have accounts := books.chans c
      obtain ⟨same, records⟩ := halts.run hrun hend
      have hfree : (s.ch c).inFreeRun = true := Channel.inFreeRun_iff.mpr ⟨hrun, hend⟩
      obtain ⟨link, _, timer, combiner, _, _, aborted, _, stays⟩ :=
        Channel.cut_concludes (c := c) cuttable (.stopped .halt) ((s.ch c).link.send .halt) (s.ch c).faultCause false same
      refine ⟨timer, ?_, combiner, aborted, fun hf => ?_, State.abortPosts_of cuttable (congrArg Channel.frames same) records⟩
      · rw [link, Link.send, if_pos (accounts.free hfree).1]
      · obtain ⟨state, standing, ending, table, _⟩ := stays hf
        exact ⟨ending, state, standing.trans (accounts.run hrun).1, table⟩
    · obtain ⟨state, ending⟩ := (halts.ending e he).1 hf
      refine ⟨state, ending.trans (congrArg some ?_)⟩
      exact e.halted_eq
    · intro f tag hf _ hrow hhead htag hcredit hn
      rw [halts.one (haltable c) he hf hrow hhead htag hcredit hn]
      have same := quiet hi c e he
      obtain ⟨event, thenHalt⟩ := e
      cases event with
      | stopped _ => rw [show thenHalt = false from same]; rfl
      | faulted _ => rfl
    · rw [halts.two (haltable c) he hf hrow hhead hfcredit hgcredit hn hfirst]
      have same := quiet hi c e he
      obtain ⟨event, thenHalt⟩ := e
      cases event with
      | stopped _ => rw [show thenHalt = false from same]; rfl
      | faulted _ => rfl
  · rw [linkUp, port]
    show q.messages ++ (if s.regs.intEnable = true ∧ q.linkUp = true ∧ q.msiEnabled = true then [Interrupt.error] else []) = _
    rw [messages, up, msi]

end

end Sys2Proof.Machine
end
